-- ==== Sys2Proof/Word.lean ====
section
/-! DEFINITION. The words of the request link: one byte, and the fields of two, three and four bytes (R183). -/

namespace Sys2Proof

/-- One byte of the SPI link, and of a one-byte field (R174, R183). -/
abbrev Byte := BitVec 8

/-- A two-byte field (R183). -/
abbrev Half := BitVec 16

/-- The three-byte enable mask of ENABLE_NOTICE and DISABLE_NOTICE (R187). -/
abbrev Tri := BitVec 24

/-- The four-byte withhold mask (R53, R183). -/
abbrev Quad := BitVec 32

end Sys2Proof
end

