-- ==== Sys2Proof/Syntax.lean ====
section
/-! DEFINITION. The commands the part takes: one constructor for each row of the table of
operations and events, with the payload fields of a request at their wire widths (R183), the
samples of an arrival (R29) and the pin levels of a reset (R178). -/

namespace Sys2Proof

/-- One sample of an arrival: the reading and the valid flag the front end's conversion checks set
(R29). A reading may lie below the channel's range (R30). -/
structure Sample where
  value : Int
  valid : Bool
deriving DecidableEq, Repr

/-- The six discrete inputs (R34, R35). -/
inductive DInput where
  | park | seat | detA | detB | extUp | extDown
deriving DecidableEq, Repr

/-- The GEARSET strap: four or six speed packs (R48). -/
inductive GearSet where
  | four | six
deriving DecidableEq, Repr

/-- The FDKIND strap: how the front-drive pack is built (R136). -/
inductive FdKind where
  | spring | pressure
deriving DecidableEq, Repr

/-- The three coupling points (R3). -/
inductive Point where
  | hitch | drawbar | towthru
deriving DecidableEq, Repr

/-- The two partner packs of a calibration, in the order of the table of R121. -/
inductive Partner where
  | first | second
deriving DecidableEq, Repr

/-- The draft block of an implement field set as it is carried (R6, R183). -/
structure DraftWire where
  ds : Half
  gd : Byte
  m : Byte
deriving DecidableEq, Repr

/-- A complete field set as ATTACH and AMEND carry it, with its optional part present or absent
(R6, R7, R183). -/
inductive FieldSet where
  | implement (pmax pmin ps : Half) (db kq drop : Byte) (sl : Half) (draft : Option DraftWire)
  | trailer (m : Half) (gt : Byte) (pld : Half) (pas : Option Half)
deriving DecidableEq, Repr

/-- The ten parameters SET_SHIFT_PROFILE carries (R83, R183). -/
structure ProfileWire where
  span : Byte
  interval : Half
  tbase : Half
  tmin : Half
  tstart : Half
  tc : Half
  tcStart : Half
  shuttle : Half
  rstart : Half
  window : Byte
deriving DecidableEq, Repr

/-- The mode and the six parameters SET_FRONT carries (R131, R183). -/
structure FrontWire where
  mode : Byte
  thOn : Half
  thOff : Half
  dwell : Byte
  releaseSpeed : Half
  releaseDelay : Half
  trailerThreshold : Half
deriving DecidableEq, Repr

/-- A command. A request is one whole transaction whose frame passes the checks of R175; its
operand `extra` is how many bytes the host goes on clocking after the request frame (R174). -/
inductive Instr where
  -- requests of the link and the Notice Set
  | nop (extra : Nat)
  | takeNotice (extra : Nat)
  | status (extra : Nat)
  | setCondition (extra : Nat) (mask : Byte)
  | clearCondition (extra : Nat) (mask : Byte)
  | enableNotice (extra : Nat) (mask : Tri)
  | disableNotice (extra : Nat) (mask : Tri)
  | softReset (extra : Nat)
  -- requests of the Coupling Table
  | attach (extra : Nat) (point : Byte) (tag : Half) (fields : FieldSet)
  | amend (extra : Nat) (handle : Byte) (fields : FieldSet)
  | retire (extra : Nat) (handle : Byte)
  | restore (extra : Nat) (handle : Byte)
  | lookup (extra : Nat) (selector : Byte) (key : Half)
  -- requests of the Ratio Map
  | defineRatio (extra : Nat) (index direction speed range : Byte) (rn : Half)
  | clearRatio (extra : Nat) (index : Byte)
  | readRatio (extra : Nat) (index : Byte)
  | withhold (extra : Nat) (mask : Quad)
  | unwithhold (extra : Nat) (mask : Quad)
  -- requests of the Pack Records and the Calibration Unit
  | readPack (extra : Nat) (pack : Byte)
  | amendPack (extra : Nat) (pack pf : Byte) (tf tfMin tfMax : Half) (pl : Byte)
  | clearFault (extra : Nat) (pack : Byte)
  | calibrate (extra : Nat) (pack : Byte) (interval : Half)
  -- requests of the Shift Engine
  | select (extra : Nat) (index : Byte)
  | step (extra : Nat) (count : Byte)
  | halt (extra : Nat)
  | setShiftProfile (extra : Nat) (profile : ProfileWire)
  -- requests of the Front Drive Controller and the Hitch Controller
  | setFront (extra : Nat) (front : FrontWire)
  | hitchHold (extra : Nat)
  | hitchWork (extra : Nat)
  | hitchGoto (extra : Nat) (position : Half) (opening : Byte)
  | hitchTransport (extra : Nat) (opening : Byte)
  | hitchReturn (extra : Nat) (opening : Byte)
  -- requests of the Traction Estimator and the Fill Supply Arbiter
  | setTraction (extra : Nat) (kw vmin bth : Half)
  | setSupply (extra : Nat) (pcMin : Byte)
  -- the other transactions and the resets
  | frameRejected (bytes : List Byte)
  | windowTransaction (clocked : Nat)
  | startUpWindowClose
  | powerOnReset (gearset : GearSet) (fdkind : FdKind)
  | rstHeldLow
  | hardReset (gearset : GearSet) (fdkind : FdKind)
  -- the arrivals
  | speedPairArrival (ne no : Sample)
  | groundSpeedArrival (vg : Sample)
  | hitchSetArrival (p dl dr : Sample)
  | pedalSetArrival (bl br : Sample)
  | chargeArrival (pc : Sample)
  | lineArrival (pt : Sample)
  -- the discrete inputs
  | rawInputChange (input : DInput) (present : Bool)
  | debounceTimerExpiry (input : DInput)
  -- the timers and the arbiter's own steps
  | pendingTimerExpiry (point : Point)
  | seatTimerExpiry
  | supplyWaitTimerExpiry
  | fillTimerExpiry
  | handoverTimerExpiry
  | confirmTimerExpiry
  | intervalTimerExpiry
  | fillSupplyGrant
  | partnerFillTimerExpiry (partner : Partner)
  | settleTimerExpiry
  | stepTimerExpiry
  | releaseDelayTimerExpiry
  | fdpFillTimerExpiry
  | travelTimerExpiry
  | retireWatch
  | noByteTransaction
deriving DecidableEq, Repr

end Sys2Proof
end

