-- ==== Sys2Proof/Decode.lean ====
section
/-! DEFINITION. The request frames of the link: their bytes, the CRC-8, the checks of R175 and the
request a frame carries, and the frame that spells a request. The table of operations and events
gives no row bits, so `decodeTableWord` answers none. -/

namespace Sys2Proof

/-- The more significant byte of a two-byte field, which is sent first (R183). -/
def Half.hi (h : Half) : Byte := BitVec.ofNat 8 (h.toNat / 256)

/-- The less significant byte of a two-byte field (R183). -/
def Half.lo (h : Half) : Byte := BitVec.ofNat 8 h.toNat

/-- The two-byte field whose bytes are `hi` and `lo` (R183). -/
def joinHalf (hi lo : Byte) : Half := BitVec.ofNat 16 (hi.toNat * 256 + lo.toNat)

/-- The bytes of a two-byte field, most significant first (R183). -/
def Half.bytes (h : Half) : List Byte := [h.hi, h.lo]

/-- The bytes of a three-byte mask, most significant first (R187). -/
def Tri.bytes (m : Tri) : List Byte :=
  [BitVec.ofNat 8 (m.toNat / 65536), BitVec.ofNat 8 (m.toNat / 256), BitVec.ofNat 8 m.toNat]

/-- The three-byte mask whose bytes these are (R187). -/
def joinTri (a b c : Byte) : Tri := BitVec.ofNat 24 ((a.toNat * 256 + b.toNat) * 256 + c.toNat)

/-- The bytes of a four-byte mask, most significant first (R183). -/
def Quad.bytes (m : Quad) : List Byte :=
  [BitVec.ofNat 8 (m.toNat / 16777216), BitVec.ofNat 8 (m.toNat / 65536),
   BitVec.ofNat 8 (m.toNat / 256), BitVec.ofNat 8 m.toNat]

/-- The four-byte mask whose bytes these are (R183). -/
def joinQuad (a b c d : Byte) : Quad :=
  BitVec.ofNat 32 (((a.toNat * 256 + b.toNat) * 256 + c.toNat) * 256 + d.toNat)

/-- One shift of the CRC register: the outgoing top bit calls in the polynomial 2Fh (R176). -/
def crcShift (r : Byte) : Byte := if r.msb then (r <<< 1) ^^^ 0x2F#8 else r <<< 1

/-- One byte taken into the CRC register: exclusive-OR, then eight shifts (R176). -/
def crcByte (r b : Byte) : Byte :=
  crcShift (crcShift (crcShift (crcShift (crcShift (crcShift (crcShift (crcShift (r ^^^ b))))))))

/-- The CRC-8 of a run of bytes, from a register of FFh (R176). -/
def crc8 (bs : List Byte) : Byte := bs.foldl crcByte 0xFF#8

/-- The payload lengths a request code allows; none for a code that is no request (R177). -/
def allowedLengths (code : Nat) : Option (List Nat) :=
  match code with
  | 0x01 | 0x02 | 0x03 | 0x08 | 0x42 | 0x60 | 0x61 => some [0]
  | 0x04 | 0x05 | 0x12 | 0x13 | 0x21 | 0x22 | 0x30 | 0x32 | 0x40 | 0x41 | 0x63 | 0x64 | 0x71 => some [1]
  | 0x06 | 0x07 | 0x14 | 0x33 | 0x62 => some [3]
  | 0x23 | 0x24 => some [4]
  | 0x20 | 0x70 => some [6]
  | 0x31 => some [9]
  | 0x50 => some [12]
  | 0x43 => some [18]
  | 0x10 => some [8, 10, 14, 18]
  | 0x11 => some [6, 8, 12, 16]
  | _ => none

/-- The field set a run of bytes spells: 11 or 15 bytes an implement, 5 or 7 a trailer (R183). -/
def readFieldSet (bs : List Byte) : Option FieldSet :=
  match bs with
  | [m1, m0, gt, l1, l0] => some (.trailer (joinHalf m1 m0) gt (joinHalf l1 l0) none)
  | [m1, m0, gt, l1, l0, a1, a0] =>
    some (.trailer (joinHalf m1 m0) gt (joinHalf l1 l0) (some (joinHalf a1 a0)))
  | [x1, x0, n1, n0, s1, s0, db, kq, drop, l1, l0] =>
    some (.implement (joinHalf x1 x0) (joinHalf n1 n0) (joinHalf s1 s0) db kq drop (joinHalf l1 l0) none)
  | [x1, x0, n1, n0, s1, s0, db, kq, drop, l1, l0, d1, d0, gd, m] =>
    some (.implement (joinHalf x1 x0) (joinHalf n1 n0) (joinHalf s1 s0) db kq drop (joinHalf l1 l0)
      (some ⟨joinHalf d1 d0, gd, m⟩))
  | _ => none

/-- The request of a code whose payload is one byte. -/
def readOneByte (code : Nat) (b : Byte) (extra : Nat) : Option Instr :=
  match code with
  | 0x04 => some (.setCondition extra b)
  | 0x05 => some (.clearCondition extra b)
  | 0x12 => some (.retire extra b)
  | 0x13 => some (.restore extra b)
  | 0x21 => some (.clearRatio extra b)
  | 0x22 => some (.readRatio extra b)
  | 0x30 => some (.readPack extra b)
  | 0x32 => some (.clearFault extra b)
  | 0x40 => some (.select extra b)
  | 0x41 => some (.step extra b)
  | 0x63 => some (.hitchTransport extra b)
  | 0x64 => some (.hitchReturn extra b)
  | 0x71 => some (.setSupply extra b)
  | _ => none

/-- The request of a code whose payload is empty. -/
def readEmpty (code : Nat) (extra : Nat) : Option Instr :=
  match code with
  | 0x01 => some (.nop extra)
  | 0x02 => some (.takeNotice extra)
  | 0x03 => some (.status extra)
  | 0x08 => some (.softReset extra)
  | 0x42 => some (.halt extra)
  | 0x60 => some (.hitchHold extra)
  | 0x61 => some (.hitchWork extra)
  | _ => none

/-- The request a code and a payload of three bytes spell. -/
def readThreeBytes (code : Nat) (a b c : Byte) (extra : Nat) : Option Instr :=
  match code with
  | 0x06 => some (.enableNotice extra (joinTri a b c))
  | 0x07 => some (.disableNotice extra (joinTri a b c))
  | 0x14 => some (.lookup extra a (joinHalf b c))
  | 0x33 => some (.calibrate extra a (joinHalf b c))
  | 0x62 => some (.hitchGoto extra (joinHalf a b) c)
  | _ => none

/-- ATTACH: the point, the tag, a field set (R183). -/
def readAttach (p : List Byte) (extra : Nat) : Option Instr :=
  match p with
  | point :: t1 :: t0 :: rest => (readFieldSet rest).map (.attach extra point (joinHalf t1 t0))
  | _ => none

/-- AMEND: the handle, a field set (R183). -/
def readAmend (p : List Byte) (extra : Nat) : Option Instr :=
  match p with
  | handle :: rest => (readFieldSet rest).map (.amend extra handle)
  | _ => none

/-- SET_SHIFT_PROFILE: the ten parameters in the order of R83 (R183). -/
def readProfile (p : List Byte) (extra : Nat) : Option Instr :=
  match p with
  | [s, i1, i0, b1, b0, m1, m0, t1, t0, c1, c0, d1, d0, h1, h0, r1, r0, w] =>
    some (.setShiftProfile extra
      ⟨s, joinHalf i1 i0, joinHalf b1 b0, joinHalf m1 m0, joinHalf t1 t0, joinHalf c1 c0,
       joinHalf d1 d0, joinHalf h1 h0, joinHalf r1 r0, w⟩)
  | _ => none

/-- SET_FRONT: the mode and the six parameters in the order of R131 (R183). -/
def readFront (p : List Byte) (extra : Nat) : Option Instr :=
  match p with
  | [mode, n1, n0, f1, f0, dwell, s1, s0, d1, d0, t1, t0] =>
    some (.setFront extra
      ⟨mode, joinHalf n1 n0, joinHalf f1 f0, dwell, joinHalf s1 s0, joinHalf d1 d0, joinHalf t1 t0⟩)
  | _ => none

/-- The request a code and its payload spell (R177, R183). -/
def readRequest (code : Nat) (p : List Byte) (extra : Nat) : Option Instr :=
  match code with
  | 0x10 => readAttach p extra
  | 0x11 => readAmend p extra
  | 0x43 => readProfile p extra
  | 0x50 => readFront p extra
  | _ =>
    match p with
    | [] => readEmpty code extra
    | [b] => readOneByte code b extra
    | [a, b, c] => readThreeBytes code a b c extra
    | [a, b, c, d] =>
      match code with
      | 0x23 => some (.withhold extra (joinQuad a b c d))
      | 0x24 => some (.unwithhold extra (joinQuad a b c d))
      | _ => none
    | [a, b, c, d, e, f] =>
      match code with
      | 0x20 => some (.defineRatio extra a b c d (joinHalf e f))
      | 0x70 => some (.setTraction extra (joinHalf a b) (joinHalf c d) (joinHalf e f))
      | _ => none
    | [pack, pf, t1, t0, n1, n0, x1, x0, pl] =>
      match code with
      | 0x31 => some (.amendPack extra pack pf (joinHalf t1 t0) (joinHalf n1 n0) (joinHalf x1 x0) pl)
      | _ => none
    | _ => none

/-- What the frame receiver finds of the bytes of a transaction (R175). -/
inductive Verdict where
  | badFrame
  | unknown
  | accepted (request : Instr)
deriving DecidableEq, Repr

/-- The checks of R175, in their order, over the bytes of one transaction. -/
def judge (bytes : List Byte) : Verdict :=
  match bytes with
  | code :: len :: rest =>
    let n := len.toNat
    if 30 < n then .badFrame
    else if rest.length < n + 1 then .badFrame
    else if rest.getD n 0#8 ≠ crc8 (code :: len :: rest.take n) then .badFrame
    else
      match allowedLengths code.toNat with
      | none => .unknown
      | some lengths =>
        if n ∈ lengths then
          match readRequest code.toNat (rest.take n) (rest.length - (n + 1)) with
          | some i => .accepted i
          | none => .badFrame
        else .badFrame
  | _ => .badFrame

/-- The bytes of a field set (R183). -/
def FieldSet.bytes (f : FieldSet) : List Byte :=
  match f with
  | .implement pmax pmin ps db kq drop sl none =>
    pmax.bytes ++ pmin.bytes ++ ps.bytes ++ [db, kq, drop] ++ sl.bytes
  | .implement pmax pmin ps db kq drop sl (some d) =>
    pmax.bytes ++ pmin.bytes ++ ps.bytes ++ [db, kq, drop] ++ sl.bytes ++ d.ds.bytes ++ [d.gd, d.m]
  | .trailer m gt pld none => m.bytes ++ [gt] ++ pld.bytes
  | .trailer m gt pld (some pas) => m.bytes ++ [gt] ++ pld.bytes ++ pas.bytes

/-- A request's code, its payload and the bytes clocked after its frame (R177, R183); none for a
command that is no request. -/
def requestParts (i : Instr) : Option (Byte × List Byte × Nat) :=
  match i with
  | .nop extra => some (0x01, [], extra)
  | .takeNotice extra => some (0x02, [], extra)
  | .status extra => some (0x03, [], extra)
  | .setCondition extra mask => some (0x04, [mask], extra)
  | .clearCondition extra mask => some (0x05, [mask], extra)
  | .enableNotice extra mask => some (0x06, mask.bytes, extra)
  | .disableNotice extra mask => some (0x07, mask.bytes, extra)
  | .softReset extra => some (0x08, [], extra)
  | .attach extra point tag fields => some (0x10, [point] ++ tag.bytes ++ fields.bytes, extra)
  | .amend extra handle fields => some (0x11, [handle] ++ fields.bytes, extra)
  | .retire extra handle => some (0x12, [handle], extra)
  | .restore extra handle => some (0x13, [handle], extra)
  | .lookup extra selector key => some (0x14, [selector] ++ key.bytes, extra)
  | .defineRatio extra index direction speed range rn =>
    some (0x20, [index, direction, speed, range] ++ rn.bytes, extra)
  | .clearRatio extra index => some (0x21, [index], extra)
  | .readRatio extra index => some (0x22, [index], extra)
  | .withhold extra mask => some (0x23, mask.bytes, extra)
  | .unwithhold extra mask => some (0x24, mask.bytes, extra)
  | .readPack extra pack => some (0x30, [pack], extra)
  | .amendPack extra pack pf tf tfMin tfMax pl =>
    some (0x31, [pack, pf] ++ tf.bytes ++ tfMin.bytes ++ tfMax.bytes ++ [pl], extra)
  | .clearFault extra pack => some (0x32, [pack], extra)
  | .calibrate extra pack interval => some (0x33, [pack] ++ interval.bytes, extra)
  | .select extra index => some (0x40, [index], extra)
  | .step extra count => some (0x41, [count], extra)
  | .halt extra => some (0x42, [], extra)
  | .setShiftProfile extra p =>
    some (0x43, [p.span] ++ p.interval.bytes ++ p.tbase.bytes ++ p.tmin.bytes ++ p.tstart.bytes ++ p.tc.bytes
      ++ p.tcStart.bytes ++ p.shuttle.bytes ++ p.rstart.bytes ++ [p.window], extra)
  | .setFront extra f =>
    some (0x50, [f.mode] ++ f.thOn.bytes ++ f.thOff.bytes ++ [f.dwell] ++ f.releaseSpeed.bytes
      ++ f.releaseDelay.bytes ++ f.trailerThreshold.bytes, extra)
  | .hitchHold extra => some (0x60, [], extra)
  | .hitchWork extra => some (0x61, [], extra)
  | .hitchGoto extra position opening => some (0x62, position.bytes ++ [opening], extra)
  | .hitchTransport extra opening => some (0x63, [opening], extra)
  | .hitchReturn extra opening => some (0x64, [opening], extra)
  | .setTraction extra kw vmin bth => some (0x70, kw.bytes ++ vmin.bytes ++ bth.bytes, extra)
  | .setSupply extra pcMin => some (0x71, [pcMin], extra)
  | .frameRejected _ => none
  | .windowTransaction _ => none
  | .startUpWindowClose => none
  | .powerOnReset _ _ => none
  | .rstHeldLow => none
  | .hardReset _ _ => none
  | .speedPairArrival _ _ => none
  | .groundSpeedArrival _ => none
  | .hitchSetArrival _ _ _ => none
  | .pedalSetArrival _ _ => none
  | .chargeArrival _ => none
  | .lineArrival _ => none
  | .rawInputChange _ _ => none
  | .debounceTimerExpiry _ => none
  | .pendingTimerExpiry _ => none
  | .seatTimerExpiry => none
  | .supplyWaitTimerExpiry => none
  | .fillTimerExpiry => none
  | .handoverTimerExpiry => none
  | .confirmTimerExpiry => none
  | .intervalTimerExpiry => none
  | .fillSupplyGrant => none
  | .partnerFillTimerExpiry _ => none
  | .settleTimerExpiry => none
  | .stepTimerExpiry => none
  | .releaseDelayTimerExpiry => none
  | .fdpFillTimerExpiry => none
  | .travelTimerExpiry => none
  | .retireWatch => none
  | .noByteTransaction => none

/-- The frame of a code and a payload: code, length, payload, CRC-8 (R183). -/
def frameOf (code : Byte) (payload : List Byte) : List Byte :=
  let body := code :: BitVec.ofNat 8 payload.length :: payload
  body ++ [crc8 body]

/-- The bytes the host clocks for a request: its frame, then 00h for each byte it goes on clocking
(R174, R183); empty for a command that is no request. -/
def encode (i : Instr) : List Byte :=
  match requestParts i with
  | none => []
  | some (code, payload, extra) => frameOf code payload ++ List.replicate extra 0#8

/-- The command a word of the table spells. The table gives no row bits. -/
def decodeTableWord (_nbits _w : Nat) : Option Instr := none

end Sys2Proof
end

