-- ==== Sys2Proof/Config.lean ====
section
/-! DEFINITION. The free values: what the manual leaves open, as constants with no body, so that
no proof can see what they are. -/

namespace Sys2Proof.Config

/-- Which of two blocks takes an event first, where the manual says they take it in either order
(R32, R35, R26); one fresh choice for each value of the draw counter. A free value; log 9. -/
opaque freeOrder : Nat → Bool

/-- The place of a notice among the others appended at the same event, where R185 says that either
may stand before the other: for a draw and a notice's position, a rank. A free value; log 8. -/
opaque freeRank : Nat → Nat → Nat

end Sys2Proof.Config
end

