-- ==== Sys2Proof/Machine/Types.lean ====
section
/-! DEFINITION. The parts of State: one structure for each block of the part (00, Block Overview),
plain data, with the manual's names. Timers hold the milliseconds left to run; a stopped timer is
none. -/

namespace Sys2Proof.Machine

/-! ## Measurement Front End -/

/-- The state of an analog channel (R29). -/
inductive ChanState where
  | ok | stale | failed
deriving DecidableEq, Repr

/-- A channel record: held value, state, invalid run (R29). -/
structure Chan where
  held : Nat
  state : ChanState
  run : Nat
deriving DecidableEq, Repr

/-- The candidate level of a discrete input, with what is left of its 20 ms debounce timer (R34). -/
structure Candidate where
  level : Bool
  left : Nat
deriving DecidableEq, Repr

/-- A discrete input: the raw pin level, the debounced level, and the candidate level while the
debounce timer runs (R34). True is present. -/
structure Contact where
  raw : Bool
  level : Bool
  candidate : Option Candidate
deriving DecidableEq, Repr

/-- The six discrete inputs (R34). -/
structure Inputs where
  park : Contact
  seat : Contact
  detA : Contact
  detB : Contact
  extUp : Contact
  extDown : Contact
deriving DecidableEq, Repr

/-- The Measurement Front End: ten channel records and six discrete inputs (R29, R34). -/
structure FrontEnd where
  ne : Chan
  no : Chan
  vg : Chan
  p : Chan
  dl : Chan
  dr : Chan
  bl : Chan
  br : Chan
  pc : Chan
  pt : Chan
  inputs : Inputs
deriving DecidableEq, Repr

/-! ## Traction Estimator -/

/-- The Traction Estimator (R37 to R45). `rm` is none for "no ratio" (R38). -/
structure Traction where
  kw : Nat
  vmin : Nat
  bth : Nat
  vw : Nat
  rm : Option Nat
  slip : Nat
  slipValid : Bool
  braking : Bool
  bt : Nat
  pedalLoss : Bool
  loadIndex : Nat
deriving DecidableEq, Repr

/-! ## Coupling Table -/

/-- The draft block of an implement record (R6). -/
structure DraftBlock where
  ds : Nat
  gd : Nat
  m : Nat
deriving DecidableEq, Repr

/-- The fields of an IMPLEMENT record (R6). -/
structure ImplementFields where
  pmax : Nat
  pmin : Nat
  ps : Nat
  db : Nat
  kq : Nat
  drop : Nat
  sl : Nat
  draft : Option DraftBlock
deriving DecidableEq, Repr

/-- The fields of a TRAILER record (R7). -/
structure TrailerFields where
  m : Nat
  gt : Nat
  pld : Nat
  pas : Option Nat
deriving DecidableEq, Repr

/-- The states a HITCH record takes (R3). PENDING carries its pending timer (R10). -/
inductive ImplementState where
  | pending (timer : Nat)
  | active
deriving DecidableEq, Repr

/-- The states RESTORE can return a record to (R13, R20, R22). -/
inductive ReturnState where
  | pending | active | degraded
deriving DecidableEq, Repr

/-- The states a trailer record takes (R3). PENDING carries its pending timer, which runs in that
state alone (R10); RETIRING carries its return state (R3). -/
inductive TrailerState where
  | pending (timer : Nat)
  | active
  | degraded
  | lost
  | retiring (back : ReturnState)
deriving DecidableEq, Repr

/-- An IMPLEMENT record in use (R3). The staged-pending flag is set while `staged` holds a copy. -/
structure ImplementRecord where
  handle : Nat
  tag : Nat
  state : ImplementState
  fields : ImplementFields
  staged : Option ImplementFields
deriving DecidableEq, Repr

/-- A TRAILER record in use (R3). -/
structure TrailerRecord where
  handle : Nat
  tag : Nat
  state : TrailerState
  fields : TrailerFields
  staged : Option TrailerFields
deriving DecidableEq, Repr

/-- The Coupling Table: three entries, the handle counter and the towed mass (R3, R4, R25). -/
structure Coupling where
  hitch : Option ImplementRecord
  drawbar : Option TrailerRecord
  towthru : Option TrailerRecord
  counter : Nat
  mtow : Nat
deriving DecidableEq, Repr

/-! ## Pack records and the Ratio Map -/

/-- The twelve packs (R56). -/
inductive PackId where
  | fwd | rev | sp1 | sp2 | sp3 | sp4 | sp5 | sp6 | rngA | rngB | rngC | fdp
deriving DecidableEq, Repr

/-- The five calibration fields of a pack record (R56). -/
structure PackFields where
  pf : Nat
  tf : Nat
  tfMin : Nat
  tfMax : Nat
  pl : Nat
deriving DecidableEq, Repr

/-- A pack's fault cause (R56). -/
inductive FaultCause where
  | none | confirm | cal
deriving DecidableEq, Repr

/-- The seven pack states (R60). A ramp carries its duration and its elapsed milliseconds, and a
fall also the command it started from (R78, R79). -/
inductive PackState where
  | released
  | fill
  | rising (duration elapsed : Nat)
  | locked
  | falling (start duration elapsed : Nat)
  | calStep
  | fault
deriving DecidableEq, Repr

/-- A pack record (R56). The staged flag is set while `staged` holds a copy. -/
structure PackRecord where
  active : PackFields
  atLimit : Nat
  cause : FaultCause
  state : PackState
  staged : Option PackFields
deriving DecidableEq, Repr

/-- The twelve pack records (R56). -/
structure PackFile where
  fwd : PackRecord
  rev : PackRecord
  sp1 : PackRecord
  sp2 : PackRecord
  sp3 : PackRecord
  sp4 : PackRecord
  sp5 : PackRecord
  sp6 : PackRecord
  rngA : PackRecord
  rngB : PackRecord
  rngC : PackRecord
  fdp : PackRecord
deriving DecidableEq, Repr

/-- A ratio's direction, and its direction pack (R47). -/
inductive Direction where
  | fwd | rev
deriving DecidableEq, Repr

/-- The speed packs (R47). -/
inductive SpeedPack where
  | sp1 | sp2 | sp3 | sp4 | sp5 | sp6
deriving DecidableEq, Repr

/-- The range packs (R47). -/
inductive RangePack where
  | rngA | rngB | rngC
deriving DecidableEq, Repr

/-- A defined ratio entry with its index and its usability (R47, R54). -/
structure RatioEntry where
  index : Nat
  direction : Direction
  speed : SpeedPack
  range : RangePack
  rn : Nat
  usable : Bool
deriving DecidableEq, Repr

/-- The Ratio Map: the defined entries by rising index, an index not listed being undefined and
unusable (R47, R54), and the withhold mask, whose bit k - 1 is that of index k (R53). -/
structure RatioMap where
  entries : List RatioEntry
  withheld : Quad
deriving DecidableEq, Repr

/-! ## Fill Supply Arbiter -/

/-- The requesters of the fill supply (R70). -/
inductive Requester where
  | shift | front | cal
deriving DecidableEq, Repr

/-- The charge state (R66). -/
inductive ChargeState where
  | ok | low
deriving DecidableEq, Repr

/-- The waiting set: each requester at most once (R70). -/
structure Waiting where
  shift : Bool
  front : Bool
  cal : Bool
deriving DecidableEq, Repr

/-- The Fill Supply Arbiter (R66, R68, R70). -/
structure Supply where
  charge : ChargeState
  pcMin : Nat
  holder : Option Requester
  fillList : List PackId
  waiting : Waiting
deriving DecidableEq, Repr

/-! ## Shift Engine -/

/-- The engine states (R81). -/
inductive EngineState where
  | settled | interval | supplyWait | fill | handover | confirm | calHold
deriving DecidableEq, Repr

/-- The kinds of shift (R96). -/
inductive ShiftKind where
  | startOff | rolling | upshift | downshift | directionChange
deriving DecidableEq, Repr

/-- The class of an onset observation (R114). -/
inductive OnsetClass where
  | early | good | late
deriving DecidableEq, Repr

/-- The shift record (R81). `neRef` is captured at FILL entry, `loadIndex` and `handover` (T) at
HANDOVER start, and each stands at 0 before. `sinceHandover` is the time since HANDOVER start in
milliseconds. `onset` is none while the observation is "not seen" (R114). -/
structure ShiftRecord where
  origin : Nat
  dest : Nat
  kind : ShiftKind
  offGoing : List PackId
  onComing : List PackId
  common : List PackId
  neRef : Nat
  loadIndex : Nat
  handover : Nat
  sinceHandover : Nat
  confirmRun : Nat
  onset : Option OnsetClass
deriving DecidableEq, Repr

/-- The shift profile (R83). -/
structure Profile where
  span : Nat
  interval : Nat
  tbase : Nat
  tmin : Nat
  tstart : Nat
  tc : Nat
  tcStart : Nat
  shuttle : Nat
  rstart : Nat
  window : Nat
deriving DecidableEq, Repr

/-- The Shift Engine (R81). `timer` is the timer of the present engine state: the interval timer in
INTERVAL, the supply-wait timer in SUPPLY_WAIT, the fill, handover and confirm timers in theirs. -/
structure Engine where
  pr : Nat
  nr : Nat
  lastDir : Direction
  state : EngineState
  timer : Option Nat
  record : Option ShiftRecord
  halt : Bool
  downshift : Bool
  latchSignal : Bool
  seatTimer : Option Nat
  profile : Profile
deriving DecidableEq, Repr

/-! ## Calibration Unit -/

/-- The phases of a running calibration; IDLE is the absence of one (R119). -/
inductive CalPhase where
  | waiting | filling | settling | stepping
deriving DecidableEq, Repr

/-- A running calibration: what the unit holds outside IDLE, and the timers, which run in no other
phase (R119). -/
structure CalJob where
  phase : CalPhase
  pack : PackId
  partner1 : PackId
  partner2 : PackId
  fill1 : Option Nat
  fill2 : Option Nat
  settle : Option Nat
  step : Option Nat
deriving DecidableEq, Repr

/-- The Calibration Unit: IDLE, or a running calibration, and what it holds in every phase: the step
interval, Ne_ref and the step count (R119). The end of a calibration leaves the three as they are; what
the first two hold after a reset is the model's choice, log 32. -/
structure CalUnit where
  job : Option CalJob
  interval : Nat
  neRef : Nat
  stepCount : Nat
deriving DecidableEq, Repr

/-! ## Front Drive Controller -/

/-- The front modes (R130). -/
inductive FrontMode where
  | off | on | auto
deriving DecidableEq, Repr

/-- The pack phases of the front drive (R130). -/
inductive FrontPhase where
  | rest | waiting | filling | holding
deriving DecidableEq, Repr

/-- The six front parameters (R131). -/
structure FrontParams where
  thOn : Nat
  thOff : Nat
  dwell : Nat
  releaseSpeed : Nat
  releaseDelay : Nat
  trailerThreshold : Nat
deriving DecidableEq, Repr

/-- The Front Drive Controller (R130). `engage` is the demand. -/
structure FrontDrive where
  mode : FrontMode
  params : FrontParams
  latch : Bool
  onRun : Nat
  offRun : Nat
  brakingRecord : Bool
  releaseTimer : Option Nat
  engage : Bool
  phase : FrontPhase
  fillTimer : Option Nat
deriving DecidableEq, Repr

/-! ## Hitch Controller -/

/-- The travel purposes; GOTO keeps the requested position (R143). -/
inductive Purpose where
  | goto (requested : Nat)
  | transport
  | return
deriving DecidableEq, Repr

/-- The manual directions (R143). -/
inductive ManualDir where
  | up | down
deriving DecidableEq, Repr

/-- The hitch modes; TRAVEL carries its purpose, target and travel timer (R143). -/
inductive HitchMode where
  | hold
  | work
  | travel (purpose : Purpose) (target : Nat) (timer : Nat)
  | manual (dir : ManualDir)
  | locked
deriving DecidableEq, Repr

/-- A draft and its draft-usable flag (R146). -/
structure Draft where
  value : Nat
  usable : Bool
deriving DecidableEq, Repr

/-- The Hitch Controller (R143). `latch` is none while the draft latch is free (R147). -/
structure Hitch where
  mode : HitchMode
  travelOpening : Nat
  raise : Nat
  lower : Nat
  formed : Draft
  latch : Option Draft
  draftLoss : Bool
deriving DecidableEq, Repr

/-! ## Trailer Brake Controller -/

/-- The demand cases (R163). -/
inductive DemandCase where
  | empty | full | weighted
deriving DecidableEq, Repr

/-- The Trailer Brake Controller (R163). -/
structure TrailerBrake where
  demand : Nat
  case : DemandCase
  faultRun : Nat
  faultEpisode : Bool
deriving DecidableEq, Repr

/-! ## Request Link -/

/-- The reply statuses (R177). -/
inductive Status where
  | ok | notReady | badFrame | unknown | busy | range | order | speed | occupied | notFound
  | duplicate | dependent | noLead | noImplement | interlock | fault | none
deriving DecidableEq, Repr

/-- A reply: the echoed code, the status and the payload (R183). -/
structure Reply where
  echo : Byte
  status : Status
  payload : List Byte
deriving DecidableEq, Repr

/-- The fate of a pending reply at the end of a transaction (R174). -/
inductive ReplyFate where
  | delivered | lost
deriving DecidableEq, Repr

/-- The Request Link (R174, R179, R181). `window` is what is left of the start-up window while it
runs. `receiver` holds the bytes of the transaction in progress. `shiftedOut` and `lastFate` record
what the last transaction shifted out and the fate of the reply it settled. -/
structure Link where
  pending : Option Reply
  receiver : List Byte
  window : Option Nat
  road : Bool
  shiftHold : Bool
  shiftedOut : List Byte
  lastFate : Option ReplyFate
deriving DecidableEq, Repr

/-! ## Notice Set -/

/-- The outcomes of SHIFT (R112). -/
inductive ShiftOutcome where
  | done | halted | blocked | noSupply | fault | stalled | forcedNeutral
deriving DecidableEq, Repr

/-- The outcomes of CAL (R128). -/
inductive CalOutcome where
  | done | noKiss | aborted
deriving DecidableEq, Repr

/-- The outcomes of FRONT (R140). -/
inductive FrontOutcome where
  | engaged | released
deriving DecidableEq, Repr

/-- The outcomes of HITCH (R161). -/
inductive HitchOutcome where
  | reached | stalled | manual | stopped | limit | interlock | sensor | retired | draftLost
deriving DecidableEq, Repr

/-- The outcomes of TRAILER (R172). -/
inductive TrailerOutcome where
  | sensor | lineFault
deriving DecidableEq, Repr

/-- The outcomes of the three coupling sources (R27). -/
inductive CplOutcome where
  | accepted | timeout | degraded | reconnected | lost | applied | retired
deriving DecidableEq, Repr

/-- The eleven sources (R184). -/
inductive Source where
  | shift | cal | adapt | front | hitch | trailer | cplHitch | cplDrawbar | cplTowthru | supply | input
deriving DecidableEq, Repr

/-- What a notice reports: its source and outcome (R184). -/
inductive Report where
  | shift (o : ShiftOutcome)
  | cal (o : CalOutcome)
  | adaptLimit
  | front (o : FrontOutcome)
  | hitch (o : HitchOutcome)
  | trailer (o : TrailerOutcome)
  | coupling (p : Point) (o : CplOutcome)
  | supply (c : ChargeState)
  | input (i : DInput) (rising : Bool)
deriving DecidableEq, Repr

/-- A notice record (R184). -/
structure Notice where
  report : Report
  detail : List Byte
  superseded : Bool
deriving DecidableEq, Repr

/-- The Notice Set: the notices, oldest first, the 23 enable bits, and whether ATTN is driven low
(R184, R186, R187). -/
structure NoticeSet where
  notices : List Notice
  enables : BitVec 23
  attnLow : Bool
deriving DecidableEq, Repr

/-! ## Straps -/

/-- The strap values in force (R48, R136, R178). -/
structure Straps where
  gearset : GearSet
  fdkind : FdKind
deriving DecidableEq, Repr

end Sys2Proof.Machine
end

