-- ==== Sys2Proof/Machine/Defaults.lean ====
section
/-! DEFINITION. The value each block takes at a reset, as its chapter states. -/

namespace Sys2Proof.Machine

/-- A channel record after any reset (R33). -/
def Chan.unsampled : Chan := ⟨0, .stale, 0⟩

/-- A discrete input after a power-on or hard reset: absent, its timer stopped; when the reset
ends, an input whose raw level is present starts its debounce timer (R36). -/
def Contact.afterReset (raw : Bool) : Contact :=
  ⟨raw, false, if raw then some ⟨true, 20⟩ else none⟩

/-- The discrete inputs after a power-on or hard reset (R36). -/
def Inputs.afterReset (i : Inputs) : Inputs :=
  ⟨.afterReset i.park.raw, .afterReset i.seat.raw, .afterReset i.detA.raw, .afterReset i.detB.raw,
   .afterReset i.extUp.raw, .afterReset i.extDown.raw⟩

/-- Six raw levels absent: the pins before the outside drives one. DESIGN CHOICE, log 7. -/
def Inputs.quiet : Inputs :=
  let c : Contact := ⟨false, false, none⟩
  ⟨c, c, c, c, c, c⟩

/-- The channel records after any reset, over the given discrete inputs (R33). -/
def FrontEnd.afterReset (i : Inputs) : FrontEnd :=
  ⟨.unsampled, .unsampled, .unsampled, .unsampled, .unsampled, .unsampled, .unsampled, .unsampled,
   .unsampled, .unsampled, i⟩

/-- The Traction Estimator after any reset (R46). -/
def Traction.afterReset : Traction :=
  { kw := 8192, vmin := 100, bth := 200, vw := 0, rm := none, slip := 0, slipValid := false,
    braking := false, bt := 0, pedalLoss := false, loadIndex := 0 }

/-- The Coupling Table after any reset (R28). -/
def Coupling.afterReset : Coupling :=
  { hitch := none, drawbar := none, towthru := none, counter := 1, mtow := 0 }

/-- A gearbox pack's record after a power-on or hard reset (R56, R63). -/
def PackRecord.gearboxDefault : PackRecord :=
  { active := ⟨30, 120, 40, 300, 180⟩, atLimit := 0, cause := .none, state := .released, staged := none }

/-- FDP's record after a power-on or hard reset (R56, R63). -/
def PackRecord.fdpDefault : PackRecord :=
  { active := ⟨30, 150, 40, 300, 160⟩, atLimit := 0, cause := .none, state := .released, staged := none }

/-- The pack records after a power-on or hard reset (R63). -/
def PackFile.afterReset : PackFile :=
  ⟨.gearboxDefault, .gearboxDefault, .gearboxDefault, .gearboxDefault, .gearboxDefault, .gearboxDefault,
   .gearboxDefault, .gearboxDefault, .gearboxDefault, .gearboxDefault, .gearboxDefault, .fdpDefault⟩

/-- The Ratio Map after a power-on or hard reset (R63). -/
def RatioMap.afterReset : RatioMap := { entries := [], withheld := 0#32 }

/-- The waiting set with no member (R76). -/
def Waiting.empty : Waiting := ⟨false, false, false⟩

/-- The Fill Supply Arbiter after any reset (R69, R76). -/
def Supply.afterReset : Supply :=
  { charge := .ok, pcMin := 120, holder := none, fillList := [], waiting := .empty }

/-- The default shift profile (R83). -/
def Profile.default : Profile :=
  { span := 1, interval := 300, tbase := 800, tmin := 300, tstart := 1200, tc := 400, tcStart := 2000,
    shuttle := 1000, rstart := 300, window := 60 }

/-- The Shift Engine after any reset (R113). -/
def Engine.afterReset : Engine :=
  { pr := 0, nr := 0, lastDir := .fwd, state := .settled, timer := none, record := none, halt := false,
    downshift := false, latchSignal := false, seatTimer := none, profile := .default }

/-- The Calibration Unit after any reset: IDLE, the step count 0 (R129). The spec gives the step
interval and Ne_ref no reset value: the interval stands at the low end of its range and Ne_ref at 0.
DESIGN CHOICE, log 32. -/
def CalUnit.afterReset : CalUnit := { job := none, interval := 50, neRef := 0, stepCount := 0 }

/-- The default front parameters (R131). -/
def FrontParams.default : FrontParams :=
  { thOn := 150, thOff := 80, dwell := 25, releaseSpeed := 1500, releaseDelay := 1000, trailerThreshold := 100 }

/-- The Front Drive Controller after any reset (R142). -/
def FrontDrive.afterReset : FrontDrive :=
  { mode := .auto, params := .default, latch := false, onRun := 0, offRun := 0, brakingRecord := false,
    releaseTimer := none, engage := false, phase := .rest, fillTimer := none }

/-- The Hitch Controller after any reset (R162). -/
def Hitch.afterReset : Hitch :=
  { mode := .hold, travelOpening := 60, raise := 0, lower := 0, formed := ⟨0, true⟩, latch := none,
    draftLoss := false }

/-- The Trailer Brake Controller after any reset (R173). -/
def TrailerBrake.afterReset : TrailerBrake :=
  { demand := 0, case := .empty, faultRun := 0, faultEpisode := false }

/-- The NOT_READY reply of the start-up window (R179). -/
def Reply.notReady : Reply := ⟨0#8, .notReady, []⟩

/-- The Request Link at the opening of the start-up window: 20 ms to run, NOT_READY pending (R179),
the condition set empty (R181). What was last shifted out is the model's own record; log 14. -/
def Link.afterReset : Link :=
  { pending := some .notReady, receiver := [], window := some 20, road := false, shiftHold := false,
    shiftedOut := [], lastFate := none }

/-- The Notice Set after any reset: empty, ATTN released, every source bit enabled and every
input-edge bit disabled (R188). -/
def NoticeSet.afterReset : NoticeSet := { notices := [], enables := 0x7FF#23, attnLow := false }

end Sys2Proof.Machine
end

