-- ==== Sys2Proof/Machine/State.lean ====
section
/-! DEFINITION. The whole state of the part, the queue of commands that wait for it, the ways a
step can stop, and the state after reset. -/

namespace Sys2Proof.Machine

/-- Why the part stops with a fault. Nothing stops it: a bad request is refused by a reply and
changes no state, and a bad sample is held (R2); so there is no constructor. Safe. -/
inductive Fault where
deriving DecidableEq, Repr

/-- Why the model gives a command no meaning. -/
inductive Refusal where
  /-- Raised by an arm of `exec` that has no meaning yet, with the row's mnemonic. Safe: the model
  stops where the part goes on. No arm raises it now. -/
  | notModelled (mnemonic : String)
deriving DecidableEq, Repr

/-- The state of the part (INVENTORY.md, State). `pending` is the queue of commands, first in first
out. `heldInReset` is set while RST is held low (R178). `draws` counts the free choices taken so far
(log 8, log 9). -/
structure State where
  pending : List Instr
  heldInReset : Bool
  straps : Straps
  mfe : FrontEnd
  tre : Traction
  cpt : Coupling
  rmp : RatioMap
  packs : PackFile
  fsa : Supply
  she : Engine
  cau : CalUnit
  frd : FrontDrive
  htc : Hitch
  tbc : TrailerBrake
  rlk : Link
  nts : NoticeSet
  draws : Nat
deriving DecidableEq, Repr

/-- The part right after a power-on reset: every block at its reset value and the start-up window
open (R178, R179). The strap levels and the raw input levels are the pins'; the model takes GEARSET
6, FDKIND SPRING and no input present (DESIGN CHOICE, log 6 and log 7). The queue is empty. -/
def State.reset : State :=
  { pending := []
    heldInReset := false
    straps := ⟨.six, .spring⟩
    mfe := .afterReset .quiet
    tre := .afterReset
    cpt := .afterReset
    rmp := .afterReset
    packs := .afterReset
    fsa := .afterReset
    she := .afterReset
    cau := .afterReset
    frd := .afterReset
    htc := .afterReset
    tbc := .afterReset
    rlk := .afterReset
    nts := .afterReset
    draws := 0 }

end Sys2Proof.Machine
end

