-- ==== Sys2Proof/Machine/Operands.lean ====
section
/-! DEFINITION. The operands of the requests: clamping, the codes of R183 and R184, and the fields
as the part holds them. -/

namespace Sys2Proof.Machine

/-- A value outside `lo` to `hi` replaced by the nearer end (00, Terms: Clamp). -/
def clamp (lo hi x : Nat) : Nat := if x < lo then lo else if hi < x then hi else x

/-- A reading clamped into 0 to `hi` (R30). -/
def clampReading (hi : Nat) (x : Int) : Nat := if (hi : Int) < x then hi else x.toNat

/-- A quantity as one byte of a reply or a notice (R183). -/
def byte (n : Nat) : Byte := BitVec.ofNat 8 n

/-- A quantity as two bytes, most significant first (R183). -/
def twoBytes (n : Nat) : List Byte := [byte (n / 256), byte n]

/-- A flag as 1 or 0. -/
def bit (b : Bool) : Nat := if b then 1 else 0

/-! ## Field sets -/

/-- An implement field set as the part accepts it: each field clamped in the order of R6. -/
def clampImplement (pmax pmin ps db kq drop sl : Nat) (draft : Option DraftBlock) : ImplementFields :=
  let pmax' := clamp 100 1000 pmax
  let pmin' := clamp 0 (pmax' - 100) pmin
  { pmax := pmax'
    pmin := pmin'
    ps := clamp pmin' pmax' ps
    db := clamp 0 50 db
    kq := clamp 1 255 kq
    drop := clamp 10 100 drop
    sl := clamp 0 1000 sl
    draft := draft.map fun d => ⟨clamp 0 2000 d.ds, clamp 1 255 d.gd, clamp 0 100 d.m⟩ }

/-- A trailer field set as the part accepts it (R7). -/
def clampTrailer (m gt pld : Nat) (pas : Option Nat) : TrailerFields :=
  { m := clamp 10 400 m, gt := clamp 0 255 gt, pld := clamp 0 300 pld, pas := pas.map (clamp 0 400) }

/-- The implement fields a carried field set gives; none for a trailer set (R6). -/
def implementOf (f : FieldSet) : Option ImplementFields :=
  match f with
  | .implement pmax pmin ps db kq drop sl draft =>
    some (clampImplement pmax.toNat pmin.toNat ps.toNat db.toNat kq.toNat drop.toNat sl.toNat
      (draft.map fun d => ⟨d.ds.toNat, d.gd.toNat, d.m.toNat⟩))
  | .trailer _ _ _ _ => none

/-- The trailer fields a carried field set gives; none for an implement set (R7). -/
def trailerOf (f : FieldSet) : Option TrailerFields :=
  match f with
  | .implement _ _ _ _ _ _ _ _ => none
  | .trailer m gt pld pas => some (clampTrailer m.toNat gt.toNat pld.toNat (pas.map BitVec.toNat))

/-- An implement field set as a reply lays it out (R183). -/
def ImplementFields.bytes (f : ImplementFields) : List Byte :=
  twoBytes f.pmax ++ twoBytes f.pmin ++ twoBytes f.ps ++ [byte f.db, byte f.kq, byte f.drop] ++ twoBytes f.sl ++
    match f.draft with
    | none => []
    | some d => twoBytes d.ds ++ [byte d.gd, byte d.m]

/-- A trailer field set as a reply lays it out (R183). -/
def TrailerFields.bytes (f : TrailerFields) : List Byte :=
  twoBytes f.m ++ [byte f.gt] ++ twoBytes f.pld ++
    match f.pas with
    | none => []
    | some pas => twoBytes pas

/-! ## Parameter records -/

/-- The profile as the Shift Engine holds it: each parameter clamped in the order of R83. -/
def clampProfile (p : ProfileWire) : Profile :=
  let tbase := clamp 200 1500 p.tbase.toNat
  { span := clamp 1 4 p.span.toNat
    interval := clamp 100 2000 p.interval.toNat
    tbase := tbase
    tmin := clamp 100 tbase p.tmin.toNat
    tstart := clamp 300 3000 p.tstart.toNat
    tc := clamp 100 1000 p.tc.toNat
    tcStart := clamp 500 5000 p.tcStart.toNat
    shuttle := clamp 100 2000 p.shuttle.toNat
    rstart := clamp 1 1500 p.rstart.toNat
    window := clamp 20 200 p.window.toNat }

/-- The profile as the reply lays it out (R183). -/
def Profile.bytes (p : Profile) : List Byte :=
  [byte p.span] ++ twoBytes p.interval ++ twoBytes p.tbase ++ twoBytes p.tmin ++ twoBytes p.tstart ++
    twoBytes p.tc ++ twoBytes p.tcStart ++ twoBytes p.shuttle ++ twoBytes p.rstart ++ [byte p.window]

/-- The front parameters as the controller holds them: each clamped in the order of R131. -/
def clampFront (f : FrontWire) : FrontParams :=
  let thOn := clamp 20 1000 f.thOn.toNat
  { thOn := thOn
    thOff := clamp 0 (thOn - 10) f.thOff.toNat
    dwell := clamp 1 255 f.dwell.toNat
    releaseSpeed := clamp 500 3000 f.releaseSpeed.toNat
    releaseDelay := clamp 100 5000 f.releaseDelay.toNat
    trailerThreshold := clamp 0 1500 f.trailerThreshold.toNat }

/-- The fields AMEND_PACK carries, clamped in the order of R57; none where the clamped tf_min is
above the clamped tf_max. -/
def clampPack (pf tf tfMin tfMax pl : Nat) : Option PackFields :=
  let pf' := clamp 5 80 pf
  let pl' := clamp 100 250 pl
  let tfMin' := clamp 10 400 tfMin
  let tfMax' := clamp 10 400 tfMax
  if tfMax' < tfMin' then none
  else some { pf := pf', tf := clamp tfMin' tfMax' tf, tfMin := tfMin', tfMax := tfMax', pl := pl' }

/-- The five pack fields as a reply lays them out (R183). -/
def PackFields.bytes (f : PackFields) : List Byte :=
  [byte f.pf] ++ twoBytes f.tf ++ twoBytes f.tfMin ++ twoBytes f.tfMax ++ [byte f.pl]

/-! ## Codes -/

/-- The coupling point of a code (R183). -/
def pointOfCode (c : Nat) : Option Point :=
  match c with
  | 1 => some .hitch
  | 2 => some .drawbar
  | 3 => some .towthru
  | _ => none

/-- The code of a coupling point (R183). -/
def pointCode (p : Point) : Nat :=
  match p with
  | .hitch => 1
  | .drawbar => 2
  | .towthru => 3

/-- The record state code of a removed record (R183). -/
def removedCode : Nat := 0

/-- The record state code of a HITCH record (R183). -/
def ImplementState.code (s : ImplementState) : Nat :=
  match s with
  | .pending _ => 1
  | .active => 2

/-- The record state code of a trailer record (R183). -/
def TrailerState.code (s : TrailerState) : Nat :=
  match s with
  | .pending _ => 1
  | .active => 2
  | .degraded => 3
  | .lost => 4
  | .retiring _ => 5

/-- The record state code of a return state (R183). -/
def ReturnState.code (s : ReturnState) : Nat :=
  match s with
  | .pending => 1
  | .active => 2
  | .degraded => 3

/-- The pack of a code (R183). -/
def PackId.ofCode (c : Nat) : Option PackId :=
  match c with
  | 1 => some .fwd
  | 2 => some .rev
  | 3 => some .sp1
  | 4 => some .sp2
  | 5 => some .sp3
  | 6 => some .sp4
  | 7 => some .sp5
  | 8 => some .sp6
  | 9 => some .rngA
  | 10 => some .rngB
  | 11 => some .rngC
  | 12 => some .fdp
  | _ => none

/-- The code of a pack (R183). -/
def PackId.code (p : PackId) : Nat :=
  match p with
  | .fwd => 1
  | .rev => 2
  | .sp1 => 3
  | .sp2 => 4
  | .sp3 => 5
  | .sp4 => 6
  | .sp5 => 7
  | .sp6 => 8
  | .rngA => 9
  | .rngB => 10
  | .rngC => 11
  | .fdp => 12

/-- The direction of a code (R183). -/
def Direction.ofCode (c : Nat) : Option Direction :=
  match c with
  | 1 => some .fwd
  | 2 => some .rev
  | _ => none

/-- The direction pack of a direction (R47). -/
def Direction.pack (d : Direction) : PackId :=
  match d with
  | .fwd => .fwd
  | .rev => .rev

/-- The code of a direction (R183). -/
def Direction.code (d : Direction) : Nat :=
  match d with
  | .fwd => 1
  | .rev => 2

/-- The speed pack of a pack code (R49, R183). -/
def SpeedPack.ofCode (c : Nat) : Option SpeedPack :=
  match c with
  | 3 => some .sp1
  | 4 => some .sp2
  | 5 => some .sp3
  | 6 => some .sp4
  | 7 => some .sp5
  | 8 => some .sp6
  | _ => none

/-- A speed pack among the twelve packs. -/
def SpeedPack.pack (p : SpeedPack) : PackId :=
  match p with
  | .sp1 => .sp1
  | .sp2 => .sp2
  | .sp3 => .sp3
  | .sp4 => .sp4
  | .sp5 => .sp5
  | .sp6 => .sp6

/-- The range pack of a pack code (R49, R183). -/
def RangePack.ofCode (c : Nat) : Option RangePack :=
  match c with
  | 9 => some .rngA
  | 10 => some .rngB
  | 11 => some .rngC
  | _ => none

/-- A range pack among the twelve packs. -/
def RangePack.pack (p : RangePack) : PackId :=
  match p with
  | .rngA => .rngA
  | .rngB => .rngB
  | .rngC => .rngC

/-- The code of a pack state (R183). -/
def PackState.code (s : PackState) : Nat :=
  match s with
  | .released => 0
  | .fill => 1
  | .rising _ _ => 2
  | .locked => 3
  | .falling _ _ _ => 4
  | .calStep => 5
  | .fault => 6

/-- The code of a fault cause (R183). -/
def FaultCause.code (c : FaultCause) : Nat :=
  match c with
  | .none => 0
  | .confirm => 1
  | .cal => 2

/-- The code of an engine state (R183). -/
def EngineState.code (s : EngineState) : Nat :=
  match s with
  | .settled => 0
  | .interval => 1
  | .supplyWait => 2
  | .fill => 3
  | .handover => 4
  | .confirm => 5
  | .calHold => 6

/-- The code of a hitch mode (R183). -/
def HitchMode.code (m : HitchMode) : Nat :=
  match m with
  | .hold => 0
  | .work => 1
  | .travel _ _ _ => 2
  | .manual _ => 3
  | .locked => 4

/-- The code of a travel purpose (R183). -/
def Purpose.code (p : Purpose) : Nat :=
  match p with
  | .goto _ => 1
  | .transport => 2
  | .return => 3

/-- The code of a manual direction (R184). -/
def ManualDir.code (d : ManualDir) : Nat :=
  match d with
  | .up => 1
  | .down => 2

/-- The front mode of a code (R131, R183). -/
def FrontMode.ofCode (c : Nat) : Option FrontMode :=
  match c with
  | 0 => some .off
  | 1 => some .on
  | 2 => some .auto
  | _ => none

/-- The code of a front mode (R183). -/
def FrontMode.code (m : FrontMode) : Nat :=
  match m with
  | .off => 0
  | .on => 1
  | .auto => 2

/-- The code of the fill-supply holder (R183). -/
def holderCode (h : Option Requester) : Nat :=
  match h with
  | none => 0
  | some .shift => 1
  | some .front => 2
  | some .cal => 3

/-- The code of a calibration phase other than IDLE, which is 0 (R183). -/
def CalPhase.code (p : CalPhase) : Nat :=
  match p with
  | .waiting => 1
  | .filling => 2
  | .settling => 3
  | .stepping => 4

/-- The code of a charge state (R182). -/
def ChargeState.code (c : ChargeState) : Nat :=
  match c with
  | .ok => 0
  | .low => 1

/-- The code of a channel state (R184). -/
def ChanState.code (s : ChanState) : Nat :=
  match s with
  | .ok => 0
  | .stale => 1
  | .failed => 2

/-- The code of a demand case (R184). -/
def DemandCase.code (c : DemandCase) : Nat :=
  match c with
  | .empty => 0
  | .full => 1
  | .weighted => 2

/-- The code of a discrete input (R184). -/
def inputCode (i : DInput) : Nat :=
  match i with
  | .park => 1
  | .seat => 2
  | .detA => 3
  | .detB => 4
  | .extUp => 5
  | .extDown => 6

/-- The value of a reply status (R177). -/
def Status.code (s : Status) : Nat :=
  match s with
  | .ok => 0x00
  | .notReady => 0x01
  | .badFrame => 0x02
  | .unknown => 0x03
  | .busy => 0x04
  | .range => 0x05
  | .order => 0x06
  | .speed => 0x07
  | .occupied => 0x08
  | .notFound => 0x09
  | .duplicate => 0x0A
  | .dependent => 0x0B
  | .noLead => 0x0C
  | .noImplement => 0x0D
  | .interlock => 0x0E
  | .fault => 0x0F
  | .none => 0x10

/-- A reply frame: echoed code, status, length, payload, CRC-8 (R183). -/
def Reply.frame (r : Reply) : List Byte :=
  let body := r.echo :: byte r.status.code :: byte r.payload.length :: r.payload
  body ++ [crc8 body]

/-- The signed count STEP carries, in two's complement (R183). -/
def signedByte (b : Byte) : Int := b.toInt

end Sys2Proof.Machine
end

