-- ==== Sys2Proof/Machine/Flags.lean ====
section
/-! DEFINITION. The Notice Set: sources, codes, enables, entry of a notice, ATTN, and the order of
the notices one event appends (R184 to R188). -/

namespace Sys2Proof.Machine

/-- The source of a report (R184). -/
def Report.source (r : Report) : Source :=
  match r with
  | .shift _ => .shift
  | .cal _ => .cal
  | .adaptLimit => .adapt
  | .front _ => .front
  | .hitch _ => .hitch
  | .trailer _ => .trailer
  | .coupling .hitch _ => .cplHitch
  | .coupling .drawbar _ => .cplDrawbar
  | .coupling .towthru _ => .cplTowthru
  | .supply _ => .supply
  | .input _ _ => .input

/-- The code of a source (R184). -/
def Source.code (s : Source) : Nat :=
  match s with
  | .shift => 1
  | .cal => 2
  | .adapt => 3
  | .front => 4
  | .hitch => 5
  | .trailer => 6
  | .cplHitch => 7
  | .cplDrawbar => 8
  | .cplTowthru => 9
  | .supply => 10
  | .input => 11

/-- The outcome code of a report (R184). -/
def Report.outcomeCode (r : Report) : Nat :=
  match r with
  | .shift .done => 1
  | .shift .halted => 2
  | .shift .blocked => 3
  | .shift .noSupply => 4
  | .shift .fault => 5
  | .shift .stalled => 6
  | .shift .forcedNeutral => 7
  | .cal .done => 1
  | .cal .noKiss => 2
  | .cal .aborted => 3
  | .adaptLimit => 1
  | .front .engaged => 1
  | .front .released => 2
  | .hitch .reached => 1
  | .hitch .stalled => 2
  | .hitch .manual => 3
  | .hitch .stopped => 4
  | .hitch .limit => 5
  | .hitch .interlock => 6
  | .hitch .sensor => 7
  | .hitch .retired => 8
  | .hitch .draftLost => 9
  | .trailer .sensor => 1
  | .trailer .lineFault => 2
  | .coupling _ .accepted => 1
  | .coupling _ .timeout => 2
  | .coupling _ .degraded => 3
  | .coupling _ .reconnected => 4
  | .coupling _ .lost => 5
  | .coupling _ .applied => 6
  | .coupling _ .retired => 7
  | .supply .low => 1
  | .supply .ok => 2
  | .input _ true => 1
  | .input _ false => 2

/-- The enable bit of a source: bit k names the source of code k + 1 (R187). -/
def sourceBit (s : Source) : Nat := s.code - 1

/-- The enable bit of an input's edge: rising at bit 9 + 2i, falling at bit 10 + 2i (R187). -/
def edgeBit (i : DInput) (rising : Bool) : Nat := if rising then 9 + 2 * inputCode i else 10 + 2 * inputCode i

/-- Whether the enables let a report in (R185). -/
def NoticeSet.enabled (n : NoticeSet) (r : Report) : Bool :=
  n.enables.getLsbD (sourceBit r.source) &&
    match r with
    | .input i rising => n.enables.getLsbD (edgeBit i rising)
    | _ => true

/-- A notice replaced in place by a later report of its source (R185). -/
def Notice.replace (n : Notice) (r : Report) (detail : List Byte) : Notice :=
  if n.report.source = r.source then ⟨r, detail, true⟩ else n

/-- The entry of an offered notice: discarded, replaced in place, or appended, which drives ATTN
low when the set was empty (R185, R186). -/
def NoticeSet.offer (n : NoticeSet) (r : Report) (detail : List Byte) : NoticeSet :=
  if n.enabled r then
    if n.notices.any (fun x => x.report.source = r.source) then
      { n with notices := n.notices.map (·.replace r detail) }
    else
      { n with notices := n.notices ++ [⟨r, detail, false⟩]
               attnLow := if n.notices.isEmpty then true else n.attnLow }
  else n

/-- A block offers a notice (R185). -/
def State.offer (s : State) (r : Report) (detail : List Byte) : State :=
  { s with nts := s.nts.offer r detail }

/-- The removal of the oldest notice; ATTN is released when it was the last (R186). -/
def NoticeSet.take (n : NoticeSet) : Option (Notice × NoticeSet) :=
  match n.notices with
  | [] => none
  | x :: rest =>
    some (x, { n with notices := rest, attnLow := if rest.isEmpty then false else n.attnLow })

/-- The notice payload of a TAKE_NOTICE reply: source, outcome, flags, the notices left, the detail
length, the detail (R183). -/
def Notice.payload (n : Notice) (left : Nat) : List Byte :=
  [byte n.report.source.code, byte n.report.outcomeCode, byte (bit n.superseded), byte left,
   byte n.detail.length] ++ n.detail

/-- One notice put into a list at a position. -/
def insertAt (k : Nat) (x : Notice) (l : List Notice) : List Notice :=
  match k, l with
  | 0, l => x :: l
  | _ + 1, [] => [x]
  | k + 1, y :: l => y :: insertAt k x l

/-- A list of notices in an order that the ranks choose. -/
def shuffle (rank : Nat → Nat) (l : List Notice) : List Notice :=
  match l with
  | [] => []
  | x :: rest => insertAt (rank rest.length % (rest.length + 1)) x (shuffle rank rest)

/-- The order of the notices an event appended: where it appended two or more, any of them may stand
before another (R185). The order is a free value; log 8. `n` is how many notices the set held when
the event began. -/
def State.orderNotices (n : Nat) (s : State) : State :=
  let fresh := s.nts.notices.drop n
  if fresh.length ≤ 1 then s
  else
    { s with nts := { s.nts with
                      notices := s.nts.notices.take n ++ shuffle (Config.freeRank s.draws) fresh }
             draws := s.draws + 1 }

end Sys2Proof.Machine
end

