-- ==== Sys2Proof/Machine/Ops.lean ====
section
/-! DEFINITION. The operations the blocks share: reading and writing channels, inputs, packs and
ratio entries, the pressure command of a pack, the quantities of the Traction Estimator, and the two
places where the manual leaves an order open. -/

namespace Sys2Proof.Machine

/-! ## An event, and an order the manual leaves open -/

/-- An event with the order of the notices it appended (R185; log 8). -/
def State.ordered (f : State → State) (s : State) : State := (f s).orderNotices s.nts.notices.length

/-- A command that is no request: an event at the part, in which nothing comes about while the part
is held in reset (R178; log 4). -/
def event (f : State → State) (s : State) : Host.Outcome State Fault Refusal :=
  .next (if s.heldInReset then s else s.ordered f)

/-- Two blocks take one event in either order (R32, R35, R26): where the two orders differ, a free
value says which comes about. Log 9. -/
def eitherOrder (f g : State → State) (s : State) : State :=
  let a := g (f s)
  let b := f (g s)
  if a = b then a
  else if Config.freeOrder s.draws then { a with draws := s.draws + 1 }
  else { b with draws := s.draws + 1 }

/-! ## Channels and inputs -/

/-- A sample taken by its channel: a valid one is clamped and held (R30), an invalid one advances
the invalid run (R31). -/
def Chan.sample (hi : Nat) (c : Chan) (x : Sample) : Chan :=
  if x.valid then ⟨clampReading hi x.value, .ok, 0⟩
  else
    match c.state with
    | .ok => { c with state := .stale, run := 1 }
    | .stale => if c.run < 4 then { c with run := c.run + 1 } else { c with state := .failed, run := 5 }
    | .failed => c

/-- Whether a channel is FAILED (R31). -/
def Chan.failed (c : Chan) : Bool := c.state = .failed

/-- The record of a discrete input (R34). -/
def Inputs.get (f : Inputs) (i : DInput) : Contact :=
  match i with
  | .park => f.park
  | .seat => f.seat
  | .detA => f.detA
  | .detB => f.detB
  | .extUp => f.extUp
  | .extDown => f.extDown

/-- The record of a discrete input written (R34). -/
def Inputs.set (f : Inputs) (i : DInput) (c : Contact) : Inputs :=
  match i with
  | .park => { f with park := c }
  | .seat => { f with seat := c }
  | .detA => { f with detA := c }
  | .detB => { f with detB := c }
  | .extUp => { f with extUp := c }
  | .extDown => { f with extDown := c }

/-- The debounced level of a discrete input, which is what every block reads (R34). -/
def State.present (s : State) (i : DInput) : Bool := (s.mfe.inputs.get i).level

/-- A raw level change: the debounce timer starts with the new raw level as candidate, or stops when
the raw level returns to the debounced level (R34). -/
def Contact.rawChange (c : Contact) (level : Bool) : Contact :=
  if level = c.raw then c
  else if level = c.level then { c with raw := level, candidate := none }
  else { c with raw := level, candidate := some ⟨level, 20⟩ }

/-! ## Packs -/

/-- The record of a pack. -/
def PackFile.get (f : PackFile) (p : PackId) : PackRecord :=
  match p with
  | .fwd => f.fwd
  | .rev => f.rev
  | .sp1 => f.sp1
  | .sp2 => f.sp2
  | .sp3 => f.sp3
  | .sp4 => f.sp4
  | .sp5 => f.sp5
  | .sp6 => f.sp6
  | .rngA => f.rngA
  | .rngB => f.rngB
  | .rngC => f.rngC
  | .fdp => f.fdp

/-- The record of a pack written. -/
def PackFile.set (f : PackFile) (p : PackId) (r : PackRecord) : PackFile :=
  match p with
  | .fwd => { f with fwd := r }
  | .rev => { f with rev := r }
  | .sp1 => { f with sp1 := r }
  | .sp2 => { f with sp2 := r }
  | .sp3 => { f with sp3 := r }
  | .sp4 => { f with sp4 := r }
  | .sp5 => { f with sp5 := r }
  | .sp6 => { f with sp6 := r }
  | .rngA => { f with rngA := r }
  | .rngB => { f with rngB := r }
  | .rngC => { f with rngC := r }
  | .fdp => { f with fdp := r }

/-- One pack's record changed by an order. -/
def PackFile.update (f : PackFile) (g : PackRecord → PackRecord) (p : PackId) : PackFile := f.set p (g (f.get p))

/-- The same order given to several packs. -/
def PackFile.order (f : PackFile) (ps : List PackId) (g : PackRecord → PackRecord) : PackFile :=
  ps.foldl (fun f p => f.update g p) f

/-- Every pack's record changed alike. -/
def PackFile.all (f : PackFile) (g : PackRecord → PackRecord) : PackFile :=
  { fwd := g f.fwd, rev := g f.rev, sp1 := g f.sp1, sp2 := g f.sp2, sp3 := g f.sp3, sp4 := g f.sp4,
    sp5 := g f.sp5, sp6 := g f.sp6, rngA := g f.rngA, rngB := g f.rngB, rngC := g f.rngC, fdp := g f.fdp }

/-- The direction, speed and range packs: every pack but FDP (R56). -/
def gearboxPacks : List PackId :=
  [.fwd, .rev, .sp1, .sp2, .sp3, .sp4, .sp5, .sp6, .rngA, .rngB, .rngC]

/-- The pressure command a pack's state sets, given the calibration's step pressure (R60, R77 to
R79). -/
def PackRecord.command (p : PackRecord) (stepPressure : Nat) : Nat :=
  match p.state with
  | .released => 0
  | .fault => 0
  | .fill => p.active.pf
  | .locked => p.active.pl
  | .calStep => stepPressure
  | .rising duration t =>
    if t < duration then p.active.pf + (p.active.pl - p.active.pf) * t / duration else p.active.pl
  | .falling start duration t => if t < duration then start * (duration - t) / duration else 0

/-- A staged copy applied at entry into FILL or CAL_STEP (R58). -/
def PackRecord.applyStaged (p : PackRecord) : PackRecord :=
  match p.staged with
  | none => p
  | some f => { p with active := f, atLimit := 0, staged := none }

/-- RELEASED to FILL, applying a staged copy (R58, R61). -/
def PackRecord.toFill (p : PackRecord) : PackRecord :=
  match p.state with
  | .released => { p.applyStaged with state := .fill }
  | _ => p

/-- RELEASED to CAL_STEP, applying a staged copy (R58, R61, R124). -/
def PackRecord.toCalStep (p : PackRecord) : PackRecord :=
  match p.state with
  | .released => { p.applyStaged with state := .calStep }
  | _ => p

/-- FILL to RISING, with the ramp's duration (R61, R78). -/
def PackRecord.toRising (duration : Nat) (p : PackRecord) : PackRecord :=
  match p.state with
  | .fill => { p with state := .rising duration 0 }
  | _ => p

/-- FILL to LOCKED (R61). -/
def PackRecord.fillToLocked (p : PackRecord) : PackRecord :=
  match p.state with
  | .fill => { p with state := .locked }
  | _ => p

/-- RISING to LOCKED (R61). -/
def PackRecord.risingToLocked (p : PackRecord) : PackRecord :=
  match p.state with
  | .rising _ _ => { p with state := .locked }
  | _ => p

/-- LOCKED to FALLING, from the pack's present command (R61, R79). -/
def PackRecord.toFalling (duration : Nat) (p : PackRecord) : PackRecord :=
  match p.state with
  | .locked => { p with state := .falling p.active.pl duration 0 }
  | _ => p

/-- LOCKED to FAULT with cause CONFIRM (R61, R62). -/
def PackRecord.confirmFault (p : PackRecord) : PackRecord :=
  match p.state with
  | .locked => { p with state := .fault, cause := .confirm }
  | _ => p

/-- CAL_STEP to FAULT with cause CAL (R61, R62). -/
def PackRecord.calFault (p : PackRecord) : PackRecord :=
  match p.state with
  | .calStep => { p with state := .fault, cause := .cal }
  | _ => p

/-- An order to release: from any state but FAULT, which it leaves with its cause (R61). -/
def PackRecord.release (p : PackRecord) : PackRecord :=
  match p.state with
  | .fault => p
  | _ => { p with state := .released }

/-- A pack at a soft reset: RELEASED, cause NONE, no staged copy; the fields and the at-limit count
are kept (R64, R65). -/
def PackRecord.softReset (p : PackRecord) : PackRecord :=
  { p with state := .released, cause := .none, staged := none }

/-- Whether a pack is in FAULT. -/
def PackRecord.faulted (p : PackRecord) : Bool := p.state = .fault

/-- The step pressure, 20 plus the step count (R119, R124). Only a pack in CAL_STEP is driven by it. -/
def CalUnit.stepPressure (c : CalUnit) : Nat := 20 + c.stepCount

/-- A pack's pressure command (R60, R77). -/
def State.packCommand (s : State) (p : PackId) : Nat := (s.packs.get p).command s.cau.stepPressure

/-- What a pack's valve is driven at: its command, or 0 while the part is held in reset (R77,
R178). -/
def State.packValve (s : State) (p : PackId) : Nat := if s.heldInReset then 0 else s.packCommand p

/-- What the raise valve is driven at (R145, R178). -/
def State.raiseValve (s : State) : Nat := if s.heldInReset then 0 else s.htc.raise

/-- What the lower valve is driven at (R145, R178). -/
def State.lowerValve (s : State) : Nat := if s.heldInReset then 0 else s.htc.lower

/-- What the trailer brake valve is driven at (R163, R178). -/
def State.trailerValve (s : State) : Nat := if s.heldInReset then 0 else s.tbc.demand

/-- Packs ordered alike. -/
def State.orderPacks (s : State) (ps : List PackId) (g : PackRecord → PackRecord) : State :=
  { s with packs := s.packs.order ps g }

/-- Whether a pack is in the gearbox: SP5 and SP6 are absent under GEARSET 4 (R48). -/
def State.fitted (s : State) (p : PackId) : Bool :=
  match s.straps.gearset, p with
  | .four, .sp5 => false
  | .four, .sp6 => false
  | _, _ => true

/-- The pack a request names: one of the twelve, and not SP5 or SP6 under GEARSET 4 (R48, R57). -/
def State.packNamed (s : State) (code : Byte) : Option PackId :=
  match PackId.ofCode code.toNat with
  | none => none
  | some p => if s.fitted p then some p else none

/-! ## Ratio entries -/

/-- The entry at an index; none for an undefined one and for neutral (R47). -/
def RatioMap.entry (m : RatioMap) (index : Nat) : Option RatioEntry := m.entries.find? fun e => e.index = index

/-- The three packs of an entry (R47). -/
def RatioEntry.packs (e : RatioEntry) : List PackId := [e.direction.pack, e.speed.pack, e.range.pack]

/-- The packs of a ratio; neutral uses none (R47, R96). -/
def State.packsOf (s : State) (index : Nat) : List PackId :=
  match s.rmp.entry index with
  | none => []
  | some e => e.packs

/-- The withhold bit of an index (R53). -/
def RatioMap.isWithheld (m : RatioMap) (index : Nat) : Bool := m.withheld.getLsbD (index - 1)

/-- The usability of a defined entry from its inputs (R54). -/
def formUsable (m : RatioMap) (f : PackFile) (e : RatioEntry) : Bool :=
  !m.isWithheld e.index && !e.packs.any fun p => (f.get p).faulted

/-- Usability formed again for the entries an event concerns (R54). -/
def State.reform (s : State) (concerned : RatioEntry → Bool) : State :=
  { s with rmp := { s.rmp with
      entries := s.rmp.entries.map fun e =>
        if concerned e then { e with usable := formUsable s.rmp s.packs e } else e } }

/-- Whether an entry uses one of the packs (R54). -/
def RatioEntry.uses (e : RatioEntry) (ps : List PackId) : Bool := e.packs.any fun p => ps.contains p

/-! ## The Traction Estimator's quantities -/

/-- The wheel speed (R37). -/
def wheelSpeed (no kw : Nat) : Nat := min 8000 (no * kw / 4096)

/-- The measured ratio of a speed pair, or no ratio (R38). -/
def measuredRatio (neValid noValid : Bool) (ne no : Nat) : Option Nat :=
  if neValid && noValid && 500 ≤ ne then some (no * 1000 / ne) else none

/-- The slip at a ground-speed arrival and its validity (R39). -/
def formSlip (noFailed vgFailed : Bool) (vg vw vmin : Nat) : Nat × Bool :=
  if noFailed || vgFailed then (0, false)
  else if vw < vmin then (0, false)
  else if vw ≤ vg then (0, true)
  else ((vw - vg) * 1000 / vw, true)

/-- The braking flag and Bt at a pedal-set arrival (R42). -/
def formBraking (bl br : Chan) (bth : Nat) : Bool × Nat :=
  match bl.failed, br.failed with
  | false, false =>
    if bth ≤ bl.held && bth ≤ br.held then (true, max bl.held br.held) else (false, 0)
  | true, false => if bth ≤ br.held then (true, br.held) else (false, 0)
  | false, true => if bth ≤ bl.held then (true, bl.held) else (false, 0)
  | true, true => (false, 0)

/-- The load index from the towed mass and the held draft (R44). -/
def loadIndexOf (mtow draft : Nat) : Nat := min 255 (mtow / 5 + draft / 20)

/-- The draft the Hitch Controller holds: the latched one while the latch is held, the formed one
otherwise (R146). -/
def Hitch.draft (h : Hitch) : Draft :=
  match h.latch with
  | none => h.formed
  | some d => d

/-- The load index formed again (R44). -/
def State.formLoadIndex (s : State) : State :=
  { s with tre := { s.tre with loadIndex := loadIndexOf s.cpt.mtow s.htc.draft.value } }

/-- The draft-latch signal raised: the Hitch Controller latches the formed draft and hands the draft
it holds to the Traction Estimator (R108, R147). -/
def State.raiseLatch (s : State) : State :=
  State.formLoadIndex
    { s with she := { s.she with latchSignal := true }, htc := { s.htc with latch := some s.htc.formed } }

/-- The draft-latch signal dropped, where it was raised (R108, R147). -/
def State.dropLatch (s : State) : State :=
  if s.she.latchSignal then
    State.formLoadIndex
      { s with she := { s.she with latchSignal := false }, htc := { s.htc with latch := none } }
  else s

end Sys2Proof.Machine
end

