-- ==== Sys2Proof/Machine/Clock.lean ====
section
/-! DEFINITION. The part's own time: its timers, which of them is due, and one millisecond passing
(00, How Behaviour Is Stated: behaviour is told by event, time in milliseconds). The step takes these
on an empty queue (log 2). -/

namespace Sys2Proof.Machine

/-- The debounce timer of a discrete input, while it runs (R34). -/
def State.debounceTimer (s : State) (i : DInput) : Option Nat := (s.mfe.inputs.get i).candidate.map (·.left)

/-- The pending timer of the HITCH record, while it runs (R10). -/
def State.hitchTimer (s : State) : Option Nat :=
  match s.cpt.hitch with
  | none => none
  | some r =>
    match r.state with
    | .pending t => some t
    | .active => none

/-- The pending timer of the DRAWBAR record, while it runs (R10). -/
def State.drawbarTimer (s : State) : Option Nat :=
  match s.cpt.drawbar with
  | none => none
  | some r =>
    match r.state with
    | .pending t => some t
    | .active => none
    | .degraded => none
    | .lost => none
    | .retiring _ => none

/-- The engine's phase timer with the expiry it ends in; none in the states that run no timer
(R81). -/
def State.phaseTimer (s : State) : Option (Instr × Option Nat) :=
  match s.she.state with
  | .settled => none
  | .interval => some (.intervalTimerExpiry, s.she.timer)
  | .supplyWait => some (.supplyWaitTimerExpiry, s.she.timer)
  | .fill => some (.fillTimerExpiry, s.she.timer)
  | .handover => some (.handoverTimerExpiry, s.she.timer)
  | .confirm => some (.confirmTimerExpiry, s.she.timer)
  | .calHold => none

/-- The timers of a running calibration, with their expiries (R119). -/
def State.calTimers (s : State) : List (Instr × Option Nat) :=
  match s.cau.job with
  | none => []
  | some j =>
    [(.partnerFillTimerExpiry .first, j.fill1), (.partnerFillTimerExpiry .second, j.fill2),
     (.settleTimerExpiry, j.settle), (.stepTimerExpiry, j.step)]

/-- The travel timer, while it runs (R153). -/
def State.travelTimer (s : State) : Option Nat :=
  match s.htc.mode with
  | .travel _ _ t => some t
  | .hold => none
  | .work => none
  | .manual _ => none
  | .locked => none

/-- The timers of the part with their expiries, in the order in which two that are due at one moment
are taken. The order is a DESIGN CHOICE, log 2. -/
def State.timers (s : State) : List (Instr × Option Nat) :=
  [(.debounceTimerExpiry .park, s.debounceTimer .park), (.debounceTimerExpiry .seat, s.debounceTimer .seat),
   (.debounceTimerExpiry .detA, s.debounceTimer .detA), (.debounceTimerExpiry .detB, s.debounceTimer .detB),
   (.debounceTimerExpiry .extUp, s.debounceTimer .extUp),
   (.debounceTimerExpiry .extDown, s.debounceTimer .extDown),
   (.pendingTimerExpiry .hitch, s.hitchTimer), (.pendingTimerExpiry .drawbar, s.drawbarTimer),
   (.seatTimerExpiry, s.she.seatTimer)] ++ s.phaseTimer.toList ++ s.calTimers ++
  [(.releaseDelayTimerExpiry, s.frd.releaseTimer), (.fdpFillTimerExpiry, s.frd.fillTimer),
   (.travelTimerExpiry, s.travelTimer), (.startUpWindowClose, s.rlk.window)]

/-- The expiry that is due: that of the first timer with nothing left to run. -/
def State.firstDue (s : State) : Option Instr := (s.timers.find? fun x => x.2 = some 0).map (·.1)

/-! ## One millisecond -/

/-- A timer one millisecond on. -/
def tickTimer (t : Option Nat) : Option Nat := t.map (· - 1)

/-- A discrete input one millisecond on (R34). -/
def Contact.tick (c : Contact) : Contact :=
  { c with candidate := c.candidate.map fun d => { d with left := d.left - 1 } }

/-- The six discrete inputs one millisecond on. -/
def Inputs.tick (f : Inputs) : Inputs :=
  ⟨f.park.tick, f.seat.tick, f.detA.tick, f.detB.tick, f.extUp.tick, f.extDown.tick⟩

/-- An implement record one millisecond on (R10). -/
def ImplementRecord.tick (r : ImplementRecord) : ImplementRecord :=
  match r.state with
  | .pending t => { r with state := .pending (t - 1) }
  | .active => r

/-- A trailer record one millisecond on (R10). -/
def TrailerRecord.tick (r : TrailerRecord) : TrailerRecord :=
  match r.state with
  | .pending t => { r with state := .pending (t - 1) }
  | .active => r
  | .degraded => r
  | .lost => r
  | .retiring _ => r

/-- A pack's ramp one millisecond on (R78, R79). -/
def PackRecord.tick (p : PackRecord) : PackRecord :=
  match p.state with
  | .rising duration t => { p with state := .rising duration (t + 1) }
  | .falling start duration t => { p with state := .falling start duration (t + 1) }
  | .released => p
  | .fill => p
  | .locked => p
  | .calStep => p
  | .fault => p

/-- The shift record one millisecond on: the time since HANDOVER start runs in HANDOVER and CONFIRM
(R81, R114). -/
def ShiftRecord.tick (e : EngineState) (r : ShiftRecord) : ShiftRecord :=
  match e with
  | .handover => { r with sinceHandover := r.sinceHandover + 1 }
  | .confirm => { r with sinceHandover := r.sinceHandover + 1 }
  | .settled => r
  | .interval => r
  | .supplyWait => r
  | .fill => r
  | .calHold => r

/-- The Shift Engine one millisecond on. -/
def Engine.tick (e : Engine) : Engine :=
  { e with timer := tickTimer e.timer, seatTimer := tickTimer e.seatTimer, record := e.record.map (·.tick e.state) }

/-- A running calibration one millisecond on (R119). -/
def CalJob.tick (j : CalJob) : CalJob :=
  { j with fill1 := tickTimer j.fill1, fill2 := tickTimer j.fill2, settle := tickTimer j.settle,
           step := tickTimer j.step }

/-- The hitch mode one millisecond on (R153). -/
def HitchMode.tick (m : HitchMode) : HitchMode :=
  match m with
  | .travel purpose target t => .travel purpose target (t - 1)
  | .hold => .hold
  | .work => .work
  | .manual d => .manual d
  | .locked => .locked

/-- One millisecond passing at the part: every running timer and every ramp, and nothing else
(log 2). -/
def State.tick (s : State) : State :=
  { s with
    mfe := { s.mfe with inputs := s.mfe.inputs.tick }
    cpt := { s.cpt with hitch := s.cpt.hitch.map (·.tick), drawbar := s.cpt.drawbar.map (·.tick) }
    packs := s.packs.all PackRecord.tick
    she := s.she.tick
    cau := { s.cau with job := s.cau.job.map (·.tick) }
    frd := { s.frd with releaseTimer := tickTimer s.frd.releaseTimer, fillTimer := tickTimer s.frd.fillTimer }
    htc := { s.htc with mode := s.htc.mode.tick }
    rlk := { s.rlk with window := tickTimer s.rlk.window } }

end Sys2Proof.Machine
end

