-- ==== Sys2Proof/Machine/FillSupply.lean ====
section
/-! DEFINITION. The fill supply: requests, the grant decision and what a grant starts, cancelling,
and the release when the fill list empties (R70 to R75, R99, R123, R137). -/

namespace Sys2Proof.Machine

/-- Whether a requester waits (R70). -/
def Waiting.has (w : Waiting) (r : Requester) : Bool :=
  match r with
  | .shift => w.shift
  | .front => w.front
  | .cal => w.cal

/-- A requester put into the waiting set or taken out of it (R71, R74). -/
def Waiting.put (w : Waiting) (r : Requester) (b : Bool) : Waiting :=
  match r with
  | .shift => { w with shift := b }
  | .front => { w with front := b }
  | .cal => { w with cal := b }

/-- The waiter of highest priority: SHIFT, then FRONT, then CAL (R70). -/
def Waiting.first (w : Waiting) : Option Requester :=
  if w.shift then some .shift else if w.front then some .front else if w.cal then some .cal else none

/-- Whom the grant decision grants the supply to, if anyone (R72). -/
def Supply.grantee (f : Supply) : Option Requester :=
  match f.holder, f.charge with
  | none, .ok => f.waiting.first
  | _, _ => none

/-- The packs of a list that are in FILL. -/
def PackFile.filling (f : PackFile) (ps : List PackId) : List PackId :=
  ps.filter fun p => (f.get p).state = .fill

/-- The largest active fill time of a list of packs (R99). -/
def PackFile.longestFill (f : PackFile) (ps : List PackId) : Nat :=
  ps.foldl (fun t p => max t (f.get p).active.tf) 0

/-- Packs ordered into FILL under a grant: each that enters FILL joins the fill list (R70, R72). -/
def State.startFill (s : State) (ps : List PackId) : State :=
  let packs := s.packs.order ps PackRecord.toFill
  { s with packs := packs, fsa := { s.fsa with fillList := packs.filling ps } }

/-- The grant at the Shift Engine: the on-coming packs fill, the fill timer and Ne_ref are fixed,
the draft-latch signal is raised (R99). -/
def State.grantShift (s : State) : State :=
  match s.she.record with
  | none => s
  | some r =>
    let s := s.startFill r.onComing
    State.raiseLatch
      { s with she := { s.she with
          state := .fill
          timer := some (s.packs.longestFill r.onComing)
          record := some { r with neRef := s.mfe.ne.held } } }

/-- The grant at the Front Drive Controller: FDP fills for its active tf (R137). -/
def State.grantFront (s : State) : State :=
  let s := s.startFill [.fdp]
  { s with frd := { s.frd with phase := .filling, fillTimer := some s.packs.fdp.active.tf } }

/-- The grant at the Calibration Unit: both partners fill, each for its active tf (R123). -/
def State.grantCal (s : State) : State :=
  match s.cau.job with
  | none => s
  | some j =>
    let s := s.startFill [j.partner1, j.partner2]
    { s with cau := { s.cau with job := some { j with
        phase := .filling
        fill1 := some (s.packs.get j.partner1).active.tf
        fill2 := some (s.packs.get j.partner2).active.tf } } }

/-- The supply granted to a requester, which leaves the waiting set and orders its packs into FILL
(R72). -/
def State.grantTo (s : State) (r : Requester) : State :=
  let s := { s with fsa := { s.fsa with holder := some r, fillList := [], waiting := s.fsa.waiting.put r false } }
  match r with
  | .shift => s.grantShift
  | .front => s.grantFront
  | .cal => s.grantCal

/-- The grant decision, made anew where a grant puts no pack into FILL and so releases the supply at
the same event (R72, R73). Each round takes one requester out of the waiting set. -/
def State.grantRounds (n : Nat) (s : State) : State :=
  match n with
  | 0 => s
  | n + 1 =>
    match s.fsa.grantee with
    | none => s
    | some r =>
      let s := s.grantTo r
      if s.fsa.fillList.isEmpty then State.grantRounds n { s with fsa := { s.fsa with holder := none } } else s

/-- The grant decision (R72). -/
def State.grantDecision (s : State) : State := s.grantRounds 3

/-- A request for the fill supply (R71). -/
def State.requestSupply (s : State) (r : Requester) : State :=
  if s.fsa.waiting.has r || s.fsa.holder = some r then s
  else State.grantDecision { s with fsa := { s.fsa with waiting := s.fsa.waiting.put r true } }

/-- A request cancelled: the requester leaves the waiting set, and no grant decision is made (R74). -/
def State.cancelSupply (s : State) (r : Requester) : State :=
  { s with fsa := { s.fsa with waiting := s.fsa.waiting.put r false } }

/-- Packs that have left FILL leave the fill list; when that empties it, the supply is released and
the grant decision is made (R73). -/
def State.leaveFill (s : State) (ps : List PackId) : State :=
  let rest := s.fsa.fillList.filter fun p => !ps.contains p
  if !s.fsa.fillList.isEmpty && rest.isEmpty then
    State.grantDecision { s with fsa := { s.fsa with holder := none, fillList := [] } }
  else { s with fsa := { s.fsa with fillList := rest } }

end Sys2Proof.Machine
end

