-- ==== Sys2Proof/Machine/FrontDriveOps.lean ====
section
/-! DEFINITION. The Front Drive Controller: causes, the release-delay timer, the demand, the pack
actions, the slip latch and the FRONT notice (R130 to R140). -/

namespace Sys2Proof.Machine

/-- The six engage causes (R132). -/
structure Causes where
  modeOn : Bool
  braking : Bool
  trailer : Bool
  lost : Bool
  slip : Bool
  radar : Bool
deriving DecidableEq, Repr

/-- Whether a trailer record is LOST. -/
def TrailerRecord.isLost (r : TrailerRecord) : Bool := r.state = .lost

/-- Whether the trailer record of an entry is LOST. -/
def entryLost (r : Option TrailerRecord) : Bool :=
  match r with
  | none => false
  | some r => r.isLost

/-- Whether any coupling record is LOST (R26, R132, R165). -/
def Coupling.anyLost (c : Coupling) : Bool := entryLost c.drawbar || entryLost c.towthru

/-- The engage causes as they stand (R132). -/
def State.causes (s : State) : Causes :=
  { modeOn := s.frd.mode = .on
    braking := s.tre.braking
    trailer := s.frd.params.trailerThreshold ≠ 0 && s.frd.params.trailerThreshold ≤ s.tbc.demand
    lost := s.cpt.anyLost
    slip := s.frd.mode = .auto && s.frd.latch
    radar := s.frd.mode = .auto && s.mfe.vg.failed }

/-- The braking causes: BRAKING and TRAILER (R132). -/
def Causes.brakingCause (c : Causes) : Bool := c.braking || c.trailer

/-- The standing causes: the other four (R132). -/
def Causes.standing (c : Causes) : Bool := c.modeOn || c.lost || c.slip || c.radar

/-- The causes of a FRONT notice, one bit each (R184). -/
def Causes.code (c : Causes) : Nat :=
  bit c.modeOn + 2 * bit c.braking + 4 * bit c.trailer + 8 * bit c.lost + 16 * bit c.slip + 32 * bit c.radar

/-- Whether the front drive is engaged (R130). -/
def State.engaged (s : State) : Bool :=
  match s.straps.fdkind with
  | .spring => s.packs.fdp.state ≠ .locked
  | .pressure => s.packs.fdp.state = .locked

/-- The FRONT notice of a change of the engaged status (R140, R184). -/
def State.offerFront (s : State) : State :=
  s.offer (.front (if s.engaged then .engaged else .released))
    [byte (bit s.engaged), byte s.frd.mode.code, byte s.causes.code, byte (bit s.frd.releaseTimer.isSome),
     byte s.packs.fdp.state.code]

/-- Whether the demand calls for FDP LOCKED (R136). -/
def calledLocked (k : FdKind) (engage : Bool) : Bool :=
  match k with
  | .spring => !engage
  | .pressure => engage

/-- The release-delay timer, the braking-cause record and the demand at an evaluation (R132,
R133). -/
def FrontDrive.evaluate (f : FrontDrive) (c : Causes) : FrontDrive :=
  let timer :=
    if c.brakingCause then none
    else if f.brakingRecord && !c.standing then some f.params.releaseDelay
    else f.releaseTimer
  { f with
    releaseTimer := timer
    brakingRecord := c.brakingCause
    engage := c.brakingCause || c.standing || timer.isSome }

/-- The pack phase brought into agreement with the pack state the demand calls for (R136). -/
def State.actOnFdp (s : State) : State :=
  match s.frd.phase, calledLocked s.straps.fdkind s.frd.engage with
  | .rest, true => State.requestSupply { s with frd := { s.frd with phase := .waiting } } .front
  | .waiting, false => State.cancelSupply { s with frd := { s.frd with phase := .rest } } .front
  | .filling, false =>
    State.leaveFill
      { s with frd := { s.frd with phase := .rest, fillTimer := none }
               packs := s.packs.update PackRecord.release .fdp } [.fdp]
  | .holding, false =>
    State.offerFront
      { s with frd := { s.frd with phase := .rest }
               packs := s.packs.update PackRecord.release .fdp }
  | .rest, false => s
  | .waiting, true => s
  | .filling, true => s
  | .holding, true => s

/-- An evaluation of the engage demand (R132, R133, R136). -/
def State.evaluateFront (s : State) : State :=
  State.actOnFdp { s with frd := s.frd.evaluate s.causes }

/-- The slip latch at a slip update (R134): what it reads is the slip, its validity, the held Vg and
whether the ground-speed channel is FAILED. -/
def FrontDrive.slipUpdate (f : FrontDrive) (slip : Nat) (valid : Bool) (vg : Nat) (vgFailed : Bool) : FrontDrive :=
  match f.mode with
  | .off => f
  | .on => f
  | .auto =>
    if vgFailed then { f with onRun := 0, offRun := 0 }
    else if f.params.releaseSpeed < vg then { f with onRun := 0, offRun := 0, latch := false }
    else if !valid then { f with onRun := 0, offRun := 0 }
    else if f.params.thOn ≤ slip then
      let run := min 255 (f.onRun + 1)
      { f with onRun := run, offRun := 0, latch := if f.params.dwell ≤ run then true else f.latch }
    else if slip < f.params.thOff then
      let run := min 255 (f.offRun + 1)
      { f with onRun := 0, offRun := run, latch := if f.params.dwell ≤ run then false else f.latch }
    else { f with onRun := 0, offRun := 0 }

/-- A slip update handed to the Front Drive Controller: the latch, then the evaluation (R41, R132,
R134). -/
def State.slipUpdate (s : State) : State :=
  State.evaluateFront
    { s with frd := s.frd.slipUpdate s.tre.slip s.tre.slipValid s.mfe.vg.held s.mfe.vg.failed }

/-- The check of a valid slip between ground-speed arrivals: withdrawn when No is FAILED or Vw is
below Vmin, which is a slip update (R40, R41). -/
def State.withdrawSlip (s : State) : State :=
  if s.tre.slipValid && (s.mfe.no.failed || s.tre.vw < s.tre.vmin) then
    State.slipUpdate { s with tre := { s.tre with slip := 0, slipValid := false } }
  else s

/-- A change of front mode out of AUTO or into AUTO clears the slip latch and both runs (R131). -/
def FrontDrive.setMode (f : FrontDrive) (m : FrontMode) : FrontDrive :=
  if f.mode ≠ m && (f.mode = .auto || m = .auto) then
    { f with mode := m, latch := false, onRun := 0, offRun := 0 }
  else { f with mode := m }

end Sys2Proof.Machine
end

