-- ==== Sys2Proof/Machine/TrailerOps.lean ====
section
/-! DEFINITION. The weighted set, the towed mass and the trailer demand (R25, R163 to R168), line
supervision (R170, R171) and the downshift-handover flag's event (R101). -/

namespace Sys2Proof.Machine

/-- Whether a trailer record is in the weighted set: ACTIVE, DEGRADED or RETIRING (R25). -/
def TrailerRecord.weighted (r : TrailerRecord) : Bool :=
  match r.state with
  | .pending _ => false
  | .active => true
  | .degraded => true
  | .lost => false
  | .retiring _ => true

/-- An entry's record where it is in the weighted set. -/
def weightedEntry (r : Option TrailerRecord) : List TrailerRecord :=
  match r with
  | none => []
  | some r => if r.weighted then [r] else []

/-- The weighted set (R25). -/
def Coupling.weighted (c : Coupling) : List TrailerRecord := weightedEntry c.drawbar ++ weightedEntry c.towthru

/-- The sum of the active laden masses of the weighted set (R25). -/
def Coupling.weightedMass (c : Coupling) : Nat := (c.weighted.map fun r => r.fields.m).sum

/-- A record's own demand: the lead applies only while braking is detected (R166). -/
def TrailerFields.ownDemand (f : TrailerFields) (bt : Nat) : Nat :=
  if bt = 0 then 0 else bt * f.gt / 128 + f.pld

/-- The mass-weighted mean of a figure over the weighted set (R166, R167). -/
def Coupling.massMean (c : Coupling) (figure : TrailerFields → Nat) : Nat :=
  (c.weighted.map fun r => figure r.fields * r.fields.m).sum / c.weightedMass

/-- The pedal demand (R166). -/
def Coupling.pedalDemand (c : Coupling) (bt : Nat) : Nat := c.massMean fun f => f.ownDemand bt

/-- The downshift assist, an absent Pas counting as 0 (R167). -/
def Coupling.assist (c : Coupling) (flag : Bool) (vg bt : Nat) : Nat :=
  if flag && 800 ≤ vg && bt = 0 then c.massMean fun f => f.pas.getD 0 else 0

/-- The demand and its case, from the inputs as they stand (R164, R165, R168). -/
def State.formDemand (s : State) : Nat × DemandCase :=
  if s.cpt.anyLost then (1500, .full)
  else if s.present .park && !s.cpt.weighted.isEmpty then (1500, .full)
  else if s.cpt.weighted.isEmpty then (0, .empty)
  else
    (min 1500 (max (s.cpt.pedalDemand s.tre.bt) (s.cpt.assist s.she.downshift s.mfe.vg.held s.tre.bt)),
     .weighted)

/-- A computation of D_tr; a change is handed to the Front Drive Controller (R164 to R168). -/
def State.computeDemand (s : State) : State :=
  let (d, c) := s.formDemand
  let t := { s with tbc := { s.tbc with demand := d, case := c } }
  if d = s.tbc.demand then t else t.evaluateFront

/-- The downshift-handover flag set or cleared; each change is an event at the Trailer Brake
Controller (R101, R164). -/
def State.setDownshift (s : State) (b : Bool) : State :=
  if s.she.downshift = b then s
  else State.computeDemand { s with she := { s.she with downshift := b } }

/-- The gap between the line and the demand (R170). -/
def lineGap (pt demand : Nat) : Nat := if demand ≤ pt then pt - demand else demand - pt

/-- The LINE_FAULT notice (R171, R184). -/
def State.offerLineFault (s : State) : State :=
  s.offer (.trailer .lineFault)
    (twoBytes s.tbc.demand ++ twoBytes s.mfe.pt.held ++ [byte s.mfe.pt.state.code,
      byte (s.tbc.case.code + 4 * bit (s.tbc.demand < s.mfe.pt.held))])

/-- The SENSOR notice of a pedal-loss episode (R43, R172, R184). -/
def State.offerPedalLoss (s : State) : State :=
  s.offer (.trailer .sensor)
    (twoBytes s.tbc.demand ++ twoBytes s.mfe.pt.held ++ [byte s.mfe.pt.state.code, byte 0])

/-- Line supervision at a line arrival (R170, R171). -/
def State.superviseLine (s : State) : State :=
  if s.mfe.pt.failed then s
  else if 150 < lineGap s.mfe.pt.held s.tbc.demand then
    let run := min 50 (s.tbc.faultRun + 1)
    let t := { s with tbc := { s.tbc with faultRun := run } }
    if 50 ≤ run && !s.tbc.faultEpisode then
      State.offerLineFault { t with tbc := { t.tbc with faultEpisode := true } }
    else t
  else { s with tbc := { s.tbc with faultRun := 0, faultEpisode := false } }

end Sys2Proof.Machine
end

