-- ==== Sys2Proof/Machine/HitchOps.lean ====
section
/-! DEFINITION. The Hitch Controller: the limits in force, the openings, HITCH notices, the modes,
the travel, MANUAL, the control computation (R143 to R161). -/

namespace Sys2Proof.Machine

/-! ## Limits and notices -/

/-- The lift limit in force (R144). -/
def State.liftLimit (s : State) : Nat :=
  match s.cpt.hitch with
  | none => 1000
  | some r => r.fields.pmax

/-- The depth limit in force (R144). -/
def State.depthLimit (s : State) : Nat :=
  match s.cpt.hitch with
  | none => 0
  | some r => r.fields.pmin

/-- The lowering ceiling in force (R144). -/
def State.loweringCeiling (s : State) : Nat :=
  match s.cpt.hitch with
  | none => 100
  | some r => r.fields.drop

/-- Four values of ten bits each, most significant first, as five bytes (R184). -/
def tenBits (a b c d : Nat) : List Byte :=
  let v := ((a * 1024 + b) * 1024 + c) * 1024 + d
  [byte (v / 4294967296), byte (v / 16777216), byte (v / 65536), byte (v / 256), byte v]

/-- A HITCH notice: `code` is what bits 3 and 4 of its first byte carry, `second` its second ten-bit
value (R161, R184). -/
def State.offerHitch (s : State) (o : HitchOutcome) (code second : Nat) : State :=
  s.offer (.hitch o)
    (byte (s.htc.mode.code + 8 * code + 32 * s.mfe.p.state.code) ::
      tenBits s.mfe.p.held second s.liftLimit s.depthLimit)

/-- The purpose code a notice carries where its event ended a travel (R161, R184). -/
def HitchMode.endedPurpose (m : HitchMode) : Nat :=
  match m with
  | .travel p _ _ => p.code
  | .hold => 0
  | .work => 0
  | .manual _ => 0
  | .locked => 0

/-- The travel target a notice carries where its event ended a travel (R161, R184). -/
def HitchMode.endedTarget (m : HitchMode) : Nat :=
  match m with
  | .travel _ t _ => t
  | .hold => 0
  | .work => 0
  | .manual _ => 0
  | .locked => 0

/-! ## Entering a mode -/

/-- A mode entered with both openings 0 and the draft-loss episode closed (R145, R160). -/
def Hitch.enter (h : Hitch) (m : HitchMode) : Hitch :=
  { h with mode := m, raise := 0, lower := 0, draftLoss := false }

/-- HOLD entered at an event that raises a HITCH notice (R148, R153, R155, R157). -/
def State.holdWith (s : State) (o : HitchOutcome) : State :=
  State.offerHitch { s with htc := s.htc.enter .hold } o s.htc.mode.endedPurpose s.htc.mode.endedTarget

/-- Whether the mode is WORK, TRAVEL or MANUAL (R148, R157). -/
def HitchMode.moving (m : HitchMode) : Bool :=
  match m with
  | .hold => false
  | .work => true
  | .travel _ _ _ => true
  | .manual _ => true
  | .locked => false

/-- A SEAT falling edge at the controller (R157). -/
def State.seatFallingHitch (s : State) : State :=
  if s.htc.mode.moving then s.holdWith .interlock else s

/-! ## Travel -/

/-- The travel target from the purpose and the limits in force (R152). A RETURN has a record in use
throughout; without one the target stands. -/
def State.travelTarget (s : State) (p : Purpose) (present : Nat) : Nat :=
  match p with
  | .goto requested => clamp s.depthLimit s.liftLimit requested
  | .transport => s.liftLimit
  | .return =>
    match s.cpt.hitch with
    | none => present
    | some r => r.fields.ps

/-- The travel target formed again at a change of the limits in force (R144, R152). -/
def State.reformTarget (s : State) : State :=
  match s.htc.mode with
  | .travel p target timer =>
    { s with htc := { s.htc with mode := .travel p (s.travelTarget p target) timer } }
  | .hold => s
  | .work => s
  | .manual _ => s
  | .locked => s

/-- The lift-limit check at a change of the limits: raising stops at or above the new lift limit,
and MANUAL raising ends with LIMIT (R145, R155). -/
def State.checkLift (s : State) : State :=
  if s.liftLimit ≤ s.mfe.p.held then
    match s.htc.mode with
    | .manual .up => s.holdWith .limit
    | _ => { s with htc := { s.htc with raise := 0 } }
  else s

/-- A change of the limits in force by ATTACH or removal, an event at the controller (R144). -/
def State.limitsChanged (s : State) : State := s.reformTarget.checkLift

/-- The distance of the hitch from a target. -/
def distance (a b : Nat) : Nat := if a ≤ b then b - a else a - b

/-- TRAVEL at a hitch-set arrival: the target formed again, then reached, or the openings toward it
(R152). -/
def State.travelArrival (s : State) (p : Purpose) (target timer : Nat) : State :=
  let target := s.travelTarget p target
  let pos := s.mfe.p.held
  if distance pos target ≤ 10 then
    let next : HitchMode :=
      match p with
      | .goto _ => .hold
      | .transport => .hold
      | .return => .work
    State.offerHitch { s with htc := s.htc.enter next } .reached p.code target
  else if pos < target then
    { s with htc := { s.htc with mode := .travel p target timer, raise := s.htc.travelOpening, lower := 0 } }
  else
    { s with htc := { s.htc with
        mode := .travel p target timer, raise := 0, lower := min s.htc.travelOpening s.loweringCeiling } }

/-! ## MANUAL -/

/-- MANUAL at a hitch-set arrival: the ground-speed test, then the limit test, then the openings as
set at entry with the lowering ceiling in force (R155). -/
def State.manualArrival (s : State) (d : ManualDir) : State :=
  if 300 ≤ s.mfe.vg.held || s.mfe.vg.failed then s.holdWith .interlock
  else
    match d with
    | .up =>
      if s.liftLimit ≤ s.mfe.p.held then s.holdWith .limit
      else { s with htc := { s.htc with raise := 30, lower := 0 } }
    | .down =>
      if s.mfe.p.held ≤ s.depthLimit then s.holdWith .limit
      else { s with htc := { s.htc with raise := 0, lower := min 20 s.loweringCeiling } }

/-- Whether a fender button's rising edge is honoured (R154). -/
def State.manualAllowed (s : State) (d : ManualDir) : Bool :=
  s.mfe.vg.held < 300 && !s.mfe.vg.failed && !s.mfe.p.failed &&
    match d with
    | .up => decide (s.mfe.p.held < s.liftLimit)
    | .down => decide (s.depthLimit < s.mfe.p.held)

/-- MANUAL entered by an honoured edge (R154). -/
def State.enterManual (s : State) (d : ManualDir) : State :=
  let h := s.htc.enter (.manual d)
  let h :=
    match d with
    | .up => { h with raise := 30 }
    | .down => { h with lower := min 20 s.loweringCeiling }
  State.offerHitch { s with htc := h } .manual d.code s.htc.mode.endedTarget

/-- A fender button's rising edge at the controller (R154, R155). -/
def State.buttonRising (s : State) (d : ManualDir) : State :=
  match s.htc.mode with
  | .locked => s
  | .manual d' => if d = d' then s else s.holdWith .stopped
  | .hold => if s.manualAllowed d then s.enterManual d else s
  | .work => if s.manualAllowed d then s.enterManual d else s
  | .travel _ _ _ => if s.manualAllowed d then s.enterManual d else s

/-- A fender button's falling edge at the controller (R155). -/
def State.buttonFalling (s : State) (d : ManualDir) : State :=
  match s.htc.mode with
  | .manual d' => if d = d' then s.holdWith .stopped else s
  | .hold => s
  | .work => s
  | .travel _ _ _ => s
  | .locked => s

/-! ## The control computation -/

/-- An integer clamped into a range that reaches from below 0 to above it. -/
def clampInt (lo hi x : Int) : Int := if x < lo then lo else if hi < x then hi else x

/-- The error e of a WORK computation (R158). -/
def controlError (f : ImplementFields) (pos : Nat) (draft : Draft) (slip : Nat) (slipValid : Bool) : Int :=
  let ep : Int := (f.ps : Int) - pos
  let (ed, m) : Int × Int :=
    match f.draft with
    | none => (0, 0)
    | some b =>
      if 0 < b.m && draft.usable then
        (clampInt (-1000) 1000 ((((draft.value : Int) - b.ds) * b.gd).tdiv 256), (b.m : Int))
      else (0, 0)
  let e := ((100 - m) * ep + m * ed).tdiv 100
  if 0 < f.sl && slipValid && f.sl < slip then max e ((slip : Int) - f.sl) else e

/-- The error after the implement's limits (R159, step 1). -/
def limitError (f : ImplementFields) (pos : Nat) (e : Int) : Int :=
  if 0 < e ∧ f.pmax ≤ pos then 0 else if e < 0 ∧ pos ≤ f.pmin then 0 else e

/-- The raise and lower openings of an error (R159, steps 2 to 4). -/
def openings (f : ImplementFields) (e : Int) : Nat × Nat :=
  let a := e.natAbs
  if a ≤ f.db then (0, 0)
  else if 0 < e then (min 100 ((a - f.db) * f.kq / 16), 0)
  else (0, min f.drop ((a - f.db) * f.kq / 16))

/-- Whether a WORK computation finds the draft of a draft-mixed record unusable (R160). -/
def draftMissing (f : ImplementFields) (draft : Draft) : Bool :=
  match f.draft with
  | none => false
  | some b => 0 < b.m && !draft.usable

/-- The DRAFT_LOST notice, carrying the draft pins' channel states (R160, R184). -/
def State.offerDraftLost (s : State) : State :=
  s.offerHitch .draftLost 0 (s.mfe.dl.state.code * 4 + s.mfe.dr.state.code)

/-- The control computation at a hitch-set arrival in WORK, with the draft-loss episode (R158 to
R160). A record is in use throughout WORK; without one both valves are shut (log 23). -/
def State.workArrival (s : State) : State :=
  match s.cpt.hitch with
  | none => { s with htc := { s.htc with raise := 0, lower := 0 } }
  | some r =>
    let pos := s.mfe.p.held
    let e := limitError r.fields pos (controlError r.fields pos s.htc.draft s.tre.slip s.tre.slipValid)
    let (up, down) := openings r.fields e
    let missing := draftMissing r.fields s.htc.draft
    let t := { s with htc := { s.htc with raise := up, lower := down, draftLoss := missing } }
    if missing && !s.htc.draftLoss then t.offerDraftLost else t

/-! ## The arrival, and ROAD -/

/-- The draft formed from the pin channels (R146). -/
def formDraft (dl dr : Chan) : Draft :=
  if dl.failed || dr.failed then ⟨0, false⟩ else ⟨dl.held + dr.held, true⟩

/-- What the Hitch Controller does with a hitch-set arrival, after the Coupling Table (R148). On a
FAILED position channel it does no more than step 2, so the SENSOR notice carries the target as it stood
before the arrival, also where the arrival applied a staged copy, for which R144 and R152 may be read as
forming the target again. DEDUCED, log 16. -/
def State.hitchArrival (s : State) : State :=
  let s := { s with htc := { s.htc with formed := formDraft s.mfe.dl s.mfe.dr } }
  if s.htc.mode.moving && s.mfe.p.failed then s.holdWith .sensor
  else
    match s.htc.mode with
    | .work => s.workArrival
    | .travel p target timer => s.travelArrival p target timer
    | .manual d => s.manualArrival d
    | .hold => s
    | .locked => s

/-- The setting of ROAD at the controller: LOCKED, both openings 0 (R156). -/
def State.roadSet (s : State) : State := { s with htc := s.htc.enter .locked }

/-- The clearing of ROAD at the controller: HOLD from LOCKED (R156). -/
def State.roadCleared (s : State) : State := { s with htc := s.htc.enter .hold }

/-- The reply of every hitch mode request (R143, R183). -/
def State.hitchReply (s : State) : List Byte :=
  [byte s.htc.mode.code, byte s.htc.mode.endedPurpose] ++ twoBytes s.htc.mode.endedTarget ++
    [byte s.htc.travelOpening, byte s.htc.raise, byte s.htc.lower]

end Sys2Proof.Machine
end

