-- ==== Sys2Proof/Machine/CouplingOps.lean ====
section
/-! DEFINITION. The Coupling Table: handles and tags, the towed mass, the hand-overs of a change,
coupling notices, removal, staged copies, acceptance and connector detect (R3 to R27). -/

namespace Sys2Proof.Machine

/-! ## Handles and tags -/

/-- Whether an in-use record holds a handle (R4). -/
def Coupling.holds (c : Coupling) (h : Nat) : Bool :=
  (match c.hitch with | none => false | some r => r.handle = h) ||
  (match c.drawbar with | none => false | some r => r.handle = h) ||
  (match c.towthru with | none => false | some r => r.handle = h)

/-- Whether an in-use record carries a tag (R5). -/
def Coupling.carries (c : Coupling) (t : Nat) : Bool :=
  (match c.hitch with | none => false | some r => r.tag = t) ||
  (match c.drawbar with | none => false | some r => r.tag = t) ||
  (match c.towthru with | none => false | some r => r.tag = t)

/-- The point of the in-use record that holds a handle; handle 0 is held by none (R16). -/
def Coupling.pointOf (c : Coupling) (h : Nat) : Option Point :=
  if h = 0 then none
  else if (match c.hitch with | none => false | some r => decide (r.handle = h)) then some .hitch
  else if (match c.drawbar with | none => false | some r => decide (r.handle = h)) then some .drawbar
  else if (match c.towthru with | none => false | some r => decide (r.handle = h)) then some .towthru
  else none

/-- The handle that follows another: 255 is followed by 1 (R4). -/
def nextHandle (h : Nat) : Nat := if 255 ≤ h then 1 else h + 1

/-- The handle the counter gives: the candidate, or the next one that no in-use record holds. At
most two other records can be in use, so at most two are skipped (R4). -/
def Coupling.freeHandle (c : Coupling) : Nat :=
  if c.holds c.counter then
    if c.holds (nextHandle c.counter) then nextHandle (nextHandle c.counter) else nextHandle c.counter
  else c.counter

/-- Whether the entry of a point is in use (R3). -/
def Coupling.inUse (c : Coupling) (p : Point) : Bool :=
  match p with
  | .hitch => c.hitch.isSome
  | .drawbar => c.drawbar.isSome
  | .towthru => c.towthru.isSome

/-! ## A change of the table and its hand-overs -/

/-- What a coupling notice reports of its record (R27). -/
structure CplReport where
  point : Point
  outcome : CplOutcome
  handle : Nat
  tag : Nat
  state : Nat
deriving DecidableEq, Repr

/-- A coupling notice, with Mtow after the event (R27, R184). -/
def State.offerCoupling (s : State) (r : CplReport) : State :=
  s.offer (.coupling r.point r.outcome)
    ([byte r.handle] ++ twoBytes r.tag ++ [byte r.state] ++ twoBytes s.cpt.mtow)

/-- The handles of the weighted set, which tell a change of its membership. -/
def Coupling.members (c : Coupling) : List Nat := c.weighted.map fun r => r.handle

/-- The hand-overs of a change of the table, which is complete before any block takes it: the load
index at a change of Mtow, the trailer demand at a change of the weighted set's membership, and the
Trailer Brake Controller and the Front Drive Controller at a change in whether any record is LOST
(R26, R44, R132, R164). -/
def State.handOver (s : State) (old : Coupling) : State :=
  let s := if s.cpt.mtow = old.mtow then s else s.formLoadIndex
  if s.cpt.anyLost ≠ old.anyLost then eitherOrder State.computeDemand State.evaluateFront s
  else if s.cpt.members ≠ old.members then s.computeDemand
  else s

/-- A change of the table: Mtow brought up to date, the notices offered, the change handed over
(R25, R26, R27). -/
def State.commit (s : State) (c : Coupling) (reports : List CplReport) : State :=
  let t := { s with cpt := { c with mtow := c.weightedMass } }
  (reports.foldl State.offerCoupling t).handOver s.cpt

/-- An IMPLEMENT record's report. -/
def ImplementRecord.report (r : ImplementRecord) (o : CplOutcome) : CplReport :=
  ⟨.hitch, o, r.handle, r.tag, r.state.code⟩

/-- The report of an IMPLEMENT record's removal (R23). -/
def ImplementRecord.removed (r : ImplementRecord) (o : CplOutcome) : CplReport :=
  ⟨.hitch, o, r.handle, r.tag, removedCode⟩

/-- A TRAILER record's report. -/
def TrailerRecord.report (r : TrailerRecord) (p : Point) (o : CplOutcome) : CplReport :=
  ⟨p, o, r.handle, r.tag, r.state.code⟩

/-- The report of a TRAILER record's removal (R23). -/
def TrailerRecord.removed (r : TrailerRecord) (p : Point) (o : CplOutcome) : CplReport :=
  ⟨p, o, r.handle, r.tag, removedCode⟩

/-! ## Staged copies and acceptance -/

/-- A staged copy made the active fields of the HITCH record (R17). -/
def State.applyImplementCopy (s : State) : State :=
  match s.cpt.hitch with
  | none => s
  | some r =>
    match r.staged with
    | none => s
    | some f =>
      let r' := { r with fields := f, staged := none }
      s.commit { s.cpt with hitch := some r' } [r'.report .applied]

/-- A PENDING HITCH record accepted at a valid position sample (R8). -/
def State.acceptImplement (s : State) (valid : Bool) : State :=
  match s.cpt.hitch with
  | none => s
  | some r =>
    match r.state with
    | .active => s
    | .pending _ =>
      if valid then
        let r' := { r with state := .active }
        s.commit { s.cpt with hitch := some r' } [r'.report .accepted]
      else s

/-- A trailer record with its staged copy, if one is held, made active (R18). -/
def TrailerRecord.applyCopy (r : TrailerRecord) : TrailerRecord :=
  match r.staged with
  | none => r
  | some f => { r with fields := f, staged := none }

/-- The APPLIED report of an entry that holds a staged copy (R18). -/
def appliedReport (p : Point) (r : Option TrailerRecord) : List CplReport :=
  match r with
  | none => []
  | some r => if r.staged.isSome then [r.report p .applied] else []

/-- Every staged trailer copy applied at a pedal-set arrival (R18). -/
def State.applyTrailerCopies (s : State) : State :=
  s.commit
    { s.cpt with drawbar := s.cpt.drawbar.map TrailerRecord.applyCopy
                 towthru := s.cpt.towthru.map TrailerRecord.applyCopy }
    (appliedReport .drawbar s.cpt.drawbar ++ appliedReport .towthru s.cpt.towthru)

/-! ## Connector detect -/

/-- What an edge does to an entry: the entry after it, and the notices it raises. -/
structure EdgeResult where
  entry : Option TrailerRecord
  reports : List CplReport
deriving DecidableEq, Repr

/-- A record's state changed, with a notice. -/
def TrailerRecord.moved (r : TrailerRecord) (p : Point) (st : TrailerState) (o : CplOutcome) : EdgeResult :=
  let r' := { r with state := st }
  ⟨some r', [r'.report p o]⟩

/-- The return state after an edge that does not complete the retirement: as R9 and R11 would act on
a record in that state (R13). -/
def ReturnState.afterEdge (b : ReturnState) (both : Bool) : ReturnState :=
  match b with
  | .pending => if both then .active else .pending
  | .active => if both then .active else .degraded
  | .degraded => if both then .active else .degraded

/-- The DRAWBAR record at a connector-detect edge, by the contacts after it (R9, R11, R13). -/
def TrailerRecord.drawbarEdge (r : TrailerRecord) (deta detb : Bool) : EdgeResult :=
  let both := deta && detb
  let none' := !deta && !detb
  match r.state with
  | .pending _ => if both then r.moved .drawbar .active .accepted else ⟨some r, []⟩
  | .active =>
    if none' then r.moved .drawbar .lost .lost
    else if both then ⟨some r, []⟩
    else r.moved .drawbar .degraded .degraded
  | .degraded =>
    if both then r.moved .drawbar .active .reconnected
    else if none' then r.moved .drawbar .lost .lost
    else ⟨some r, []⟩
  | .lost => ⟨some r, []⟩
  | .retiring b =>
    if none' then ⟨none, [r.removed .drawbar .retired]⟩
    else ⟨some { r with state := .retiring (b.afterEdge both) }, []⟩

/-- The TOWTHRU record at a connector-detect edge: it follows its lead into LOST, and a retirement
completes when the lead loses both contacts (R12, R13). -/
def TrailerRecord.towthruEdge (r : TrailerRecord) (leadLost none' : Bool) : EdgeResult :=
  match r.state with
  | .active => if leadLost then r.moved .towthru .lost .lost else ⟨some r, []⟩
  | .retiring _ => if none' then ⟨none, [r.removed .towthru .retired]⟩ else ⟨some r, []⟩
  | .pending _ => ⟨some r, []⟩
  | .degraded => ⟨some r, []⟩
  | .lost => ⟨some r, []⟩

/-- Whether an edge took the DRAWBAR record into LOST. -/
def enteredLost (before : TrailerRecord) (after : Option TrailerRecord) : Bool := !before.isLost && entryLost after

/-- A debounced DETA or DETB edge at the Coupling Table; ignored while the DRAWBAR entry is free
(R9, R11, R12, R13). -/
def State.detectEdge (s : State) : State :=
  match s.cpt.drawbar with
  | none => s
  | some r =>
    let deta := s.present .detA
    let detb := s.present .detB
    let d := r.drawbarEdge deta detb
    let t : EdgeResult :=
      match s.cpt.towthru with
      | none => ⟨none, []⟩
      | some q => q.towthruEdge (enteredLost r d.entry) (!deta && !detb)
    s.commit { s.cpt with drawbar := d.entry, towthru := t.entry } (d.reports ++ t.reports)

/-! ## Retirement -/

/-- Whether the line is quiet for a RETIRE request (R20). -/
def State.quietLine (s : State) : Bool := s.tbc.demand = 0 && !s.mfe.pt.failed && s.mfe.pt.held ≤ 50

/-- Whether an entry's record is RETIRING. -/
def TrailerRecord.isRetiring (r : TrailerRecord) : Bool :=
  match r.state with
  | .retiring _ => true
  | .pending _ => false
  | .active => false
  | .degraded => false
  | .lost => false

/-- An entry at the retire watch: a RETIRING record is removed (R21). -/
def watchEntry (p : Point) (r : Option TrailerRecord) : EdgeResult :=
  match r with
  | none => ⟨none, []⟩
  | some r => if r.isRetiring then ⟨none, [r.removed p .retired]⟩ else ⟨some r, []⟩

/-- The retire watch on a valid line sample: with the line at 50 or less and no demand, each
RETIRING record is removed (R21). -/
def State.retireWatch (s : State) : State :=
  if s.mfe.pt.held ≤ 50 && s.tbc.demand = 0 then
    let d := watchEntry .drawbar s.cpt.drawbar
    let t := watchEntry .towthru s.cpt.towthru
    s.commit { s.cpt with drawbar := d.entry, towthru := t.entry } (d.reports ++ t.reports)
  else s

/-- The HITCH record removed: the table, then the Hitch Controller, which leaves WORK and RETURN when
the record is retired, and takes the change of the limits (R19, R23, R144, R157). -/
def State.removeImplement (s : State) (r : ImplementRecord) (o : CplOutcome) : State :=
  s.commit { s.cpt with hitch := none } [r.removed o]

/-- The Hitch Controller at the retirement of the HITCH record (R157). -/
def State.retiredHitch (s : State) : State :=
  match s.htc.mode with
  | .work => s.holdWith .retired
  | .travel .return _ _ => s.holdWith .retired
  | .travel (.goto _) _ _ => s
  | .travel .transport _ _ => s
  | .hold => s
  | .manual _ => s
  | .locked => s

end Sys2Proof.Machine
end

