-- ==== Sys2Proof/Machine/ShiftOps.lean ====
section
/-! DEFINITION. The Shift Engine: notices, the step decision and the choices of a destination, one
shift from decision to end, adaptation, forced neutral (R81 to R117). -/

namespace Sys2Proof.Machine

/-- A SHIFT notice: PR, NR, the destination byte, then up to three bytes of its own (R112, R184). -/
def State.offerShift (s : State) (o : ShiftOutcome) (dest : Nat) (rest : List Nat) : State :=
  s.offer (.shift o) ([byte s.she.pr, byte s.she.nr, byte dest] ++ ((rest ++ [0, 0, 0]).take 3).map byte)

/-- The cause of a forced neutral (R109). -/
inductive NeutralCause where
  | seat | park
deriving DecidableEq, Repr

/-- The code of a forced-neutral cause (R184). -/
def NeutralCause.code (c : NeutralCause) : Nat :=
  match c with
  | .seat => 1
  | .park => 2

/-- Every direction, speed and range pack ordered to RELEASED (R104, R105, R110). -/
def State.releaseGearbox (s : State) : State := s.orderPacks gearboxPacks PackRecord.release

/-- The destination of the shift in flight, 0 where there is none (R112). -/
def Engine.destination (e : Engine) : Nat :=
  match e.record with
  | none => 0
  | some r => r.dest

/-- Whether a shift is in flight (R81). -/
def EngineState.inFlight (e : EngineState) : Bool :=
  match e with
  | .settled => false
  | .interval => false
  | .supplyWait => true
  | .fill => true
  | .handover => true
  | .confirm => true
  | .calHold => false

/-! ## Choosing a destination -/

/-- The defined entries of one direction, in index order (R47). -/
def RatioMap.ofDirection (m : RatioMap) (d : Direction) : List RatioEntry :=
  m.entries.filter fun e => e.direction = d

/-- The window of a span step: the first S entries of the direction after PR toward NR, cut off at
NR (R90). -/
def RatioMap.window (m : RatioMap) (d : Direction) (pr nr span : Nat) : List RatioEntry :=
  if pr < nr then ((m.ofDirection d).filter fun e => pr < e.index && e.index ≤ nr).take span
  else (((m.ofDirection d).filter fun e => nr ≤ e.index && e.index < pr).reverse).take span

/-- The destination of a span step: the usable entry in the window farthest from PR (R90). -/
def RatioMap.spanStep (m : RatioMap) (d : Direction) (pr nr span : Nat) : Option RatioEntry :=
  ((m.window d pr nr span).filter fun e => e.usable).getLast?

/-- The usable entries of a direction with index not above NR (R92, R93). -/
def RatioMap.candidates (m : RatioMap) (d : Direction) (nr : Nat) : List RatioEntry :=
  (m.ofDirection d).filter fun e => e.usable && e.index ≤ nr

/-- The destination of a start-off (R92). -/
def RatioMap.startOff (m : RatioMap) (d : Direction) (nr rstart : Nat) : Option RatioEntry :=
  ((m.candidates d nr).filter fun e => e.rn ≤ rstart).getLast?

/-- The speed expected in a ratio (R93). -/
def expectedSpeed (rn ne kw : Nat) : Nat := rn * ne / 1000 * kw / 4096

/-- The nearer of two candidates to the ground speed; between two equally near, the first, which has
the lower index (R93). -/
def nearerEntry (ne kw vg : Nat) (best : Option RatioEntry) (e : RatioEntry) : Option RatioEntry :=
  match best with
  | none => some e
  | some b =>
    if distance (expectedSpeed e.rn ne kw) vg < distance (expectedSpeed b.rn ne kw) vg then some e else some b

/-- The destination of a rolling engagement (R93). -/
def RatioMap.rolling (m : RatioMap) (d : Direction) (nr ne kw vg : Nat) : Option RatioEntry :=
  (m.candidates d nr).foldl (nearerEntry ne kw vg) none

/-! ## Beginning a shift -/

/-- The shift record of a shift from PR into an entry (R96). -/
def State.formRecord (s : State) (dest : RatioEntry) (kind : ShiftKind) : ShiftRecord :=
  let a := s.packsOf s.she.pr
  let b := dest.packs
  { origin := s.she.pr
    dest := dest.index
    kind := kind
    offGoing := a.filter fun p => !b.contains p
    onComing := b.filter fun p => !a.contains p
    common := b.filter fun p => a.contains p
    neRef := 0
    loadIndex := 0
    handover := 0
    sinceHandover := 0
    confirmRun := 0
    onset := none }

/-- A shift begun: SUPPLY_WAIT and the request as SHIFT at the same event; the supply-wait timer
starts under a LOW charge state (R97, R98). -/
def State.beginShift (s : State) (dest : RatioEntry) (kind : ShiftKind) : State :=
  State.requestSupply
    { s with she := { s.she with
        state := .supplyWait
        timer := if s.fsa.charge = .low then some 2000 else none
        record := some (s.formRecord dest kind) } } .shift

/-- A step decision that finds no destination (R95). -/
def State.blocked (s : State) : State :=
  State.offerShift
    { s with she := { s.she with nr := s.she.pr, state := .settled, timer := none } } .blocked s.she.nr []

/-- A decision that finds a destination or none (R89). -/
def State.shiftTo (s : State) (dest : Option RatioEntry) (kind : RatioEntry → ShiftKind) : State :=
  match dest with
  | none => s.blocked
  | some b => s.beginShift b (kind b)

/-- A neutral shift (R94). -/
def State.neutralShift (s : State) : State :=
  let s := s.orderPacks (s.packsOf s.she.pr) PackRecord.release
  { s with she := { s.she with pr := 0, state := .interval, timer := some s.she.profile.interval } }

/-- The kind of a shift within one direction (R96). -/
def stepKind (a b : RatioEntry) : ShiftKind := if a.rn < b.rn then .upshift else .downshift

/-- The step decision (R89). -/
def State.stepDecision (s : State) : State :=
  if s.she.nr = 0 then s.neutralShift
  else
    match s.rmp.entry s.she.nr with
    | none => s.blocked
    | some target =>
      if s.she.pr = 0 then
        if s.mfe.vg.held < 300 then
          s.shiftTo (s.rmp.startOff target.direction s.she.nr s.she.profile.rstart) fun _ => .startOff
        else
          s.shiftTo
            (s.rmp.rolling target.direction s.she.nr s.mfe.ne.held s.tre.kw s.mfe.vg.held) fun _ => .rolling
      else
        match s.rmp.entry s.she.pr with
        | none => s.blocked
        | some present =>
          if present.direction = target.direction then
            s.shiftTo (s.rmp.spanStep present.direction s.she.pr s.she.nr s.she.profile.span) (stepKind present)
          else s.shiftTo (if target.usable then some target else none) fun _ => .directionChange

/-- An accepted target: NR set, the halt flag cleared, and in SETTLED the step decision where PR
differs and SHIFT_HOLD is clear (R85). -/
def State.acceptTarget (s : State) (nr : Nat) : State :=
  let s := { s with she := { s.she with nr := nr, halt := false } }
  if s.she.state = .settled && s.she.pr ≠ nr && !s.rlk.shiftHold then s.stepDecision else s

/-- The reply of SELECT, STEP and HALT (R183). -/
def State.engineReply (s : State) : List Byte := [byte s.she.pr, byte s.she.nr, byte s.she.state.code]

/-- The clearing of SHIFT_HOLD at the engine (R88). -/
def State.shiftHoldCleared (s : State) : State :=
  if s.she.state = .settled && s.she.pr ≠ s.she.nr then s.stepDecision else s

/-- A change of the charge state handed to a waiting shift: the supply-wait timer starts at LOW and
stops at OK (R98). -/
def State.chargeAtShift (s : State) : State :=
  if s.fsa.waiting.shift && s.she.state = .supplyWait then
    { s with she := { s.she with
        timer := match s.fsa.charge with | .low => some 2000 | .ok => none } }
  else s

/-! ## The phases of a shift -/

/-- The handover time (R100). -/
def handoverTime (p : Profile) (kind : ShiftKind) (loadIndex : Nat) : Nat :=
  match kind with
  | .startOff => p.tstart
  | .rolling => p.tbase - (p.tbase - p.tmin) * loadIndex / 255
  | .upshift => p.tbase - (p.tbase - p.tmin) * loadIndex / 255
  | .downshift => p.tbase - (p.tbase - p.tmin) * loadIndex / 255
  | .directionChange => p.tbase - (p.tbase - p.tmin) * loadIndex / 255

/-- The fall time of the off-going packs (R96). -/
def fallTime (kind : ShiftKind) (t : Nat) : Nat :=
  match kind with
  | .upshift => t / 2
  | .startOff => t
  | .rolling => t
  | .downshift => t
  | .directionChange => t

/-- Whether a kind is an engagement from neutral (R96). -/
def ShiftKind.fromNeutral (k : ShiftKind) : Bool :=
  match k with
  | .startOff => true
  | .rolling => true
  | .upshift => false
  | .downshift => false
  | .directionChange => false

/-- FILL ends and HANDOVER starts: the load index and the handover time are fixed, the ramps begin,
the fill supply is released, and a downshift sets its flag (R100, R101). -/
def State.startHandover (s : State) (r : ShiftRecord) : State :=
  let l := s.tre.loadIndex
  let t := handoverTime s.she.profile r.kind l
  let s := s.orderPacks r.onComing (PackRecord.toRising t)
  let s := s.orderPacks r.offGoing (PackRecord.toFalling (fallTime r.kind t))
  let s := { s with she := { s.she with
      state := .handover
      timer := some t
      record := some { r with loadIndex := l, handover := t, sinceHandover := 0 } } }
  let s := s.leaveFill r.onComing
  if r.kind = .downshift then s.setDownshift true else s

/-- HANDOVER ends and CONFIRM starts (R102). -/
def State.startConfirm (s : State) (r : ShiftRecord) : State :=
  let s := s.orderPacks r.onComing PackRecord.risingToLocked
  let s := s.orderPacks r.offGoing PackRecord.release
  let s := { s with she := { s.she with
      state := .confirm
      timer := some (if r.kind.fromNeutral then s.she.profile.tcStart else s.she.profile.tc)
      record := some { r with confirmRun := 0 } } }
  s.setDownshift false

/-- The engine at rest in SETTLED with no shift record, no timer and no halt flag. -/
def Engine.rest (e : Engine) (pr nr : Nat) : Engine :=
  { e with pr := pr, nr := nr, state := .settled, timer := none, record := none, halt := false }

/-- A failed confirmation of an ordinary shift (R104). The notice lists the faulted packs as direction,
speed, range, which is the rising order of their codes; R112 and R184 state no order. DESIGN CHOICE,
log 33. -/
def State.failConfirm (s : State) (r : ShiftRecord) : State :=
  let s := s.orderPacks r.onComing PackRecord.confirmFault
  let s := s.releaseGearbox
  let s := s.reform fun e => e.uses r.onComing
  let s := { s with she := { s.she with pr := 0, nr := 0 } }
  let s := s.dropLatch
  let s := { s with she := s.she.rest 0 0 }
  s.offerShift .fault r.dest (r.onComing.map PackId.code)

/-- A stall of an engagement from neutral (R105). -/
def State.stall (s : State) (r : ShiftRecord) : State :=
  let s := s.releaseGearbox
  let s := { s with she := { s.she with pr := 0, nr := 0 } }
  let s := s.dropLatch
  let s := { s with she := s.she.rest 0 0 }
  s.offerShift .stalled r.dest []

/-- The expiry of the supply-wait timer (R98). -/
def State.noSupply (s : State) (r : ShiftRecord) : State :=
  let s := s.cancelSupply .shift
  let s := { s with she := s.she.rest s.she.pr s.she.pr }
  s.offerShift .noSupply r.dest []

/-! ## Onset and adaptation -/

/-- The class of an onset seen now (R114). -/
def Engine.onsetClass (e : Engine) (r : ShiftRecord) : OnsetClass :=
  if e.state = .fill then .early
  else if r.sinceHandover ≤ e.profile.window then .good
  else .late

/-- A speed pair examined for onset, after FILL entry and before the shift ends (R114). -/
def State.examineOnset (s : State) (neValid : Bool) : State :=
  match s.she.record with
  | none => s
  | some r =>
    if neValid && r.onset.isNone && s.she.state.inFlight && s.she.state ≠ .supplyWait
        && s.mfe.ne.held + 20 ≤ r.neRef then
      { s with she := { s.she with record := some { r with onset := some (s.she.onsetClass r) } } }
    else s

/-- The candidate fill time of a class (R116). -/
def candidateFill (tf : Nat) (c : OnsetClass) : Int :=
  match c with
  | .early => (tf : Int) - 4
  | .good => tf
  | .late => (tf : Int) + 4

/-- The candidate clamped into the active bounds (R116). -/
def adjustedFill (f : PackFields) (c : OnsetClass) : Nat := (clampInt f.tfMin f.tfMax (candidateFill f.tf c)).toNat

/-- Whether an adjustment is held at the limit: the class asked for a change and the fill time did
not move (R116). -/
def heldAtLimit (f : PackFields) (c : OnsetClass) : Bool := c ≠ .good && adjustedFill f c = f.tf

/-- A pack's fill time and at-limit count adjusted (R116). -/
def PackRecord.adjust (c : OnsetClass) (p : PackRecord) : PackRecord :=
  { p with
    active := { p.active with tf := adjustedFill p.active c }
    atLimit := if heldAtLimit p.active c then min 8 (p.atLimit + 1) else 0 }

/-- The ADAPT LIMIT notice: the bound reached, tf and the other bound (R117, R184). -/
def State.offerLimit (s : State) (p : PackId) (c : OnsetClass) : State :=
  let f := (s.packs.get p).active
  s.offer .adaptLimit
    ([byte p.code, byte (if c = .early then 1 else 2)] ++ twoBytes f.tf ++
      twoBytes (if c = .early then f.tfMax else f.tfMin))

/-- A qualifying shift's on-coming pack adjusted; a held adjustment that brings the count from 7 to
8 raises LIMIT (R116, R117). -/
def State.adjustFill (s : State) (p : PackId) (c : OnsetClass) : State :=
  let before := s.packs.get p
  let t := { s with packs := s.packs.update (PackRecord.adjust c) p }
  if heldAtLimit before.active c && before.atLimit = 7 then t.offerLimit p c else t

/-- A completed shift offered to adaptation: an upshift with one on-coming pack and an Ne_ref of 1200
or more qualifies; an observation not seen is classed LATE (R114, R115). -/
def State.adapt (s : State) (r : ShiftRecord) : State :=
  match r.kind, r.onComing with
  | .upshift, [p] => if 1200 ≤ r.neRef then s.adjustFill p (r.onset.getD .late) else s
  | _, _ => s

/-! ## Confirmation and completion -/

/-- Whether a measured ratio lies within three per cent of the nominal one (R103). -/
def qualifies (rm : Option Nat) (rn : Nat) : Bool :=
  match rm with
  | none => false
  | some x => distance x rn * 100 ≤ 3 * rn

/-- The nominal ratio of an index. -/
def State.nominal (s : State) (index : Nat) : Nat :=
  match s.rmp.entry index with
  | none => 0
  | some e => e.rn

/-- The direction of an index, or the last direction where it has none. -/
def State.directionOf (s : State) (index : Nat) : Direction :=
  match s.rmp.entry index with
  | none => s.she.lastDir
  | some e => e.direction

/-- The end of a completed shift: halted, done, or on to the interval (R106, R107). -/
def State.afterShift (s : State) (dest : Nat) : State :=
  if s.she.halt then
    State.offerShift { s with she := s.she.rest s.she.pr s.she.pr } .halted dest []
  else if s.she.pr = s.she.nr then
    State.offerShift { s with she := s.she.rest s.she.pr s.she.nr } .done dest []
  else
    { s with she := { s.she with
        state := .interval, timer := some s.she.profile.interval, record := none } }

/-- The completion of a confirmed shift, in the order of R106. -/
def State.complete (s : State) (r : ShiftRecord) : State :=
  let s := { s with she := { s.she with pr := r.dest, lastDir := s.directionOf r.dest } }
  let s := s.adapt r
  let s := s.dropLatch
  let s := { s with she := { s.she with record := none } }
  s.afterShift r.dest

/-- A speed pair in CONFIRM: the third qualifying pair in a row confirms the shift (R103). -/
def State.confirmPair (s : State) : State :=
  match s.she.state, s.she.record with
  | .confirm, some r =>
    if qualifies s.tre.rm (s.nominal r.dest) then
      if 2 ≤ r.confirmRun then s.complete { r with confirmRun := 3 }
      else { s with she := { s.she with record := some { r with confirmRun := r.confirmRun + 1 } } }
    else { s with she := { s.she with record := some { r with confirmRun := 0 } } }
  | _, _ => s

/-- A speed pair at the Shift Engine: the onset examination, then the confirmation (R103, R114). -/
def State.shiftPair (s : State) (neValid : Bool) : State := (s.examineOnset neValid).confirmPair

/-! ## Forced neutral -/

/-- A forced-neutral trigger (R110). -/
def State.forcedNeutral (s : State) (c : NeutralCause) : State :=
  if s.she.state = .calHold then s
  else if s.she.state = .settled && s.she.pr = 0 && s.she.nr = 0 then s
  else
    let dest := s.she.destination
    let s := s.releaseGearbox
    let s := if s.she.state = .supplyWait then s.cancelSupply .shift else s
    let s := if s.she.state = .fill then s.leaveFill gearboxPacks else s
    let s := { s with she := { s.she.rest 0 0 with seatTimer := none } }
    let s := s.setDownshift false
    let s := s.dropLatch
    s.offerShift .forcedNeutral dest [c.code]

end Sys2Proof.Machine
end

