-- ==== Sys2Proof/Machine/CalibrationOps.lean ====
section
/-! DEFINITION. The Calibration Unit: partners, the start, the kiss, the step limit, the aborts and
the CAL notice (R119 to R128). -/

namespace Sys2Proof.Machine

/-- The partner packs of a pack under test; FDP has none (R121). -/
def PackId.partners (p : PackId) : Option (PackId × PackId) :=
  match p with
  | .fwd => some (.sp1, .rngA)
  | .rev => some (.sp1, .rngA)
  | .sp1 => some (.fwd, .rngA)
  | .sp2 => some (.fwd, .rngA)
  | .sp3 => some (.fwd, .rngA)
  | .sp4 => some (.fwd, .rngA)
  | .sp5 => some (.fwd, .rngA)
  | .sp6 => some (.fwd, .rngA)
  | .rngA => some (.fwd, .sp1)
  | .rngB => some (.fwd, .sp1)
  | .rngC => some (.fwd, .sp1)
  | .fdp => none

/-- The causes of an abort (R126). -/
inductive AbortCause where
  | park | groundSpeed | outputSpeed | engineSpeed | sensor | supply
deriving DecidableEq, Repr

/-- The code of an abort cause (R184). -/
def AbortCause.code (c : AbortCause) : Nat :=
  match c with
  | .park => 1
  | .groundSpeed => 2
  | .outputSpeed => 3
  | .engineSpeed => 4
  | .sensor => 5
  | .supply => 6

/-- What a CAL notice carries of a quantity that only STEPPING forms: 0 if the calibration never
entered STEPPING, which is at the end of SETTLING (R124, R128). -/
def CalPhase.formed (p : CalPhase) (x : Nat) : Nat :=
  match p with
  | .stepping => x
  | .waiting => 0
  | .filling => 0
  | .settling => 0

/-- A CAL notice: the pack, the step pressure and Ne_ref, and its two bytes by outcome (R128, R184). -/
def State.offerCal (s : State) (j : CalJob) (o : CalOutcome) (a b : Nat) : State :=
  s.offer (.cal o)
    ([byte j.pack.code, byte (j.phase.formed s.cau.stepPressure)] ++ twoBytes (j.phase.formed s.cau.neRef) ++
      [byte a, byte b])

/-- The three packs of a calibration (R121). -/
def CalJob.packs (j : CalJob) : List PackId := [j.pack, j.partner1, j.partner2]

/-- The end of a calibration: the unit IDLE, with no pack and no timer, the engine SETTLED with PR and
NR at 0 (R111, R125, R126). -/
def State.endCalibration (s : State) : State :=
  { s with cau := { s.cau with job := none }, she := { s.she with pr := 0, nr := 0, state := .settled } }

/-- An abort with its cause; nothing where no calibration runs (R126). -/
def State.abortCal (s : State) (c : AbortCause) : State :=
  match s.cau.job with
  | none => s
  | some j =>
    let s := if j.phase = .waiting then s.cancelSupply .cal else s
    let s := s.orderPacks j.packs PackRecord.release
    let s := if j.phase = .filling then s.leaveFill [j.partner1, j.partner2] else s
    let s := s.offerCal j .aborted c.code j.phase.code
    s.endCalibration

/-- A kiss at a speed pair in STEPPING (R125). -/
def State.kiss (s : State) (j : CalJob) : State :=
  let pk := s.cau.stepPressure
  let before := (s.packs.get j.pack).active.pf
  let after := max 5 (pk - 2)
  let s := s.orderPacks j.packs PackRecord.release
  let s := { s with packs :=
      s.packs.update (fun p => { p with active := { p.active with pf := after } }) j.pack }
  let s := s.offerCal j .done before after
  s.endCalibration

/-- NO_KISS after the step limit (R125). -/
def State.noKiss (s : State) (j : CalJob) : State :=
  let s := s.orderPacks [j.pack] PackRecord.calFault
  let s := s.reform fun e => e.uses [j.pack]
  let s := s.orderPacks [j.partner1, j.partner2] PackRecord.release
  let s := s.offerCal j .noKiss FaultCause.cal.code 0
  s.endCalibration

/-- A speed pair at a running calibration: the tests in the order of R125 and R126. -/
def State.calPair (s : State) (neValid : Bool) : State :=
  match s.cau.job with
  | none => s
  | some j =>
    if s.mfe.no.failed then s.abortCal .sensor
    else if 5 ≤ s.mfe.no.held then s.abortCal .outputSpeed
    else if j.phase = .stepping && neValid && s.mfe.ne.held + 30 ≤ s.cau.neRef then s.kiss j
    else if s.mfe.ne.failed then s.abortCal .sensor
    else if s.mfe.ne.held < 900 || 1500 < s.mfe.ne.held then s.abortCal .engineSpeed
    else s

/-- A ground-speed arrival at a running calibration (R126). -/
def State.calGround (s : State) : State :=
  match s.cau.job with
  | none => s
  | some _ =>
    if s.mfe.vg.failed then s.abortCal .sensor
    else if 10 ≤ s.mfe.vg.held then s.abortCal .groundSpeed
    else s

/-- A change of the charge state handed to a waiting calibration: LOW aborts it (R126). -/
def State.chargeAtCal (s : State) : State :=
  if s.fsa.waiting.cal && s.fsa.charge = .low then s.abortCal .supply else s

/-- The interlocks of CALIBRATE (R120). -/
def State.calInterlock (s : State) : Bool :=
  s.present .park && s.mfe.vg.held < 10 && s.mfe.no.held < 5 && 900 ≤ s.mfe.ne.held && s.mfe.ne.held ≤ 1500
    && !s.mfe.vg.failed && !s.mfe.no.failed && !s.mfe.ne.failed

/-- An accepted CALIBRATE, in the order of R122. -/
def State.startCal (s : State) (pack p1 p2 : PackId) (interval : Nat) : State :=
  let job : CalJob :=
    { phase := .waiting, pack := pack, partner1 := p1, partner2 := p2, fill1 := none, fill2 := none,
      settle := none, step := none }
  let s := { s with
    cau := { s.cau with job := some job, interval := interval, stepCount := 0 }
    she := { s.she with state := .calHold, nr := 0 } }
  let s := s.requestSupply .cal
  if s.fsa.charge = .low then s.abortCal .supply else s

/-- The phase code of the Calibration Unit, 0 for IDLE (R183). -/
def CalUnit.phaseCode (c : CalUnit) : Nat :=
  match c.job with
  | none => 0
  | some j => j.phase.code

/-- A partner's fill timer expires: the partner locks, and the second one's lock releases the supply
and starts settling (R123). -/
def State.partnerFilled (s : State) (j : CalJob) (partner : Partner) : State :=
  let (p, j') : PackId × CalJob :=
    match partner with
    | .first => (j.partner1, { j with fill1 := none })
    | .second => (j.partner2, { j with fill2 := none })
  let s := s.orderPacks [p] PackRecord.fillToLocked
  let done := j'.fill1.isNone && j'.fill2.isNone
  let j'' := if done then { j' with phase := .settling, settle := some 500 } else j'
  let s := { s with cau := { s.cau with job := some j'' } }
  s.leaveFill [p]

/-- Settling ends: Ne_ref, CAL_STEP at 20, the step timer (R124). -/
def State.startStepping (s : State) (j : CalJob) : State :=
  let s := { s with cau := { s.cau with
      job := some { j with phase := .stepping, settle := none, step := some s.cau.interval }
      neRef := s.mfe.ne.held
      stepCount := 0 } }
  s.orderPacks [j.pack] PackRecord.toCalStep

/-- The step timer expires: the pressure rises by one, or NO_KISS with the count at 60 (R124). -/
def State.nextStep (s : State) (j : CalJob) : State :=
  if s.cau.stepCount < 60 then
    { s with cau := { s.cau with
        job := some { j with step := some s.cau.interval }
        stepCount := s.cau.stepCount + 1 } }
  else s.noKiss j

end Sys2Proof.Machine
end

