-- ==== Sys2Proof/Machine/LinkOps.lean ====
section
/-! DEFINITION. A transaction of the Request Link: the pending reply shifted out, the request taken,
the reply formed (R174, R175, R177, R179), the STATUS snapshot (R182), and what a reset leaves of the
whole part (R178, R180). -/

namespace Sys2Proof.Machine

/-- What a block answers to a request: a state and the payload of an OK reply, or a refusal, which
changes no state (R2, R177). -/
inductive Answer where
  | ok (s : State) (payload : List Byte)
  | refused (status : Status)
deriving DecidableEq, Repr

/-- The bytes shifted out while some bytes are clocked: the frame, then 00h (R174). -/
def clockOut (frame : List Byte) (clocked : Nat) : List Byte :=
  frame.take clocked ++ List.replicate (clocked - frame.length) 0#8

/-- The frame of the pending reply, empty where none is pending. -/
def Link.pendingFrame (l : Link) : List Byte :=
  match l.pending with
  | none => []
  | some r => r.frame

/-- The fate of the pending reply: delivered if every byte of its frame was clocked out (R174). -/
def Link.fate (l : Link) (clocked : Nat) : Option ReplyFate :=
  match l.pending with
  | none => none
  | some r => some (if r.frame.length ≤ clocked then .delivered else .lost)

/-- The fate of the pending reply settled at the end of a transaction: it leaves the buffer (R174). -/
def State.settleReply (s : State) (clocked : Nat) : State :=
  { s with rlk := { s.rlk with
      pending := none
      shiftedOut := clockOut s.rlk.pendingFrame clocked
      lastFate := s.rlk.fate clocked } }

/-- A transaction begun while the start-up window runs: the pending reply is shifted out and stays
pending, the bytes received are discarded (R179). -/
def State.windowShift (s : State) (clocked : Nat) : State :=
  { s with rlk := { s.rlk with shiftedOut := clockOut s.rlk.pendingFrame clocked } }

/-- A transaction: not received while the part is held in reset, discarded while the start-up window
runs, and otherwise settled, judged and answered (R174, R178, R179). -/
def transaction (clocked : Nat) (take : State → State × Reply) (s : State) : Host.Outcome State Fault Refusal :=
  .next
    (if s.heldInReset then s
     else if s.rlk.window.isSome then s.windowShift clocked
     else
       let (t, reply) := take (s.settleReply clocked)
       let t := t.orderNotices s.nts.notices.length
       { t with rlk := { t.rlk with pending := some reply } })

/-- A block's answer made the reply of a request code (R177): every reply that is not OK carries
payload length 0. -/
def Answer.reply (a : Answer) (code : Byte) (s : State) : State × Reply :=
  match a with
  | .ok t payload => (t, ⟨code, .ok, payload⟩)
  | .refused status => (s, ⟨code, status, []⟩)

/-- A request whose frame passes the checks of R175: `n` payload bytes, `extra` bytes clocked after
the frame, carried out by the block that owns it (R174, R177). -/
def request (code : Byte) (n extra : Nat) (act : State → Answer) (s : State) : Host.Outcome State Fault Refusal :=
  transaction (n + 3 + extra) (fun t => (act t).reply code t) s

/-! ## Status -/

/-- The condition set, coded as the SET_CONDITION mask (R181). -/
def Link.conditions (l : Link) : Nat := bit l.road + 2 * bit l.shiftHold

/-- The straps as STATUS codes them (R182). -/
def Straps.code (p : Straps) : Nat :=
  (match p.gearset with | .four => 0 | .six => 1) + (match p.fdkind with | .spring => 0 | .pressure => 2)

/-- The fifteen bytes of the STATUS snapshot (R182). R60 and R77 say that STATUS also reports FDP's
pressure command, for which R182's table has no byte; the model follows R182, whose byte 5 tells which
of 0, the active Pf and the active Pl that command is. DEDUCED, log 30. -/
def State.snapshot (s : State) : List Byte :=
  [byte s.she.pr, byte s.she.nr, byte s.she.state.code, byte (bit s.engaged), byte s.packs.fdp.state.code,
   byte s.htc.mode.code] ++ twoBytes s.mfe.p.held ++ twoBytes s.tbc.demand ++
  [byte s.fsa.charge.code, byte (holderCode s.fsa.holder), byte s.rlk.conditions, byte s.nts.notices.length,
   byte s.straps.code]

/-! ## Resets -/

/-- What every reset kind leaves, soft reset included (R28, R33, R46, R69, R76, R113, R129, R142,
R162, R173, R181, R188). The packs, the map, the discrete inputs, the straps and the rest of the link
are each kind's own. -/
def State.commonReset (s : State) : State :=
  { s with
    mfe := .afterReset s.mfe.inputs
    tre := .afterReset
    cpt := .afterReset
    fsa := .afterReset
    she := .afterReset
    cau := .afterReset
    frd := .afterReset
    htc := .afterReset
    tbc := .afterReset
    rlk := { s.rlk with road := false, shiftHold := false }
    nts := .afterReset }

/-- A soft reset: the ratio map, the withhold mask, the packs' calibration and the inputs are kept,
every pack is RELEASED with no fault and no staged copy, and usability is formed again (R65, R180). -/
def State.softReset (s : State) : State :=
  let s := s.commonReset
  State.reform { s with packs := s.packs.all PackRecord.softReset } fun _ => true

/-- A power-on or hard reset at its end: every block at its reset state, the straps latched, the
start-up window open (R63, R178, R179). The queue and the free choices are the model's own. -/
def State.fullReset (s : State) (straps : Straps) : State :=
  { s.commonReset with
    heldInReset := false
    straps := straps
    mfe := .afterReset s.mfe.inputs.afterReset
    rmp := .afterReset
    packs := .afterReset
    rlk := .afterReset }

/-- The part held in reset by RST: every valve at 0, every pack RELEASED, whatever was in progress
given up, the Notice Set emptied and ATTN released, the transaction in progress ended; the valve
outputs and the commands read the flag (R64, R175, R178). What is kept through a soft reset stands
until the end of the hard reset takes it (log 5). -/
def State.holdReset (s : State) : State :=
  let s := s.softReset
  { s with heldInReset := true, rlk := { s.rlk with receiver := [] } }

end Sys2Proof.Machine
end

