-- ==== Sys2Proof/Machine/Arrivals.lean ====
section
/-! DEFINITION. The six arrivals: the channels updated first, then each taker in the order of R29
(R29 to R44, R66, R148, R169). -/

namespace Sys2Proof.Machine

/-- A speed pair at its channels (R30, R31). -/
def State.sampleSpeeds (s : State) (ne no : Sample) : State :=
  { s with mfe := { s.mfe with ne := s.mfe.ne.sample 3500 ne, no := s.mfe.no.sample 4000 no } }

/-- The Traction Estimator at a speed pair: Vw, the measured ratio, then the withdrawal check (R37,
R38, R40). -/
def State.tractionPair (s : State) (neValid noValid : Bool) : State :=
  State.withdrawSlip
    { s with tre := { s.tre with
        vw := wheelSpeed s.mfe.no.held s.tre.kw
        rm := measuredRatio neValid noValid s.mfe.ne.held s.mfe.no.held } }

/-- A speed pair: the Traction Estimator, then the Shift Engine and the Calibration Unit (R29). -/
def State.speedPair (ne no : Sample) (s : State) : State :=
  (((s.sampleSpeeds ne no).tractionPair ne.valid no.valid).shiftPair ne.valid).calPair ne.valid

/-- The Traction Estimator at a ground-speed arrival: slip, and a slip update (R39, R41). -/
def State.groundSlip (s : State) : State :=
  let (slip, valid) := formSlip s.mfe.no.failed s.mfe.vg.failed s.mfe.vg.held s.tre.vw s.tre.vmin
  State.slipUpdate { s with tre := { s.tre with slip := slip, slipValid := valid } }

/-- A ground-speed arrival: the Traction Estimator, then the Calibration Unit (R29). -/
def State.groundSpeed (vg : Sample) (s : State) : State :=
  (State.groundSlip { s with mfe := { s.mfe with vg := s.mfe.vg.sample 8000 vg } }).calGround

/-- A hitch set at its channels (R30, R31). -/
def State.sampleHitch (s : State) (p dl dr : Sample) : State :=
  { s with mfe := { s.mfe with
      p := s.mfe.p.sample 1000 p, dl := s.mfe.dl.sample 1000 dl, dr := s.mfe.dr.sample 1000 dr } }

/-- A hitch set: the Coupling Table applies a staged copy and makes its acceptance check, then the
Hitch Controller, then the load index (R8, R17, R44, R148). The application is no event of its own at
the controller: a MANUAL that it brings to its lift limit ends by the tests of the arrival, SENSOR or
INTERLOCK before LIMIT. DEDUCED, log 16. -/
def State.hitchSet (p dl dr : Sample) (s : State) : State :=
  ((((s.sampleHitch p dl dr).applyImplementCopy).acceptImplement p.valid).hitchArrival).formLoadIndex

/-- The Traction Estimator at a pedal set: the braking flag and Bt (R42). -/
def State.tractionPedals (s : State) : State :=
  let (braking, bt) := formBraking s.mfe.bl s.mfe.br s.tre.bth
  { s with tre := { s.tre with braking := braking, bt := bt } }

/-- The pedal-loss episode at a pedal set: begun, going on, or ended; its beginning is reported once
the trailer demand is computed (R43). -/
def State.pedalEpisode (s : State) : State :=
  let lost := s.mfe.bl.failed && s.mfe.br.failed
  let t := { s with tre := { s.tre with pedalLoss := lost } }
  if lost && !s.tre.pedalLoss then t.offerPedalLoss else t

/-- A pedal set: staged trailer copies and the braking flag, then the Trailer Brake Controller and
the Front Drive Controller in either order, then the pedal-loss report (R18, R29, R32, R42, R43,
R132). -/
def State.pedalSet (bl br : Sample) (s : State) : State :=
  let s := { s with mfe := { s.mfe with bl := s.mfe.bl.sample 1500 bl, br := s.mfe.br.sample 1500 br } }
  let s := s.applyTrailerCopies.tractionPedals
  (eitherOrder State.computeDemand State.evaluateFront s).pedalEpisode

/-- The charge state after a charge arrival (R66). -/
def chargeAfter (pc : Chan) (pcMin : Nat) (present : ChargeState) : ChargeState :=
  if pc.failed then .low
  else if pc.held < pcMin then .low
  else if pcMin + 10 ≤ pc.held then .ok
  else present

/-- The SUPPLY notice of a change event (R67, R184). -/
def State.offerCharge (s : State) : State :=
  s.offer (.supply s.fsa.charge) ([byte s.fsa.charge.code] ++ twoBytes s.mfe.pc.held ++ [byte s.mfe.pc.state.code])

/-- A change event of the charge state: the notice, the waiting requesters, and for a change to OK
the grant decision (R67). -/
def State.chargeChanged (s : State) : State :=
  let s := s.offerCharge.chargeAtShift.chargeAtCal
  if s.fsa.charge = .ok then s.grantDecision else s

/-- A charge arrival (R66, R67). -/
def State.chargeSet (pc : Sample) (s : State) : State :=
  let s := { s with mfe := { s.mfe with pc := s.mfe.pc.sample 300 pc } }
  let c := chargeAfter s.mfe.pc s.fsa.pcMin s.fsa.charge
  if c = s.fsa.charge then s else State.chargeChanged { s with fsa := { s.fsa with charge := c } }

/-- A line arrival: line supervision, then the retire watch on a valid sample, both against the
demand in force when the arrival is taken (R21, R169). -/
def State.lineSet (pt : Sample) (s : State) : State :=
  let s := State.superviseLine { s with mfe := { s.mfe with pt := s.mfe.pt.sample 1500 pt } }
  if pt.valid then s.retireWatch else s

/-- SPEED_PAIR_ARRIVAL. -/
def execSpeedPairArrival (ne no : Sample) (s : State) : Host.Outcome State Fault Refusal :=
  event (State.speedPair ne no) s

/-- GROUND_SPEED_ARRIVAL. -/
def execGroundSpeedArrival (vg : Sample) (s : State) : Host.Outcome State Fault Refusal :=
  event (State.groundSpeed vg) s

/-- HITCH_SET_ARRIVAL. -/
def execHitchSetArrival (p dl dr : Sample) (s : State) : Host.Outcome State Fault Refusal :=
  event (State.hitchSet p dl dr) s

/-- PEDAL_SET_ARRIVAL. -/
def execPedalSetArrival (bl br : Sample) (s : State) : Host.Outcome State Fault Refusal :=
  event (State.pedalSet bl br) s

/-- CHARGE_ARRIVAL. -/
def execChargeArrival (pc : Sample) (s : State) : Host.Outcome State Fault Refusal := event (State.chargeSet pc) s

/-- LINE_ARRIVAL. -/
def execLineArrival (pt : Sample) (s : State) : Host.Outcome State Fault Refusal := event (State.lineSet pt) s

/-- RETIRE_WATCH: the watch on the line sample last delivered, which is valid exactly when the Pt
channel is OK (R21; log 11). -/
def execRetireWatch (s : State) : Host.Outcome State Fault Refusal :=
  event (fun s => if s.mfe.pt.state = .ok then s.retireWatch else s) s

end Sys2Proof.Machine
end

