-- ==== Sys2Proof/Machine/InputEvents.lean ====
section
/-! DEFINITION. The discrete inputs: a raw level change, and a debounced edge delivered to the blocks
that use the input (R34, R35, R109, R126, R154, R155, R157, R164). -/

namespace Sys2Proof.Machine

/-- RAW_INPUT_CHANGE: the pin follows whatever the part does; while the part is held in reset no
debounce timer starts (R34, R36; log 4). -/
def State.rawInput (s : State) (i : DInput) (present : Bool) : State :=
  let c := s.mfe.inputs.get i
  let c' := if s.heldInReset then { c with raw := present } else c.rawChange present
  { s with mfe := { s.mfe with inputs := s.mfe.inputs.set i c' } }

/-- The candidate made the debounced level, its timer stopped (R34). -/
def State.settleInput (s : State) (i : DInput) (level : Bool) : State :=
  let c := s.mfe.inputs.get i
  { s with mfe := { s.mfe with inputs := s.mfe.inputs.set i { c with level := level, candidate := none } } }

/-- A PARK edge: rising forces neutral, falling aborts a calibration, and either is a computation of
the trailer demand; the blocks take it in either order (R35, R109, R126, R164). -/
def State.parkEdge (s : State) (rising : Bool) : State :=
  if rising then eitherOrder (fun s => s.forcedNeutral .park) State.computeDemand s
  else eitherOrder (fun s => s.abortCal .park) State.computeDemand s

/-- A SEAT edge: falling starts the seat timer and ends a hitch movement, rising stops the timer
(R109, R157). -/
def State.seatEdge (s : State) (rising : Bool) : State :=
  if rising then { s with she := { s.she with seatTimer := none } }
  else State.seatFallingHitch { s with she := { s.she with seatTimer := some 2000 } }

/-- A fender-button edge (R154, R155). -/
def State.buttonEdge (s : State) (d : ManualDir) (rising : Bool) : State :=
  if rising then s.buttonRising d else s.buttonFalling d

/-- A debounced edge at the blocks that use the input (R35). -/
def State.deliverEdge (s : State) (i : DInput) (rising : Bool) : State :=
  match i with
  | .park => s.parkEdge rising
  | .seat => s.seatEdge rising
  | .detA => s.detectEdge
  | .detB => s.detectEdge
  | .extUp => s.buttonEdge .up rising
  | .extDown => s.buttonEdge .down rising

/-- A debounced edge: the level, the blocks that use it, and the INPUT notice (R34, R35). -/
def State.debouncedEdge (s : State) (i : DInput) (rising : Bool) : State :=
  ((s.settleInput i rising).deliverEdge i rising).offer (.input i rising) [byte (inputCode i)]

/-- DEBOUNCE_TIMER_EXPIRY at a running debounce timer; nothing at a stopped one (R34). -/
def State.debounceExpiry (i : DInput) (s : State) : State :=
  match (s.mfe.inputs.get i).candidate with
  | none => s
  | some c => s.debouncedEdge i c.level

/-- RAW_INPUT_CHANGE. -/
def execRawInputChange (input : DInput) (present : Bool) (s : State) : Host.Outcome State Fault Refusal :=
  .next (s.rawInput input present)

/-- DEBOUNCE_TIMER_EXPIRY. -/
def execDebounceTimerExpiry (input : DInput) (s : State) : Host.Outcome State Fault Refusal :=
  event (State.debounceExpiry input) s

end Sys2Proof.Machine
end

