-- ==== Sys2Proof/Machine/CouplingRequests.lean ====
section
/-! DEFINITION. The requests of the Coupling Table: ATTACH, AMEND, RETIRE, RESTORE, LOOKUP (R14 to
R24). -/

namespace Sys2Proof.Machine

/-! ## ATTACH -/

/-- A new HITCH record: PENDING with its pending timer started (R10, R15). -/
def newImplement (handle tag : Nat) (f : ImplementFields) : ImplementRecord :=
  { handle := handle, tag := tag, state := .pending 30000, fields := f, staged := none }

/-- A new trailer record in its first state (R15). -/
def newTrailer (handle tag : Nat) (st : TrailerState) (f : TrailerFields) : TrailerRecord :=
  { handle := handle, tag := tag, state := st, fields := f, staged := none }

/-- The notice of a trailer record that enters ACTIVE at ATTACH (R15). -/
def TrailerRecord.attachReport (r : TrailerRecord) (p : Point) : List CplReport :=
  if r.state = .active then [r.report p .accepted] else []

/-- The first state of a DRAWBAR record, by the debounced contacts (R9, R15). -/
def State.drawbarFirst (s : State) : TrailerState :=
  if s.present .detA && s.present .detB then .active else .pending 30000

/-- The checks of ATTACH that follow the first, in their order (R14); none where all pass. -/
def State.attachCheck (s : State) (p : Point) (tag : Nat) : Option Status :=
  if s.cpt.inUse p then some .occupied
  else if p = .towthru && !(match s.cpt.drawbar with
      | none => false
      | some r => decide (r.state = .active) || decide (r.state = .degraded)) then some .noLead
  else if p = .hitch && decide (s.htc.mode = .locked) then some .interlock
  else if tag ≠ 0 && s.cpt.carries tag then some .duplicate
  else none

/-- The table with the handle counter moved past an assigned handle (R4). -/
def Coupling.assigned (c : Coupling) (h : Nat) : Coupling := { c with counter := nextHandle h }

/-- The steps of an ATTACH that passed its checks, for HITCH (R15); it changes the limits in force
(R144). -/
def State.attachImplement (s : State) (tag : Nat) (f : ImplementFields) : State :=
  let h := s.cpt.freeHandle
  let r := newImplement h tag f
  (s.commit { s.cpt.assigned h with hitch := some r } []).limitsChanged

/-- The steps of an ATTACH that passed its checks, for DRAWBAR (R15). -/
def State.attachDrawbar (s : State) (tag : Nat) (f : TrailerFields) : State :=
  let h := s.cpt.freeHandle
  let r := newTrailer h tag s.drawbarFirst f
  s.commit { s.cpt.assigned h with drawbar := some r } (r.attachReport .drawbar)

/-- The steps of an ATTACH that passed its checks, for TOWTHRU (R15). -/
def State.attachTowthru (s : State) (tag : Nat) (f : TrailerFields) : State :=
  let h := s.cpt.freeHandle
  let r := newTrailer h tag .active f
  s.commit { s.cpt.assigned h with towthru := some r } (r.attachReport .towthru)

/-- ATTACH of a point whose kind the field set fits, with the reply's handle and first state (R14,
R15). -/
def attachAt (p : Point) (tag : Nat) (steps : State → State) (first : Nat) (s : State) : Answer :=
  match s.attachCheck p tag with
  | some status => .refused status
  | none => .ok (steps s) [byte s.cpt.freeHandle, byte first]

/-- ATTACH (R14, R15). -/
def actAttach (point : Byte) (tag : Half) (fields : FieldSet) (s : State) : Answer :=
  match pointOfCode point.toNat, implementOf fields, trailerOf fields with
  | some .hitch, some f, _ => attachAt .hitch tag.toNat (fun s => s.attachImplement tag.toNat f) 1 s
  | some .drawbar, _, some f =>
    attachAt .drawbar tag.toNat (fun s => s.attachDrawbar tag.toNat f) s.drawbarFirst.code s
  | some .towthru, _, some f => attachAt .towthru tag.toNat (fun s => s.attachTowthru tag.toNat f) 2 s
  | _, _, _ => .refused .range

/-! ## AMEND -/

/-- Whether a trailer record refuses an AMEND: LOST or RETIRING (R16). -/
def TrailerRecord.amendBusy (r : TrailerRecord) : Bool := r.isLost || r.isRetiring

/-- AMEND of the HITCH record: the clamped set becomes its staged copy (R16). -/
def amendImplement (r : ImplementRecord) (fields : FieldSet) (s : State) : Answer :=
  match implementOf fields with
  | none => .refused .range
  | some f =>
    .ok { s with cpt := { s.cpt with hitch := some { r with staged := some f } } } (byte r.handle :: f.bytes)

/-- AMEND of a trailer record, whose entry `put` writes (R16). -/
def amendTrailer (r : TrailerRecord) (fields : FieldSet) (put : TrailerRecord → State) : Answer :=
  match trailerOf fields with
  | none => .refused .range
  | some f =>
    if r.amendBusy then .refused .busy
    else .ok (put { r with staged := some f }) (byte r.handle :: f.bytes)

/-- AMEND (R16). -/
def actAmend (handle : Byte) (fields : FieldSet) (s : State) : Answer :=
  match s.cpt.pointOf handle.toNat with
  | none => .refused .notFound
  | some .hitch =>
    match s.cpt.hitch with
    | none => .refused .notFound
    | some r => amendImplement r fields s
  | some .drawbar =>
    match s.cpt.drawbar with
    | none => .refused .notFound
    | some r => amendTrailer r fields fun r' => { s with cpt := { s.cpt with drawbar := some r' } }
  | some .towthru =>
    match s.cpt.towthru with
    | none => .refused .notFound
    | some r => amendTrailer r fields fun r' => { s with cpt := { s.cpt with towthru := some r' } }

/-! ## RETIRE -/

/-- The reply of RETIRE and RESTORE: the handle and the state after the request (R183). -/
def stateReply (handle state : Nat) : List Byte := [byte handle, byte state]

/-- RETIRE of the HITCH record (R19). -/
def retireImplement (r : ImplementRecord) (s : State) : Answer :=
  .ok ((s.removeImplement r .retired).retiredHitch.limitsChanged) (stateReply r.handle removedCode)

/-- The state RETIRE leaves a trailer record that is not removed (R20). -/
def TrailerState.retired (st : TrailerState) : TrailerState :=
  match st with
  | .pending _ => .retiring .pending
  | .active => .retiring .active
  | .degraded => .retiring .degraded
  | .lost => .lost
  | .retiring b => .retiring b

/-- RETIRE of a trailer record: a LOST one is removed at once, any other on a quiet line, and
otherwise it is or stays RETIRING (R20). `put` writes its entry in the table. -/
def retireTrailer (r : TrailerRecord) (p : Point) (put : Option TrailerRecord → Coupling) (s : State) : Answer :=
  if r.isLost || s.quietLine then
    .ok (s.commit (put none) [r.removed p .retired]) (stateReply r.handle removedCode)
  else
    let r' := { r with state := r.state.retired }
    .ok (s.commit (put (some r')) []) (stateReply r.handle r'.state.code)

/-- RETIRE (R19, R20). -/
def actRetire (handle : Byte) (s : State) : Answer :=
  match s.cpt.pointOf handle.toNat with
  | none => .refused .notFound
  | some .hitch =>
    match s.cpt.hitch with
    | none => .refused .notFound
    | some r => retireImplement r s
  | some .drawbar =>
    match s.cpt.drawbar with
    | none => .refused .notFound
    | some r =>
      if s.cpt.towthru.isSome then .refused .dependent
      else retireTrailer r .drawbar (fun e => { s.cpt with drawbar := e }) s
  | some .towthru =>
    match s.cpt.towthru with
    | none => .refused .notFound
    | some r => retireTrailer r .towthru (fun e => { s.cpt with towthru := e }) s

/-! ## RESTORE -/

/-- The state a return state restores to; PENDING starts its timer again with 30 s to run (R22). -/
def ReturnState.restored (b : ReturnState) : TrailerState :=
  match b with
  | .pending => .pending 30000
  | .active => .active
  | .degraded => .degraded

/-- RESTORE of a trailer record (R22). -/
def restoreTrailer (r : TrailerRecord) (put : TrailerRecord → Coupling) (s : State) : Answer :=
  match r.state with
  | .retiring b =>
    let r' := { r with state := b.restored }
    .ok (s.commit (put r') []) (stateReply r.handle r'.state.code)
  | .pending _ => .refused .notFound
  | .active => .refused .notFound
  | .degraded => .refused .notFound
  | .lost => .refused .notFound

/-- RESTORE (R22). -/
def actRestore (handle : Byte) (s : State) : Answer :=
  match s.cpt.pointOf handle.toNat with
  | none => .refused .notFound
  | some .hitch => .refused .notFound
  | some .drawbar =>
    match s.cpt.drawbar with
    | none => .refused .notFound
    | some r => restoreTrailer r (fun r' => { s.cpt with drawbar := some r' }) s
  | some .towthru =>
    match s.cpt.towthru with
    | none => .refused .notFound
    | some r => restoreTrailer r (fun r' => { s.cpt with towthru := some r' }) s

/-! ## LOOKUP -/

/-- The point of the in-use record that carries a tag; tag 0 matches none (R24). -/
def Coupling.pointOfTag (c : Coupling) (t : Nat) : Option Point :=
  if t = 0 then none
  else if (match c.hitch with | none => false | some r => decide (r.tag = t)) then some .hitch
  else if (match c.drawbar with | none => false | some r => decide (r.tag = t)) then some .drawbar
  else if (match c.towthru with | none => false | some r => decide (r.tag = t)) then some .towthru
  else none

/-- The LOOKUP payload of the HITCH record (R24, R183). -/
def ImplementRecord.payload (r : ImplementRecord) : List Byte :=
  [byte r.handle, byte 1] ++ twoBytes r.tag ++
    [byte r.state.code, byte (bit r.staged.isSome + 2 * bit r.fields.draft.isSome), byte 0] ++ r.fields.bytes

/-- The return state byte of a LOOKUP reply: 0 outside RETIRING (R183). -/
def TrailerState.returnCode (st : TrailerState) : Nat :=
  match st with
  | .retiring b => b.code
  | .pending _ => 0
  | .active => 0
  | .degraded => 0
  | .lost => 0

/-- The LOOKUP payload of a trailer record (R24, R183). -/
def TrailerRecord.payload (r : TrailerRecord) (p : Point) : List Byte :=
  [byte r.handle, byte (pointCode p)] ++ twoBytes r.tag ++
    [byte r.state.code, byte (bit r.staged.isSome + 2 * bit r.fields.pas.isSome), byte r.state.returnCode] ++
    r.fields.bytes

/-- The LOOKUP payload of the record at a point, if one is in use. -/
def Coupling.payloadAt (c : Coupling) (p : Point) : Option (List Byte) :=
  match p with
  | .hitch => c.hitch.map ImplementRecord.payload
  | .drawbar => c.drawbar.map fun r => r.payload .drawbar
  | .towthru => c.towthru.map fun r => r.payload .towthru

/-- The point a selector and a key name: none outer for a selector or point outside the codes, none
inner where no in-use record matches (R24). -/
def Coupling.select (c : Coupling) (selector key : Nat) : Option (Option Point) :=
  match selector with
  | 1 => some (c.pointOf key)
  | 2 => (pointOfCode key).map some
  | 3 => some (c.pointOfTag key)
  | _ => none

/-- LOOKUP (R24). -/
def actLookup (selector : Byte) (key : Half) (s : State) : Answer :=
  match s.cpt.select selector.toNat key.toNat with
  | none => .refused .range
  | some none => .refused .notFound
  | some (some p) =>
    match s.cpt.payloadAt p with
    | none => .refused .notFound
    | some payload => .ok s payload

/-! ## The requests -/

/-- The payload length of a field set (R183). -/
def fieldSetLength (f : FieldSet) : Nat :=
  match f with
  | .implement _ _ _ _ _ _ _ none => 11
  | .implement _ _ _ _ _ _ _ (some _) => 15
  | .trailer _ _ _ none => 5
  | .trailer _ _ _ (some _) => 7

/-- ATTACH, code 10h. -/
def execAttach (extra : Nat) (point : Byte) (tag : Half) (fields : FieldSet) (s : State) :
    Host.Outcome State Fault Refusal :=
  request 0x10 (3 + fieldSetLength fields) extra (actAttach point tag fields) s

/-- AMEND, code 11h. -/
def execAmend (extra : Nat) (handle : Byte) (fields : FieldSet) (s : State) : Host.Outcome State Fault Refusal :=
  request 0x11 (1 + fieldSetLength fields) extra (actAmend handle fields) s

/-- RETIRE, code 12h. -/
def execRetire (extra : Nat) (handle : Byte) (s : State) : Host.Outcome State Fault Refusal :=
  request 0x12 1 extra (actRetire handle) s

/-- RESTORE, code 13h. -/
def execRestore (extra : Nat) (handle : Byte) (s : State) : Host.Outcome State Fault Refusal :=
  request 0x13 1 extra (actRestore handle) s

/-- LOOKUP, code 14h. -/
def execLookup (extra : Nat) (selector : Byte) (key : Half) (s : State) : Host.Outcome State Fault Refusal :=
  request 0x14 3 extra (actLookup selector key) s

end Sys2Proof.Machine
end

