-- ==== Sys2Proof/Machine/FrontRequests.lean ====
section
/-! DEFINITION. The requests of the Front Drive Controller, the Traction Estimator and the Fill
Supply Arbiter: SET_FRONT, SET_TRACTION, SET_SUPPLY (R45, R68, R131). -/

namespace Sys2Proof.Machine

/-- The front parameters as the SET_FRONT reply lays them out (R183). -/
def FrontParams.bytes (p : FrontParams) : List Byte :=
  twoBytes p.thOn ++ twoBytes p.thOff ++ [byte p.dwell] ++ twoBytes p.releaseSpeed ++ twoBytes p.releaseDelay ++
    twoBytes p.trailerThreshold

/-- SET_FRONT (R131). -/
def actSetFront (f : FrontWire) (s : State) : Answer :=
  match FrontMode.ofCode f.mode.toNat with
  | none => .refused .range
  | some m =>
    let t := State.evaluateFront { s with frd := { s.frd.setMode m with params := clampFront f } }
    .ok t ([byte m.code] ++ (clampFront f).bytes ++ [byte (bit t.frd.engage), byte (bit t.engaged)])

/-- SET_TRACTION: the three parameters in force, Vw with the new Kw, then the withdrawal check (R45). -/
def actSetTraction (kw vmin bth : Half) (s : State) : Answer :=
  let kw := clamp 1024 16383 kw.toNat
  let vmin := clamp 50 500 vmin.toNat
  let bth := clamp 50 500 bth.toNat
  let t := { s with tre := { s.tre with kw := kw, vmin := vmin, bth := bth, vw := wheelSpeed s.mfe.no.held kw } }
  .ok t.withdrawSlip (twoBytes kw ++ twoBytes vmin ++ twoBytes bth)

/-- SET_SUPPLY (R68). -/
def actSetSupply (pcMin : Byte) (s : State) : Answer :=
  let p := clamp 80 200 pcMin.toNat
  .ok { s with fsa := { s.fsa with pcMin := p } } [byte p]

/-- SET_FRONT, code 50h. -/
def execSetFront (extra : Nat) (front : FrontWire) (s : State) : Host.Outcome State Fault Refusal :=
  request 0x50 12 extra (actSetFront front) s

/-- SET_TRACTION, code 70h. -/
def execSetTraction (extra : Nat) (kw vmin bth : Half) (s : State) : Host.Outcome State Fault Refusal :=
  request 0x70 6 extra (actSetTraction kw vmin bth) s

/-- SET_SUPPLY, code 71h. -/
def execSetSupply (extra : Nat) (pcMin : Byte) (s : State) : Host.Outcome State Fault Refusal :=
  request 0x71 1 extra (actSetSupply pcMin) s

end Sys2Proof.Machine
end

