-- ==== Sys2Proof/Machine/HitchRequests.lean ====
section
/-! DEFINITION. The requests of the Hitch Controller: HITCH_HOLD, HITCH_WORK and the travel requests
(R149 to R152). -/

namespace Sys2Proof.Machine

/-- Whether the HITCH entry holds a record in ACTIVE (R150). -/
def Coupling.implementActive (c : Coupling) : Bool :=
  match c.hitch with
  | none => false
  | some r => r.state = .active

/-- The checks of HITCH_WORK and the travel requests, in their order (R150, R151); `needsRecord` for
those that need an ACTIVE implement. -/
def State.hitchCheck (s : State) (needsRecord : Bool) : Option Status :=
  if s.htc.mode = .locked then some .interlock
  else if needsRecord && !s.cpt.implementActive then some .noImplement
  else if !s.present .seat then some .interlock
  else if s.mfe.p.failed then some .fault
  else none

/-- HITCH_HOLD (R149). -/
def actHitchHold (s : State) : Answer :=
  let t := if s.htc.mode = .locked then s else { s with htc := s.htc.enter .hold }
  .ok t t.hitchReply

/-- HITCH_WORK (R150). -/
def actHitchWork (s : State) : Answer :=
  match s.hitchCheck true with
  | some status => .refused status
  | none =>
    let t := { s with htc := s.htc.enter .work }
    .ok t t.hitchReply

/-- The travel opening a request puts in force: 0 keeps the one in force (R151). -/
def newOpening (present carried : Nat) : Nat := if carried = 0 then present else clamp 10 100 carried

/-- A travel request that passed its checks: TRAVEL entered with its purpose, the timer from 10 s,
the target formed, both openings 0 (R151). -/
def State.beginTravel (s : State) (p : Purpose) (opening : Nat) : State :=
  let h := { s.htc with travelOpening := newOpening s.htc.travelOpening opening }
  { s with htc := h.enter (.travel p (s.travelTarget p 0) 10000) }

/-- A travel request (R151). -/
def travelRequest (p : Purpose) (needsRecord : Bool) (opening : Nat) (s : State) : Answer :=
  match s.hitchCheck needsRecord with
  | some status => .refused status
  | none =>
    let t := s.beginTravel p opening
    .ok t t.hitchReply

/-- HITCH_GOTO: the position is clamped and kept as the requested position (R151). -/
def actHitchGoto (position : Half) (opening : Byte) (s : State) : Answer :=
  travelRequest (.goto (clamp 0 1000 position.toNat)) false opening.toNat s

/-- HITCH_TRANSPORT (R151). -/
def actHitchTransport (opening : Byte) (s : State) : Answer := travelRequest .transport false opening.toNat s

/-- HITCH_RETURN (R151). -/
def actHitchReturn (opening : Byte) (s : State) : Answer := travelRequest .return true opening.toNat s

/-- HITCH_HOLD, code 60h. -/
def execHitchHold (extra : Nat) (s : State) : Host.Outcome State Fault Refusal := request 0x60 0 extra actHitchHold s

/-- HITCH_WORK, code 61h. -/
def execHitchWork (extra : Nat) (s : State) : Host.Outcome State Fault Refusal := request 0x61 0 extra actHitchWork s

/-- HITCH_GOTO, code 62h. -/
def execHitchGoto (extra : Nat) (position : Half) (opening : Byte) (s : State) : Host.Outcome State Fault Refusal :=
  request 0x62 3 extra (actHitchGoto position opening) s

/-- HITCH_TRANSPORT, code 63h. -/
def execHitchTransport (extra : Nat) (opening : Byte) (s : State) : Host.Outcome State Fault Refusal :=
  request 0x63 1 extra (actHitchTransport opening) s

/-- HITCH_RETURN, code 64h. -/
def execHitchReturn (extra : Nat) (opening : Byte) (s : State) : Host.Outcome State Fault Refusal :=
  request 0x64 1 extra (actHitchReturn opening) s

end Sys2Proof.Machine
end

