-- ==== Sys2Proof/Machine/LinkRequests.lean ====
section
/-! DEFINITION. The requests the Request Link and the Notice Set own: NOP, TAKE_NOTICE, STATUS, the
conditions, the enables, SOFT_RESET (R177, R180 to R182, R186, R187). -/

namespace Sys2Proof.Machine

/-- NOP changes no state (R177). -/
def actNop (s : State) : Answer := .ok s []

/-- TAKE_NOTICE (R186). -/
def actTakeNotice (s : State) : Answer :=
  match s.nts.take with
  | none => .refused .none
  | some (x, n) => .ok { s with nts := n } (x.payload n.notices.length)

/-- STATUS (R182). -/
def actStatus (s : State) : Answer := .ok s s.snapshot

/-- Whether a condition mask names nothing but ROAD and SHIFT_HOLD (R181). -/
def conditionMask (mask : Byte) : Bool := mask.toNat < 4

/-- ROAD set or cleared where its mask bit is set; a change is an event at the Hitch Controller
(R181). -/
def State.putRoad (s : State) (b : Bool) : State :=
  if s.rlk.road = b then s
  else
    let s := { s with rlk := { s.rlk with road := b } }
    if b then s.roadSet else s.roadCleared

/-- SHIFT_HOLD set or cleared; a change is an event at the Shift Engine (R88, R181). -/
def State.putShiftHold (s : State) (b : Bool) : State :=
  if s.rlk.shiftHold = b then s
  else
    let s := { s with rlk := { s.rlk with shiftHold := b } }
    if b then s else s.shiftHoldCleared

/-- The conditions a mask names put into a state (R181). -/
def State.putConditions (s : State) (mask : Byte) (b : Bool) : State :=
  let s := if mask.getLsbD 0 then s.putRoad b else s
  if mask.getLsbD 1 then s.putShiftHold b else s

/-- SET_CONDITION (R181). -/
def actSetCondition (mask : Byte) (s : State) : Answer :=
  if conditionMask mask then
    let t := s.putConditions mask true
    .ok t [byte t.rlk.conditions]
  else .refused .range

/-- CLEAR_CONDITION (R181). -/
def actClearCondition (mask : Byte) (s : State) : Answer :=
  if conditionMask mask then
    let t := s.putConditions mask false
    .ok t [byte t.rlk.conditions]
  else .refused .range

/-- The enable mask as a reply carries it: three bytes, most significant first (R187). -/
def enableBytes (e : BitVec 23) : List Byte :=
  [byte (e.toNat / 65536), byte (e.toNat / 256), byte e.toNat]

/-- ENABLE_NOTICE (R187). -/
def actEnableNotice (mask : Tri) (s : State) : Answer :=
  if mask.getLsbD 23 then .refused .range
  else
    let e := s.nts.enables ||| mask.setWidth 23
    .ok { s with nts := { s.nts with enables := e } } (enableBytes e)

/-- DISABLE_NOTICE (R187). -/
def actDisableNotice (mask : Tri) (s : State) : Answer :=
  if mask.getLsbD 23 then .refused .range
  else
    let e := s.nts.enables &&& ~~~(mask.setWidth 23)
    .ok { s with nts := { s.nts with enables := e } } (enableBytes e)

/-- SOFT_RESET: every block takes its soft-reset state, and the reply after it is OK (R180). -/
def actSoftReset (s : State) : Answer := .ok s.softReset []

/-- NOP, code 01h. -/
def execNop (extra : Nat) (s : State) : Host.Outcome State Fault Refusal := request 0x01 0 extra actNop s

/-- TAKE_NOTICE, code 02h. -/
def execTakeNotice (extra : Nat) (s : State) : Host.Outcome State Fault Refusal :=
  request 0x02 0 extra actTakeNotice s

/-- STATUS, code 03h. -/
def execStatus (extra : Nat) (s : State) : Host.Outcome State Fault Refusal := request 0x03 0 extra actStatus s

/-- SET_CONDITION, code 04h. -/
def execSetCondition (extra : Nat) (mask : Byte) (s : State) : Host.Outcome State Fault Refusal :=
  request 0x04 1 extra (actSetCondition mask) s

/-- CLEAR_CONDITION, code 05h. -/
def execClearCondition (extra : Nat) (mask : Byte) (s : State) : Host.Outcome State Fault Refusal :=
  request 0x05 1 extra (actClearCondition mask) s

/-- ENABLE_NOTICE, code 06h. -/
def execEnableNotice (extra : Nat) (mask : Tri) (s : State) : Host.Outcome State Fault Refusal :=
  request 0x06 3 extra (actEnableNotice mask) s

/-- DISABLE_NOTICE, code 07h. -/
def execDisableNotice (extra : Nat) (mask : Tri) (s : State) : Host.Outcome State Fault Refusal :=
  request 0x07 3 extra (actDisableNotice mask) s

/-- SOFT_RESET, code 08h. -/
def execSoftReset (extra : Nat) (s : State) : Host.Outcome State Fault Refusal :=
  request 0x08 0 extra actSoftReset s

end Sys2Proof.Machine
end

