-- ==== Sys2Proof/Machine/PackRequests.lean ====
section
/-! DEFINITION. The requests of the Pack Records block and the Calibration Unit: READ_PACK,
AMEND_PACK, CLEAR_FAULT, CALIBRATE (R57, R59, R62, R120, R122). -/

namespace Sys2Proof.Machine

/-- The READ_PACK payload (R59, R183). -/
def State.packPayload (s : State) (p : PackId) : List Byte :=
  let r := s.packs.get p
  [byte p.code] ++ r.active.bytes ++
    [byte r.atLimit, byte r.state.code, byte (s.packCommand p), byte r.cause.code, byte (bit r.staged.isSome)]

/-- READ_PACK (R59). -/
def actReadPack (pack : Byte) (s : State) : Answer :=
  match s.packNamed pack with
  | none => .refused .range
  | some p => .ok s (s.packPayload p)

/-- AMEND_PACK (R57). -/
def actAmendPack (pack pf : Byte) (tf tfMin tfMax : Half) (pl : Byte) (s : State) : Answer :=
  match s.packNamed pack, clampPack pf.toNat tf.toNat tfMin.toNat tfMax.toNat pl.toNat with
  | some p, some f =>
    .ok { s with packs := s.packs.update (fun r => { r with staged := some f }) p } (byte p.code :: f.bytes)
  | _, _ => .refused .range

/-- A pack's fault cleared: RELEASED with cause NONE (R62). -/
def PackRecord.clearFault (r : PackRecord) : PackRecord := { r with state := .released, cause := .none }

/-- CLEAR_FAULT (R62). -/
def actClearFault (pack : Byte) (s : State) : Answer :=
  match s.packNamed pack with
  | none => .refused .range
  | some p =>
    if (s.packs.get p).faulted then
      let t := State.reform { s with packs := s.packs.update PackRecord.clearFault p } fun e => e.uses [p]
      .ok t [byte p.code, byte PackState.released.code]
    else .refused .busy

/-- The gearbox pack a CALIBRATE names, with its partners; none for FDP and for an absent pack (R120,
R121). -/
def State.calNamed (s : State) (pack : Byte) : Option (PackId × PackId × PackId) :=
  match s.packNamed pack with
  | none => none
  | some p =>
    match p.partners with
    | none => none
    | some (a, b) => some (p, a, b)

/-- The checks of CALIBRATE that follow the first, in their order (R120). -/
def State.calCheck (s : State) (p a b : PackId) : Option Status :=
  if s.cau.job.isSome || s.she.state ≠ .settled || s.she.pr ≠ 0 then some .busy
  else if !s.calInterlock then some .interlock
  else if (s.packs.get p).faulted || (s.packs.get a).faulted || (s.packs.get b).faulted then some .fault
  else none

/-- CALIBRATE (R120, R122). -/
def actCalibrate (pack : Byte) (interval : Half) (s : State) : Answer :=
  match s.calNamed pack with
  | none => .refused .range
  | some (p, a, b) =>
    match s.calCheck p a b with
    | some status => .refused status
    | none =>
      let step := clamp 50 500 interval.toNat
      let t := s.startCal p a b step
      .ok t ([byte p.code, byte a.code, byte b.code] ++ twoBytes step ++ [byte t.cau.phaseCode])

/-- READ_PACK, code 30h. -/
def execReadPack (extra : Nat) (pack : Byte) (s : State) : Host.Outcome State Fault Refusal :=
  request 0x30 1 extra (actReadPack pack) s

/-- AMEND_PACK, code 31h. -/
def execAmendPack (extra : Nat) (pack pf : Byte) (tf tfMin tfMax : Half) (pl : Byte) (s : State) :
    Host.Outcome State Fault Refusal :=
  request 0x31 9 extra (actAmendPack pack pf tf tfMin tfMax pl) s

/-- CLEAR_FAULT, code 32h. -/
def execClearFault (extra : Nat) (pack : Byte) (s : State) : Host.Outcome State Fault Refusal :=
  request 0x32 1 extra (actClearFault pack) s

/-- CALIBRATE, code 33h. -/
def execCalibrate (extra : Nat) (pack : Byte) (interval : Half) (s : State) : Host.Outcome State Fault Refusal :=
  request 0x33 3 extra (actCalibrate pack interval) s

end Sys2Proof.Machine
end

