-- ==== Sys2Proof/Machine/RatioRequests.lean ====
section
/-! DEFINITION. The requests of the Ratio Map: DEFINE_RATIO, CLEAR_RATIO, READ_RATIO, WITHHOLD,
UNWITHHOLD (R48 to R54). -/

namespace Sys2Proof.Machine

/-- Whether an index is the present ratio, the target ratio or the destination of a shift in flight
(R49, R51). -/
def State.indexBusy (s : State) (index : Nat) : Bool :=
  index = s.she.pr || index = s.she.nr || (s.she.record.isSome && index = s.she.destination)

/-- A speed pack the gearbox has: SP5 and SP6 are absent under GEARSET 4 (R48, R49). -/
def State.speedFitted (s : State) (p : SpeedPack) : Bool := s.fitted p.pack

/-- Whether another entry names the same three packs (R49). -/
def RatioMap.duplicates (m : RatioMap) (e : RatioEntry) : Bool :=
  m.entries.any fun x => x.index ≠ e.index && x.direction = e.direction && x.speed = e.speed && x.range = e.range

/-- The ordering check against the neighbours of the same direction (R50). -/
def RatioMap.inOrder (m : RatioMap) (e : RatioEntry) : Bool :=
  let same := m.entries.filter fun x => x.direction = e.direction && x.index ≠ e.index
  let below := (same.filter fun x => x.index < e.index).getLast?
  let above := (same.filter fun x => e.index < x.index).head?
  (match below with | none => true | some x => decide (x.rn < e.rn)) &&
  (match above with | none => true | some x => decide (e.rn < x.rn))

/-- An entry written into the list, which stays in index order; an entry at its index is replaced
(R49). -/
def insertEntry (e : RatioEntry) (l : List RatioEntry) : List RatioEntry :=
  match l with
  | [] => [e]
  | x :: rest =>
    if e.index < x.index then e :: x :: rest
    else if e.index = x.index then e :: rest
    else x :: insertEntry e rest

/-- The five parts of an entry as DEFINE_RATIO's and READ_RATIO's replies carry them (R183). -/
def RatioEntry.bytes (e : RatioEntry) : List Byte :=
  [byte e.direction.code, byte e.speed.pack.code, byte e.range.pack.code] ++ twoBytes e.rn

/-- The checks of DEFINE_RATIO that follow the first, in their order (R49). -/
def State.defineCheck (s : State) (e : RatioEntry) : Option Status :=
  if !s.speedFitted e.speed then some .range
  else if s.indexBusy e.index then some .busy
  else if s.rmp.duplicates e then some .duplicate
  else if !s.rmp.inOrder e then some .order
  else none

/-- The entry written whole and its usability formed (R49, R54). -/
def State.defineEntry (s : State) (e : RatioEntry) : State :=
  { s with rmp := { s.rmp with
      entries := insertEntry { e with usable := formUsable s.rmp s.packs e } s.rmp.entries } }

/-- DEFINE_RATIO (R49). -/
def actDefineRatio (index direction speed range : Byte) (rn : Half) (s : State) : Answer :=
  let i := index.toNat
  let r := rn.toNat
  match Direction.ofCode direction.toNat, SpeedPack.ofCode speed.toNat, RangePack.ofCode range.toNat with
  | some d, some p, some g =>
    if 1 ≤ i && i ≤ 32 && 1 ≤ r && r ≤ 1500 then
      let e : RatioEntry := ⟨i, d, p, g, r, false⟩
      match s.defineCheck e with
      | some status => .refused status
      | none =>
        .ok (s.defineEntry e) ([byte i] ++ e.bytes ++ [byte (bit (formUsable s.rmp s.packs e))])
    else .refused .range
  | _, _, _ => .refused .range

/-- CLEAR_RATIO (R51). -/
def actClearRatio (index : Byte) (s : State) : Answer :=
  let i := index.toNat
  if 1 ≤ i && i ≤ 32 then
    match s.rmp.entry i with
    | none => .refused .notFound
    | some _ =>
      if s.indexBusy i then .refused .busy
      else
        .ok { s with rmp := { s.rmp with entries := s.rmp.entries.filter fun e => e.index ≠ i } } [byte i]
  else .refused .range

/-- The reasons an entry is unusable (R52, R183). -/
def State.reasons (s : State) (e : RatioEntry) : Nat :=
  2 * bit (s.rmp.isWithheld e.index) + 4 * bit (s.packs.get e.direction.pack).faulted +
    8 * bit (s.packs.get e.speed.pack).faulted + 16 * bit (s.packs.get e.range.pack).faulted

/-- The READ_RATIO payload of an index (R52, R183). For neutral the defined flag is clear and the
reasons are empty, which the spec does not state: DESIGN CHOICE, log 31. -/
def State.ratioPayload (s : State) (i : Nat) : List Byte :=
  if i = 0 then [byte 0, byte 4, byte 0, byte 0, byte 0] ++ twoBytes 0 ++ [byte 0]
  else
    match s.rmp.entry i with
    | none =>
      let w := bit (s.rmp.isWithheld i)
      [byte i, byte (2 * w), byte 0, byte 0, byte 0] ++ twoBytes 0 ++ [byte (1 + 2 * w)]
    | some e =>
      [byte i, byte (1 + 2 * bit (s.rmp.isWithheld i) + 4 * bit e.usable)] ++ e.bytes ++ [byte (s.reasons e)]

/-- READ_RATIO (R52). -/
def actReadRatio (index : Byte) (s : State) : Answer :=
  if index.toNat ≤ 32 then .ok s (s.ratioPayload index.toNat) else .refused .range

/-- The withhold mask changed: usability is formed again for every index whose bit changed (R53,
R54). -/
def State.setWithheld (s : State) (mask : Quad) : State :=
  State.reform { s with rmp := { s.rmp with withheld := mask } }
    fun e => s.rmp.isWithheld e.index ≠ mask.getLsbD (e.index - 1)

/-- WITHHOLD (R53). -/
def actWithhold (mask : Quad) (s : State) : Answer :=
  let m := s.rmp.withheld ||| mask
  .ok (s.setWithheld m) m.bytes

/-- UNWITHHOLD (R53). -/
def actUnwithhold (mask : Quad) (s : State) : Answer :=
  let m := s.rmp.withheld &&& ~~~mask
  .ok (s.setWithheld m) m.bytes

/-- DEFINE_RATIO, code 20h. -/
def execDefineRatio (extra : Nat) (index direction speed range : Byte) (rn : Half) (s : State) :
    Host.Outcome State Fault Refusal :=
  request 0x20 6 extra (actDefineRatio index direction speed range rn) s

/-- CLEAR_RATIO, code 21h. -/
def execClearRatio (extra : Nat) (index : Byte) (s : State) : Host.Outcome State Fault Refusal :=
  request 0x21 1 extra (actClearRatio index) s

/-- READ_RATIO, code 22h. -/
def execReadRatio (extra : Nat) (index : Byte) (s : State) : Host.Outcome State Fault Refusal :=
  request 0x22 1 extra (actReadRatio index) s

/-- WITHHOLD, code 23h. -/
def execWithhold (extra : Nat) (mask : Quad) (s : State) : Host.Outcome State Fault Refusal :=
  request 0x23 4 extra (actWithhold mask) s

/-- UNWITHHOLD, code 24h. -/
def execUnwithhold (extra : Nat) (mask : Quad) (s : State) : Host.Outcome State Fault Refusal :=
  request 0x24 4 extra (actUnwithhold mask) s

end Sys2Proof.Machine
end

