-- ==== Sys2Proof/Machine/ShiftRequests.lean ====
section
/-! DEFINITION. The requests of the Shift Engine: SELECT, STEP, HALT, SET_SHIFT_PROFILE (R83 to
R87). -/

namespace Sys2Proof.Machine

/-- Whether PARK is released and SEAT is present (R84, R86). -/
def State.driverReady (s : State) : Bool := !s.present .park && s.present .seat

/-- Whether a target's direction may be taken at the held ground speed (R84, check 4). -/
def State.speedAllows (s : State) (d : Direction) : Bool :=
  d = s.she.lastDir || s.mfe.vg.held ≤ s.she.profile.shuttle

/-- The checks of SELECT, in their order (R84); none where all pass. -/
def State.selectCheck (s : State) (index : Nat) : Option Status :=
  if index ≠ 0 && (32 < index || (s.rmp.entry index).isNone) then some .range
  else if s.she.state = .calHold then some .busy
  else if !s.driverReady then some .interlock
  else
    match s.rmp.entry index with
    | none => none
    | some e => if index = 0 || s.speedAllows e.direction then none else some .speed

/-- SELECT (R84, R85). -/
def actSelect (index : Byte) (s : State) : Answer :=
  match s.selectCheck index.toNat with
  | some status => .refused status
  | none =>
    let t := s.acceptTarget index.toNat
    .ok t t.engineReply

/-- The direction STEP counts in: that of PR, or the last direction while PR is 0 (R86). -/
def State.stepDirection (s : State) : Direction := if s.she.pr = 0 then s.she.lastDir else s.directionOf s.she.pr

/-- The checks of STEP, in their order (R86). -/
def State.stepCheck (s : State) (n : Int) : Option Status :=
  if n = 0 || n < -8 || 8 < n then some .range
  else if s.she.state = .calHold then some .busy
  else if !s.driverReady then some .interlock
  else if s.she.pr = 0 && 0 < n && (s.rmp.ofDirection s.she.lastDir).isEmpty then some .notFound
  else none

/-- The index at a place of a list of indices, its last where the list ends first; `start` where the
list is empty. -/
def placeFrom (start : Nat) (l : List Nat) (n : Nat) : Nat :=
  match l, n with
  | [], _ => start
  | x :: _, 0 => x
  | x :: rest, n + 1 => placeFrom x rest n

/-- The target STEP sets (R86): the entry `n` places up or down the list of the direction's defined
indices, or the one at the end of the list. -/
def State.stepTarget (s : State) (n : Int) : Nat :=
  let indices := (s.rmp.ofDirection s.stepDirection).map fun e => e.index
  if s.she.pr = 0 then
    if 0 < n then placeFrom 0 indices (n.toNat - 1) else 0
  else if 0 < n then placeFrom s.she.pr (indices.filter fun i => s.she.pr < i) (n.toNat - 1)
  else placeFrom s.she.pr (indices.filter fun i => i < s.she.pr).reverse ((-n).toNat - 1)

/-- STEP (R86): once NR is set, an accepted SELECT of it. -/
def actStep (count : Byte) (s : State) : Answer :=
  match s.stepCheck (signedByte count) with
  | some status => .refused status
  | none =>
    let t := s.acceptTarget (s.stepTarget (signedByte count))
    .ok t t.engineReply

/-- HALT (R87). -/
def actHalt (s : State) : Answer :=
  if s.she.state = .calHold then .refused .busy
  else if s.she.state.inFlight then
    let t := { s with she := { s.she with halt := true } }
    .ok t t.engineReply
  else
    let t := State.offerShift
      { s with she := { s.she with nr := s.she.pr, state := .settled, timer := none } } .halted 0 []
    .ok t t.engineReply

/-- SET_SHIFT_PROFILE (R83). -/
def actSetShiftProfile (p : ProfileWire) (s : State) : Answer :=
  .ok { s with she := { s.she with profile := clampProfile p } } (clampProfile p).bytes

/-- SELECT, code 40h. -/
def execSelect (extra : Nat) (index : Byte) (s : State) : Host.Outcome State Fault Refusal :=
  request 0x40 1 extra (actSelect index) s

/-- STEP, code 41h. -/
def execStep (extra : Nat) (count : Byte) (s : State) : Host.Outcome State Fault Refusal :=
  request 0x41 1 extra (actStep count) s

/-- HALT, code 42h. -/
def execHalt (extra : Nat) (s : State) : Host.Outcome State Fault Refusal := request 0x42 0 extra actHalt s

/-- SET_SHIFT_PROFILE, code 43h. -/
def execSetShiftProfile (extra : Nat) (profile : ProfileWire) (s : State) : Host.Outcome State Fault Refusal :=
  request 0x43 18 extra (actSetShiftProfile profile) s

end Sys2Proof.Machine
end

