-- ==== Sys2Proof/Machine/Timers.lean ====
section
/-! DEFINITION. The expiries of the part's timers and the arbiter's grant decision. An expiry of a
timer that is not running is no event (R10; log 3). -/

namespace Sys2Proof.Machine

/-! ## Coupling Table -/

/-- The pending timer of the HITCH record expires: the record is removed, which changes the limits
in force (R10, R144, R157). -/
def State.hitchTimeout (s : State) : State :=
  match s.cpt.hitch with
  | none => s
  | some r =>
    match r.state with
    | .active => s
    | .pending _ => (s.removeImplement r .timeout).limitsChanged

/-- The pending timer of the DRAWBAR record expires (R10). -/
def State.drawbarTimeout (s : State) : State :=
  match s.cpt.drawbar with
  | none => s
  | some r =>
    match r.state with
    | .pending _ => s.commit { s.cpt with drawbar := none } [r.removed .drawbar .timeout]
    | .active => s
    | .degraded => s
    | .lost => s
    | .retiring _ => s

/-- PENDING_TIMER_EXPIRY at a point; a TOWTHRU record never runs the timer (R10). -/
def State.pendingExpiry (p : Point) (s : State) : State :=
  match p with
  | .hitch => s.hitchTimeout
  | .drawbar => s.drawbarTimeout
  | .towthru => s

/-- PENDING_TIMER_EXPIRY. -/
def execPendingTimerExpiry (point : Point) (s : State) : Host.Outcome State Fault Refusal :=
  event (State.pendingExpiry point) s

/-! ## Shift Engine -/

/-- SEAT_TIMER_EXPIRY at a running seat timer: a forced-neutral trigger (R109). -/
def State.seatExpiry (s : State) : State :=
  match s.she.seatTimer with
  | none => s
  | some _ => State.forcedNeutral { s with she := { s.she with seatTimer := none } } .seat

/-- SEAT_TIMER_EXPIRY. -/
def execSeatTimerExpiry (s : State) : Host.Outcome State Fault Refusal := event State.seatExpiry s

/-- The engine's timer expires in a state in which it runs, with the shift record. -/
def State.phaseExpiry (s : State) (e : EngineState) (act : State → ShiftRecord → State) : State :=
  match s.she.timer, s.she.record with
  | some _, some r => if s.she.state = e then act s r else s
  | _, _ => s

/-- SUPPLY_WAIT_TIMER_EXPIRY (R98). -/
def execSupplyWaitTimerExpiry (s : State) : Host.Outcome State Fault Refusal :=
  event (fun s => s.phaseExpiry .supplyWait State.noSupply) s

/-- FILL_TIMER_EXPIRY (R100, R101). -/
def execFillTimerExpiry (s : State) : Host.Outcome State Fault Refusal :=
  event (fun s => s.phaseExpiry .fill State.startHandover) s

/-- HANDOVER_TIMER_EXPIRY (R102). -/
def execHandoverTimerExpiry (s : State) : Host.Outcome State Fault Refusal :=
  event (fun s => s.phaseExpiry .handover State.startConfirm) s

/-- The expiry of the confirm timer: a stall of an engagement from neutral, a failed confirmation of
any other shift (R104, R105). -/
def State.confirmExpired (s : State) (r : ShiftRecord) : State :=
  if r.kind.fromNeutral then s.stall r else s.failConfirm r

/-- CONFIRM_TIMER_EXPIRY (R104, R105). -/
def execConfirmTimerExpiry (s : State) : Host.Outcome State Fault Refusal :=
  event (fun s => s.phaseExpiry .confirm State.confirmExpired) s

/-- The interval timer expires (R107). -/
def State.intervalExpired (s : State) : State :=
  if s.she.pr = s.she.nr then
    State.offerShift { s with she := { s.she with state := .settled, timer := none } } .done 0 []
  else if s.rlk.shiftHold then { s with she := { s.she with state := .settled, timer := none } }
  else s.stepDecision

/-- INTERVAL_TIMER_EXPIRY at a running interval timer (R107). -/
def State.intervalExpiry (s : State) : State :=
  match s.she.timer with
  | none => s
  | some _ => if s.she.state = .interval then s.intervalExpired else s

/-- INTERVAL_TIMER_EXPIRY. -/
def execIntervalTimerExpiry (s : State) : Host.Outcome State Fault Refusal := event State.intervalExpiry s

/-! ## Fill Supply Arbiter -/

/-- FILL_SUPPLY_GRANT: the grant decision (R72; log 10). -/
def execFillSupplyGrant (s : State) : Host.Outcome State Fault Refusal := event State.grantDecision s

/-! ## Calibration Unit -/

/-- The fill timer of a partner. -/
def CalJob.fillTimer (j : CalJob) (p : Partner) : Option Nat :=
  match p with
  | .first => j.fill1
  | .second => j.fill2

/-- PARTNER_FILL_TIMER_EXPIRY at a running partner fill timer (R123). -/
def State.partnerExpiry (p : Partner) (s : State) : State :=
  match s.cau.job with
  | none => s
  | some j => if j.phase = .filling && (j.fillTimer p).isSome then s.partnerFilled j p else s

/-- PARTNER_FILL_TIMER_EXPIRY. -/
def execPartnerFillTimerExpiry (partner : Partner) (s : State) : Host.Outcome State Fault Refusal :=
  event (State.partnerExpiry partner) s

/-- SETTLE_TIMER_EXPIRY at a running settle timer (R124). -/
def State.settleExpiry (s : State) : State :=
  match s.cau.job with
  | none => s
  | some j => if j.phase = .settling && j.settle.isSome then s.startStepping j else s

/-- SETTLE_TIMER_EXPIRY. -/
def execSettleTimerExpiry (s : State) : Host.Outcome State Fault Refusal := event State.settleExpiry s

/-- STEP_TIMER_EXPIRY at a running step timer (R124). -/
def State.stepExpiry (s : State) : State :=
  match s.cau.job with
  | none => s
  | some j => if j.phase = .stepping && j.step.isSome then s.nextStep j else s

/-- STEP_TIMER_EXPIRY. -/
def execStepTimerExpiry (s : State) : Host.Outcome State Fault Refusal := event State.stepExpiry s

/-! ## Front Drive Controller -/

/-- RELEASE_DELAY_TIMER_EXPIRY at a running timer: it stops and the demand is evaluated (R133). -/
def State.releaseExpiry (s : State) : State :=
  match s.frd.releaseTimer with
  | none => s
  | some _ => State.evaluateFront { s with frd := { s.frd with releaseTimer := none } }

/-- RELEASE_DELAY_TIMER_EXPIRY. -/
def execReleaseDelayTimerExpiry (s : State) : Host.Outcome State Fault Refusal := event State.releaseExpiry s

/-- FDP locks at the end of its fill: HOLDING, the supply released, the engaged status changed (R137,
R140). -/
def State.fdpFilled (s : State) : State :=
  let s := s.orderPacks [.fdp] PackRecord.fillToLocked
  let s := { s with frd := { s.frd with phase := .holding, fillTimer := none } }
  (s.leaveFill [.fdp]).offerFront

/-- FDP_FILL_TIMER_EXPIRY at a running fill timer (R137). -/
def State.fdpExpiry (s : State) : State :=
  match s.frd.phase, s.frd.fillTimer with
  | .filling, some _ => s.fdpFilled
  | _, _ => s

/-- FDP_FILL_TIMER_EXPIRY. -/
def execFdpFillTimerExpiry (s : State) : Host.Outcome State Fault Refusal := event State.fdpExpiry s

/-! ## Hitch Controller -/

/-- TRAVEL_TIMER_EXPIRY in TRAVEL: HOLD with STALLED (R153). -/
def State.travelExpiry (s : State) : State :=
  match s.htc.mode with
  | .travel _ _ _ => s.holdWith .stalled
  | .hold => s
  | .work => s
  | .manual _ => s
  | .locked => s

/-- TRAVEL_TIMER_EXPIRY. -/
def execTravelTimerExpiry (s : State) : Host.Outcome State Fault Refusal := event State.travelExpiry s

/-! ## Request Link -/

/-- START_UP_WINDOW_CLOSE: transactions begun from now on are judged in the ordinary way, and the
NOT_READY reply is still pending (R179). -/
def State.closeWindow (s : State) : State := { s with rlk := { s.rlk with window := none } }

/-- START_UP_WINDOW_CLOSE. -/
def execStartUpWindowClose (s : State) : Host.Outcome State Fault Refusal := event State.closeWindow s

end Sys2Proof.Machine
end

