-- ==== Sys2Proof/Machine/Resets.lean ====
section
/-! DEFINITION. The resets, and the transactions that are no single request: a rejected frame, a
window transaction, a transaction with no byte (R174, R175, R178, R179). -/

namespace Sys2Proof.Machine

/-- POWER_ON_RESET, with the strap levels latched (R178). -/
def execPowerOnReset (gearset : GearSet) (fdkind : FdKind) (s : State) : Host.Outcome State Fault Refusal :=
  .next (s.fullReset ⟨gearset, fdkind⟩)

/-- RST_HELD_LOW (R178). -/
def execRstHeldLow (s : State) : Host.Outcome State Fault Refusal := .next s.holdReset

/-- HARD_RESET at the rising edge of RST after a valid low pulse, with the strap levels latched
(R178). -/
def execHardReset (gearset : GearSet) (fdkind : FdKind) (s : State) : Host.Outcome State Fault Refusal :=
  .next (s.fullReset ⟨gearset, fdkind⟩)

/-- WINDOW_TRANSACTION: a transaction begun while the start-up window runs (R179). It is not received
while the part is held in reset (R178). -/
def execWindowTransaction (clocked : Nat) (s : State) : Host.Outcome State Fault Refusal :=
  .next (if s.heldInReset then s else s.windowShift clocked)

/-- NO_BYTE_TRANSACTION: not a request; the pending reply stays in place (R174). -/
def execNoByteTransaction (s : State) : Host.Outcome State Fault Refusal := .next s

/-- What the owning block answers to a request; none for a command that is no request (R177). -/
def requestAct (i : Instr) : Option (State → Answer) :=
  match i with
  | .nop _ => some actNop
  | .takeNotice _ => some actTakeNotice
  | .status _ => some actStatus
  | .setCondition _ mask => some (actSetCondition mask)
  | .clearCondition _ mask => some (actClearCondition mask)
  | .enableNotice _ mask => some (actEnableNotice mask)
  | .disableNotice _ mask => some (actDisableNotice mask)
  | .softReset _ => some actSoftReset
  | .attach _ point tag fields => some (actAttach point tag fields)
  | .amend _ handle fields => some (actAmend handle fields)
  | .retire _ handle => some (actRetire handle)
  | .restore _ handle => some (actRestore handle)
  | .lookup _ selector key => some (actLookup selector key)
  | .defineRatio _ index direction speed range rn => some (actDefineRatio index direction speed range rn)
  | .clearRatio _ index => some (actClearRatio index)
  | .readRatio _ index => some (actReadRatio index)
  | .withhold _ mask => some (actWithhold mask)
  | .unwithhold _ mask => some (actUnwithhold mask)
  | .readPack _ pack => some (actReadPack pack)
  | .amendPack _ pack pf tf tfMin tfMax pl => some (actAmendPack pack pf tf tfMin tfMax pl)
  | .clearFault _ pack => some (actClearFault pack)
  | .calibrate _ pack interval => some (actCalibrate pack interval)
  | .select _ index => some (actSelect index)
  | .step _ count => some (actStep count)
  | .halt _ => some actHalt
  | .setShiftProfile _ profile => some (actSetShiftProfile profile)
  | .setFront _ front => some (actSetFront front)
  | .hitchHold _ => some actHitchHold
  | .hitchWork _ => some actHitchWork
  | .hitchGoto _ position opening => some (actHitchGoto position opening)
  | .hitchTransport _ opening => some (actHitchTransport opening)
  | .hitchReturn _ opening => some (actHitchReturn opening)
  | .setTraction _ kw vmin bth => some (actSetTraction kw vmin bth)
  | .setSupply _ pcMin => some (actSetSupply pcMin)
  | .frameRejected _ => none
  | .windowTransaction _ => none
  | .startUpWindowClose => none
  | .powerOnReset _ _ => none
  | .rstHeldLow => none
  | .hardReset _ _ => none
  | .speedPairArrival _ _ => none
  | .groundSpeedArrival _ => none
  | .hitchSetArrival _ _ _ => none
  | .pedalSetArrival _ _ => none
  | .chargeArrival _ => none
  | .lineArrival _ => none
  | .rawInputChange _ _ => none
  | .debounceTimerExpiry _ => none
  | .pendingTimerExpiry _ => none
  | .seatTimerExpiry => none
  | .supplyWaitTimerExpiry => none
  | .fillTimerExpiry => none
  | .handoverTimerExpiry => none
  | .confirmTimerExpiry => none
  | .intervalTimerExpiry => none
  | .fillSupplyGrant => none
  | .partnerFillTimerExpiry _ => none
  | .settleTimerExpiry => none
  | .stepTimerExpiry => none
  | .releaseDelayTimerExpiry => none
  | .fdpFillTimerExpiry => none
  | .travelTimerExpiry => none
  | .retireWatch => none
  | .noByteTransaction => none

/-- The judgement of the bytes received and the reply formed, with the first byte echoed (R175,
R177). Bytes that pass every check are handed to the owning block, as R175 has it; a rejected frame's
bytes never do (log 12). -/
def takeFrame (code : Byte) (bytes : List Byte) (s : State) : State × Reply :=
  let s := { s with rlk := { s.rlk with receiver := bytes } }
  let verdict := judge s.rlk.receiver
  let s := { s with rlk := { s.rlk with receiver := [] } }
  match verdict with
  | .badFrame => (s, ⟨code, .badFrame, []⟩)
  | .unknown => (s, ⟨code, .unknown, []⟩)
  | .accepted i =>
    match requestAct i with
    | none => (s, ⟨code, .badFrame, []⟩)
    | some act => (act s).reply code s

/-- FRAME_REJECTED: the bytes of a transaction judged by R175. With no byte there is no request
(R174). -/
def execFrameRejected (bytes : List Byte) (s : State) : Host.Outcome State Fault Refusal :=
  match bytes with
  | [] => .next s
  | code :: _ => transaction bytes.length (takeFrame code bytes) s

end Sys2Proof.Machine
end

