-- ==== Sys2Proof/Machine/Dispatch.lean ====
section
/-! DEFINITION. The command dispatch: one arm per row of the table of operations and events. -/

namespace Sys2Proof.Machine

/-- The effect of a command on everything but the queue. -/
def exec (i : Instr) (s : State) : Host.Outcome State Fault Refusal :=
  match i with
  -- requests of the link and the Notice Set
  | .nop extra => Sys2Proof.Machine.execNop extra s
  | .takeNotice extra => Sys2Proof.Machine.execTakeNotice extra s
  | .status extra => Sys2Proof.Machine.execStatus extra s
  | .setCondition extra mask => Sys2Proof.Machine.execSetCondition extra mask s
  | .clearCondition extra mask => Sys2Proof.Machine.execClearCondition extra mask s
  | .enableNotice extra mask => Sys2Proof.Machine.execEnableNotice extra mask s
  | .disableNotice extra mask => Sys2Proof.Machine.execDisableNotice extra mask s
  | .softReset extra => Sys2Proof.Machine.execSoftReset extra s
  -- requests of the Coupling Table
  | .attach extra point tag fields => Sys2Proof.Machine.execAttach extra point tag fields s
  | .amend extra handle fields => Sys2Proof.Machine.execAmend extra handle fields s
  | .retire extra handle => Sys2Proof.Machine.execRetire extra handle s
  | .restore extra handle => Sys2Proof.Machine.execRestore extra handle s
  | .lookup extra selector key => Sys2Proof.Machine.execLookup extra selector key s
  -- requests of the Ratio Map
  | .defineRatio extra index direction speed range rn => Sys2Proof.Machine.execDefineRatio extra index direction speed range rn s
  | .clearRatio extra index => Sys2Proof.Machine.execClearRatio extra index s
  | .readRatio extra index => Sys2Proof.Machine.execReadRatio extra index s
  | .withhold extra mask => Sys2Proof.Machine.execWithhold extra mask s
  | .unwithhold extra mask => Sys2Proof.Machine.execUnwithhold extra mask s
  -- requests of the Pack Records and the Calibration Unit
  | .readPack extra pack => Sys2Proof.Machine.execReadPack extra pack s
  | .amendPack extra pack pf tf tfMin tfMax pl => Sys2Proof.Machine.execAmendPack extra pack pf tf tfMin tfMax pl s
  | .clearFault extra pack => Sys2Proof.Machine.execClearFault extra pack s
  | .calibrate extra pack interval => Sys2Proof.Machine.execCalibrate extra pack interval s
  -- requests of the Shift Engine
  | .select extra index => Sys2Proof.Machine.execSelect extra index s
  | .step extra count => Sys2Proof.Machine.execStep extra count s
  | .halt extra => Sys2Proof.Machine.execHalt extra s
  | .setShiftProfile extra profile => Sys2Proof.Machine.execSetShiftProfile extra profile s
  -- requests of the Front Drive Controller and the Hitch Controller
  | .setFront extra front => Sys2Proof.Machine.execSetFront extra front s
  | .hitchHold extra => Sys2Proof.Machine.execHitchHold extra s
  | .hitchWork extra => Sys2Proof.Machine.execHitchWork extra s
  | .hitchGoto extra position opening => Sys2Proof.Machine.execHitchGoto extra position opening s
  | .hitchTransport extra opening => Sys2Proof.Machine.execHitchTransport extra opening s
  | .hitchReturn extra opening => Sys2Proof.Machine.execHitchReturn extra opening s
  -- requests of the Traction Estimator and the Fill Supply Arbiter
  | .setTraction extra kw vmin bth => Sys2Proof.Machine.execSetTraction extra kw vmin bth s
  | .setSupply extra pcMin => Sys2Proof.Machine.execSetSupply extra pcMin s
  -- the other transactions and the resets
  | .frameRejected bytes => Sys2Proof.Machine.execFrameRejected bytes s
  | .windowTransaction clocked => Sys2Proof.Machine.execWindowTransaction clocked s
  | .startUpWindowClose => Sys2Proof.Machine.execStartUpWindowClose s
  | .powerOnReset gearset fdkind => Sys2Proof.Machine.execPowerOnReset gearset fdkind s
  | .rstHeldLow => Sys2Proof.Machine.execRstHeldLow s
  | .hardReset gearset fdkind => Sys2Proof.Machine.execHardReset gearset fdkind s
  -- the arrivals
  | .speedPairArrival ne no => Sys2Proof.Machine.execSpeedPairArrival ne no s
  | .groundSpeedArrival vg => Sys2Proof.Machine.execGroundSpeedArrival vg s
  | .hitchSetArrival p dl dr => Sys2Proof.Machine.execHitchSetArrival p dl dr s
  | .pedalSetArrival bl br => Sys2Proof.Machine.execPedalSetArrival bl br s
  | .chargeArrival pc => Sys2Proof.Machine.execChargeArrival pc s
  | .lineArrival pt => Sys2Proof.Machine.execLineArrival pt s
  -- the discrete inputs
  | .rawInputChange input present => Sys2Proof.Machine.execRawInputChange input present s
  | .debounceTimerExpiry input => Sys2Proof.Machine.execDebounceTimerExpiry input s
  -- the timers and the arbiter's own steps
  | .pendingTimerExpiry point => Sys2Proof.Machine.execPendingTimerExpiry point s
  | .seatTimerExpiry => Sys2Proof.Machine.execSeatTimerExpiry s
  | .supplyWaitTimerExpiry => Sys2Proof.Machine.execSupplyWaitTimerExpiry s
  | .fillTimerExpiry => Sys2Proof.Machine.execFillTimerExpiry s
  | .handoverTimerExpiry => Sys2Proof.Machine.execHandoverTimerExpiry s
  | .confirmTimerExpiry => Sys2Proof.Machine.execConfirmTimerExpiry s
  | .intervalTimerExpiry => Sys2Proof.Machine.execIntervalTimerExpiry s
  | .fillSupplyGrant => Sys2Proof.Machine.execFillSupplyGrant s
  | .partnerFillTimerExpiry partner => Sys2Proof.Machine.execPartnerFillTimerExpiry partner s
  | .settleTimerExpiry => Sys2Proof.Machine.execSettleTimerExpiry s
  | .stepTimerExpiry => Sys2Proof.Machine.execStepTimerExpiry s
  | .releaseDelayTimerExpiry => Sys2Proof.Machine.execReleaseDelayTimerExpiry s
  | .fdpFillTimerExpiry => Sys2Proof.Machine.execFdpFillTimerExpiry s
  | .travelTimerExpiry => Sys2Proof.Machine.execTravelTimerExpiry s
  | .retireWatch => Sys2Proof.Machine.execRetireWatch s
  | .noByteTransaction => Sys2Proof.Machine.execNoByteTransaction s

end Sys2Proof.Machine
end

