-- ==== Sys2Proof/Machine/Idle.lean ====
section
/-! DEFINITION. What the part does while no command waits (log 2). -/

namespace Sys2Proof.Machine

/-- What the part does with no command waiting: the timer that is due expires, or one millisecond
passes; nothing while it is held in reset (R178). DESIGN CHOICE, log 2. -/
def idle (s : State) : Host.Outcome State Fault Refusal :=
  if s.heldInReset then .next s
  else
    match s.firstDue with
    | some i => exec i s
    | none => .next s.tick

end Sys2Proof.Machine
end

