-- ==== Sys2Proof/Safety.lean ====
section
/-! DEFINITION. The vocabulary of the statements: when the part hears the link, the shape of an
answered transaction, what every reset leaves, and the laws the manual says the state keeps. -/

namespace Sys2Proof.Machine

/-! ## Transactions -/

/-- Requests are taken: the part is not held in reset and no start-up window runs (R178, R179). -/
def State.listens (s : State) : Prop := s.heldInReset = false ∧ s.rlk.window = none

/-- The bytes the part shifts out while `clocked` bytes are clocked: the pending reply's frame, then
00h (R174). -/
def Link.shifts (l : Link) (clocked : Nat) : List Byte :=
  match l.pending with
  | none => List.replicate clocked 0#8
  | some r => r.frame.take clocked ++ List.replicate (clocked - r.frame.length) 0#8

/-- The fate the rising edge settles: delivered if every byte of the pending frame was clocked out,
lost if fewer were; none where no reply was pending (R174). -/
def Link.settles (l : Link) (clocked : Nat) : Option ReplyFate :=
  match l.pending with
  | none => none
  | some r => if clocked < r.frame.length then some .lost else some .delivered

/-- A state whose link has ended a transaction of `clocked` bytes with a new pending reply: nothing
else of it moves. -/
def State.answered (s : State) (clocked : Nat) (r : Reply) : State :=
  { s with rlk := { s.rlk with
      pending := some r, shiftedOut := s.rlk.shifts clocked, lastFate := s.rlk.settles clocked } }

/-- A state at the rising edge of chip select, the fate of the reply that was pending settled (R174). -/
def State.settled (s : State) (clocked : Nat) : State :=
  { s with rlk := { s.rlk with
      pending := none, shiftedOut := s.rlk.shifts clocked, lastFate := s.rlk.settles clocked } }

/-- A state with a reply put in the pending-reply buffer (R174). -/
def State.pend (s : State) (r : Reply) : State := { s with rlk := { s.rlk with pending := some r } }

/-- `t` is `u` with the notices that the event appended, all but the first `n`, in some order: where
two are appended, either may stand before the other (R185). The draw counter is the model's own
(log 8). -/
def State.sameButOrder (n : Nat) (u t : State) : Prop :=
  ∃ fresh k, fresh.Perm (u.nts.notices.drop n) ∧
    t = { u with nts := { u.nts with notices := u.nts.notices.take n ++ fresh }, draws := k }

/-- The reply to the bytes of a transaction that fails a check of R175, by the first check that fails;
none where all pass. -/
def frameFault (bytes : List Byte) : Option Status :=
  let n := (bytes.getD 1 0#8).toNat
  if bytes.length < 2 ∨ 30 < n then some .badFrame
  else if bytes.length < n + 3 then some .badFrame
  else if bytes.getD (n + 2) 0#8 ≠ crc8 (bytes.take (n + 2)) then some .badFrame
  else
    match allowedLengths (bytes.getD 0 0#8).toNat with
    | none => some .unknown
    | some lengths => if n ∈ lengths then none else some .badFrame

/-! ## Samples -/

/-- A channel after a sample: what R30 and R31 say of its held value, its state and its run. -/
def Chan.follows (hi : Nat) (x : Sample) (c c' : Chan) : Prop :=
  if x.valid then c'.state = .ok ∧ c'.run = 0 ∧ (c'.held : Int) = max 0 (min (hi : Int) x.value)
  else
    c'.held = c.held ∧
      match c.state with
      | .ok => c'.state = .stale ∧ c'.run = 1
      | .stale => if c.run ≤ 3 then c'.state = .stale ∧ c'.run = c.run + 1 else c'.state = .failed ∧ c'.run = 5
      | .failed => c'.state = .failed ∧ c'.run = c.run

/-! ## Held in reset -/

/-- A command that comes to nothing while RST is held low: every one but a change of a pin's level and
the resets themselves (R178). -/
def heldIgnores (c : Instr) : Bool :=
  match c with
  | .rawInputChange _ _ => false
  | .powerOnReset _ _ => false
  | .hardReset _ _ => false
  | .rstHeldLow => false
  | _ => true

/-! ## Reset -/

/-- A channel that has taken no sample since a reset (R33). -/
def Chan.isUnsampled (c : Chan) : Prop := c.held = 0 ∧ c.state = .stale ∧ c.run = 0

/-- The ten channels after every reset kind (R33). -/
def FrontEnd.channelsReset (m : FrontEnd) : Prop :=
  m.ne.isUnsampled ∧ m.no.isUnsampled ∧ m.vg.isUnsampled ∧ m.p.isUnsampled ∧ m.dl.isUnsampled ∧
    m.dr.isUnsampled ∧ m.bl.isUnsampled ∧ m.br.isUnsampled ∧ m.pc.isUnsampled ∧ m.pt.isUnsampled

/-- The Traction Estimator after every reset kind (R46). -/
def Traction.isReset (t : Traction) : Prop :=
  t.kw = 8192 ∧ t.vmin = 100 ∧ t.bth = 200 ∧ t.vw = 0 ∧ t.rm = none ∧ t.slip = 0 ∧ t.slipValid = false ∧
    t.braking = false ∧ t.bt = 0 ∧ t.pedalLoss = false ∧ t.loadIndex = 0

/-- The Coupling Table after every reset kind (R28). -/
def Coupling.isReset (c : Coupling) : Prop :=
  c.hitch = none ∧ c.drawbar = none ∧ c.towthru = none ∧ c.counter = 1 ∧ c.weighted = [] ∧ c.mtow = 0

/-- The Fill Supply Arbiter after every reset kind (R69, R76). -/
def Supply.isReset (f : Supply) : Prop :=
  f.charge = .ok ∧ f.pcMin = 120 ∧ f.holder = none ∧ f.fillList = [] ∧ f.waiting = ⟨false, false, false⟩

/-- The shift profile at its defaults (R83). -/
def Profile.isDefault (p : Profile) : Prop :=
  p.span = 1 ∧ p.interval = 300 ∧ p.tbase = 800 ∧ p.tmin = 300 ∧ p.tstart = 1200 ∧ p.tc = 400 ∧
    p.tcStart = 2000 ∧ p.shuttle = 1000 ∧ p.rstart = 300 ∧ p.window = 60

/-- The Shift Engine after every reset kind (R113). -/
def Engine.isReset (e : Engine) : Prop :=
  e.pr = 0 ∧ e.nr = 0 ∧ e.state = .settled ∧ e.lastDir = .fwd ∧ e.record = none ∧ e.halt = false ∧
    e.downshift = false ∧ e.latchSignal = false ∧ e.timer = none ∧ e.seatTimer = none ∧ e.profile.isDefault

/-- The Calibration Unit after every reset kind: IDLE, with no pack, no partners and every timer
stopped, and the step count 0 (R129). -/
def CalUnit.isReset (c : CalUnit) : Prop := c.job = none ∧ c.stepCount = 0

/-- The Front Drive Controller after every reset kind (R142). -/
def FrontDrive.isReset (f : FrontDrive) : Prop :=
  f.mode = .auto ∧ f.params = ⟨150, 80, 25, 1500, 1000, 100⟩ ∧ f.latch = false ∧ f.onRun = 0 ∧ f.offRun = 0 ∧
    f.brakingRecord = false ∧ f.releaseTimer = none ∧ f.fillTimer = none ∧ f.engage = false ∧ f.phase = .rest

/-- The Hitch Controller after every reset kind (R162). -/
def Hitch.isReset (h : Hitch) : Prop :=
  h.mode = .hold ∧ h.raise = 0 ∧ h.lower = 0 ∧ h.travelOpening = 60 ∧ h.formed = ⟨0, true⟩ ∧ h.latch = none ∧
    h.draftLoss = false

/-- The Trailer Brake Controller after every reset kind (R173). -/
def TrailerBrake.isReset (b : TrailerBrake) : Prop :=
  b.demand = 0 ∧ b.case = .empty ∧ b.faultRun = 0 ∧ b.faultEpisode = false

/-- The Notice Set after every reset kind: the eleven source bits set, the twelve input-edge bits
clear (R188). -/
def NoticeSet.isReset (n : NoticeSet) : Prop :=
  n.notices = [] ∧ n.attnLow = false ∧ ∀ k, k < 23 → n.enables.getLsbD k = decide (k < 11)

/-- What every reset kind leaves, soft reset included. -/
def State.afterAnyReset (t : State) : Prop :=
  t.mfe.channelsReset ∧ t.tre.isReset ∧ t.cpt.isReset ∧ t.fsa.isReset ∧ t.she.isReset ∧ t.cau.isReset ∧
    t.frd.isReset ∧ t.htc.isReset ∧ t.tbc.isReset ∧ t.rlk.road = false ∧ t.rlk.shiftHold = false ∧ t.nts.isReset

/-- A gearbox pack's record at its defaults: RELEASED, no staged copy (R56, R63). -/
def PackRecord.isGearboxDefault (p : PackRecord) : Prop :=
  p.active = ⟨30, 120, 40, 300, 180⟩ ∧ p.atLimit = 0 ∧ p.cause = .none ∧ p.state = .released ∧ p.staged = none

/-- FDP's record at its defaults (R56, R63). -/
def PackRecord.isFdpDefault (p : PackRecord) : Prop :=
  p.active = ⟨30, 150, 40, 300, 160⟩ ∧ p.atLimit = 0 ∧ p.cause = .none ∧ p.state = .released ∧ p.staged = none

/-- A discrete input when a power-on or hard reset ends: absent; a raw level that is present starts
its debounce timer (R36). -/
def Contact.isStarted (raw : Bool) (c : Contact) : Prop :=
  c.raw = raw ∧ c.level = false ∧ c.candidate = (if raw then some ⟨true, 20⟩ else none)

/-! ## Connector detect -/

/-- The trailer record at a coupling point. -/
def Coupling.trailer (c : Coupling) (p : Point) : Option TrailerRecord :=
  match p with
  | .hitch => none
  | .drawbar => c.drawbar
  | .towthru => c.towthru

/-- The table with the trailer entry of a point put in place or freed. -/
def Coupling.withTrailer (c : Coupling) (p : Point) (e : Option TrailerRecord) : Coupling :=
  match p with
  | .hitch => c
  | .drawbar => { c with drawbar := e }
  | .towthru => { c with towthru := e }

/-- The handle `k` places forward from another; 255 is followed by 1 (R4). -/
def handleForward (k h : Nat) : Nat := (h + k - 1) % 255 + 1

/-- A record state with its timer and its return state left out, for the tables of R9, R11 and R13. -/
inductive Stage where
  | pending | active | degraded | lost | retiring (back : ReturnState)
deriving DecidableEq, Repr

/-- The stage of a trailer record. -/
def TrailerRecord.stage (r : TrailerRecord) : Stage :=
  match r.state with
  | .pending _ => .pending
  | .active => .active
  | .degraded => .degraded
  | .lost => .lost
  | .retiring back => .retiring back

/-- The record state code of a stage, 0 for a record removed (R183). -/
def stageCode (s : Option Stage) : Nat :=
  match s with
  | none => 0
  | some .pending => 1
  | some .active => 2
  | some .degraded => 3
  | some .lost => 4
  | some (.retiring _) => 5

/-- The DRAWBAR record's stage after a connector-detect edge, and the notice it raises; none for a
record removed. The contacts are those after the edge (R9, R11, R13). -/
def drawbarTable (stage : Stage) (deta detb : Bool) : Option Stage × Option CplOutcome :=
  match stage, deta, detb with
  | .pending, true, true => (some .active, some .accepted)
  | .pending, _, _ => (some .pending, none)
  | .active, true, true => (some .active, none)
  | .active, false, false => (some .lost, some .lost)
  | .active, _, _ => (some .degraded, some .degraded)
  | .degraded, true, true => (some .active, some .reconnected)
  | .degraded, false, false => (some .lost, some .lost)
  | .degraded, _, _ => (some .degraded, none)
  | .lost, _, _ => (some .lost, none)
  | .retiring _, false, false => (none, some .retired)
  | .retiring _, true, true => (some (.retiring .active), none)
  | .retiring .pending, _, _ => (some (.retiring .pending), none)
  | .retiring .active, _, _ => (some (.retiring .degraded), none)
  | .retiring .degraded, _, _ => (some (.retiring .degraded), none)

/-- The TOWTHRU record's stage after the same edge, given whether the DRAWBAR record entered LOST at it
(R12, R13). -/
def towthruTable (stage : Stage) (leadLost deta detb : Bool) : Option Stage × Option CplOutcome :=
  match stage, leadLost, deta, detb with
  | .active, true, _, _ => (some .lost, some .lost)
  | .retiring _, _, false, false => (none, some .retired)
  | other, _, _, _ => (some other, none)

/-- The handles and tags of the in-use records. -/
def Coupling.labels (c : Coupling) : List (Nat × Nat) :=
  (match c.hitch with | none => [] | some r => [(r.handle, r.tag)]) ++
    (match c.drawbar with | none => [] | some r => [(r.handle, r.tag)]) ++
      (match c.towthru with | none => [] | some r => [(r.handle, r.tag)])

/-! ## Laws -/

/-- At most one notice per source, and ATTN asserted exactly when the set is non-empty (R185). -/
def NoticeSet.law (n : NoticeSet) : Prop :=
  (n.notices.map fun x => x.report.source).Nodup ∧ n.attnLow = !n.notices.isEmpty

/-- The implement fields in their ranges (R6). -/
def ImplementFields.inRange (f : ImplementFields) : Prop :=
  100 ≤ f.pmax ∧ f.pmax ≤ 1000 ∧ f.pmin + 100 ≤ f.pmax ∧ f.pmin ≤ f.ps ∧ f.ps ≤ f.pmax ∧ f.db ≤ 50 ∧
    1 ≤ f.kq ∧ f.kq ≤ 255 ∧ 10 ≤ f.drop ∧ f.drop ≤ 100 ∧ f.sl ≤ 1000

/-- The trailer fields in their ranges (R7). -/
def TrailerFields.inRange (f : TrailerFields) : Prop :=
  10 ≤ f.m ∧ f.m ≤ 400 ∧ f.gt ≤ 255 ∧ f.pld ≤ 300 ∧ f.pas.getD 0 ≤ 400

/-- The hitch entry's fields, active and staged, in their ranges. -/
def Coupling.hitchInRange (c : Coupling) : Prop :=
  ∀ r, c.hitch = some r → r.fields.inRange ∧ ∀ f, r.staged = some f → f.inRange

/-- The hitch laws: the openings are never both nonzero, and the raise opening is zero whenever the
last position received is at or above the lift limit in force (R145); with what keeps them: HOLD and
LOCKED are shut, the record's fields are in range, WORK and RETURN work an ACTIVE record (R150, R157),
and the mode is LOCKED while ROAD is set (R156). -/
def State.hitchLaw (s : State) : Prop :=
  (s.htc.raise = 0 ∨ s.htc.lower = 0) ∧
    (s.liftLimit ≤ s.mfe.p.held → s.htc.raise = 0) ∧
    (s.htc.mode = .hold ∨ s.htc.mode = .locked → s.htc.raise = 0 ∧ s.htc.lower = 0) ∧
    s.cpt.hitchInRange ∧
    (s.htc.mode = .work ∨ (∃ target timer, s.htc.mode = .travel .return target timer) →
      ∃ r, s.cpt.hitch = some r ∧ r.state = .active) ∧
    (s.htc.mode = .locked ↔ s.rlk.road = true) ∧
    10 ≤ s.htc.travelOpening ∧ s.htc.travelOpening ≤ 100 ∧ s.htc.raise ≤ 100 ∧ s.htc.lower ≤ 100

/-- A trailer entry's fields, active and staged, in their ranges. -/
def entryInRange (r : Option TrailerRecord) : Prop :=
  ∀ x, r = some x → x.fields.inRange ∧ ∀ f, x.staged = some f → f.inRange

/-- The towing law: a TOWTHRU record is in use only behind a DRAWBAR record that is ACTIVE, DEGRADED
or LOST, and is ACTIVE, LOST, or RETIRING from ACTIVE (R3, R12, R14, R20). -/
def Coupling.towingLaw (c : Coupling) : Prop :=
  ∀ t, c.towthru = some t →
    (∃ d, c.drawbar = some d ∧ (d.state = .active ∨ d.state = .degraded ∨ d.state = .lost)) ∧
      (t.state = .active ∨ t.state = .lost ∨ t.state = .retiring .active)

/-- The trailer laws: Mtow is the sum of the active laden masses of the weighted set (R25); D_tr lies
in 0 to 1500, and equals 1500 while any record is LOST or while PARK is active and the weighted set
is non-empty (R163); with the towing law and the fields' ranges. -/
def State.trailerLaw (s : State) : Prop :=
  s.cpt.mtow = s.cpt.weightedMass ∧ s.tbc.demand ≤ 1500 ∧
    (s.cpt.anyLost = true ∨ (s.present .park = true ∧ s.cpt.weighted ≠ []) → s.tbc.demand = 1500) ∧
    s.cpt.towingLaw ∧ entryInRange s.cpt.drawbar ∧ entryInRange s.cpt.towthru

/-- Handles are 1 to 255, no two in-use records hold the same handle or carry the same nonzero tag,
and the counter is 1 to 255 (R3, R4, R5). -/
def Coupling.labelLaw (c : Coupling) : Prop :=
  (∀ x ∈ c.labels, 1 ≤ x.1 ∧ x.1 ≤ 255 ∧ x.2 ≤ 65535) ∧ (c.labels.map fun x => x.1).Nodup ∧
    ((c.labels.map fun x => x.2).filter fun t => t ≠ 0).Nodup ∧ 1 ≤ c.counter ∧ c.counter ≤ 255

/-- The load index is min(255, floor(Mtow / 5) + floor(D / 20)) over the draft the Hitch Controller
holds, and the formed draft is that of the pin channels (R44, R146). -/
def State.loadLaw (s : State) : Prop :=
  s.tre.loadIndex = min 255 (s.cpt.mtow / 5 + s.htc.draft.value / 20) ∧
    s.htc.formed = formDraft s.mfe.dl s.mfe.dr

/-- The ratio laws: the defined entries stand in index order, within one direction their Rn rises
strictly with the index, no two name the same three packs (R47, R49), and each is usable exactly when
its withhold bit is clear and none of its packs is in FAULT (R54). -/
def State.ratioLaw (s : State) : Prop :=
  (s.rmp.entries.map fun e => e.index).Pairwise (· < ·) ∧
    (∀ e ∈ s.rmp.entries, 1 ≤ e.index ∧ e.index ≤ 32 ∧ 1 ≤ e.rn ∧ e.rn ≤ 1500) ∧
    (∀ e ∈ s.rmp.entries, ∀ e' ∈ s.rmp.entries,
      e.direction = e'.direction → e.index < e'.index → e.rn < e'.rn) ∧
    (∀ e ∈ s.rmp.entries, ∀ e' ∈ s.rmp.entries,
      e.direction = e'.direction → e.speed = e'.speed → e.range = e'.range → e.index = e'.index) ∧
    ∀ e ∈ s.rmp.entries,
      (e.usable = true ↔ s.rmp.withheld.getLsbD (e.index - 1) = false ∧
        ∀ p ∈ e.packs, (s.packs.get p).state ≠ .fault)

/-- The five pack fields in their ranges; the fill time lies within its own bounds (R56). -/
def PackFields.inRange (f : PackFields) : Prop :=
  5 ≤ f.pf ∧ f.pf ≤ 80 ∧ 10 ≤ f.tfMin ∧ f.tfMin ≤ f.tf ∧ f.tf ≤ f.tfMax ∧ f.tfMax ≤ 400 ∧
    100 ≤ f.pl ∧ f.pl ≤ 250

/-- The pack laws: every pack's fields, active and staged, lie in their ranges, its count is 0 to 8,
and it carries a fault cause exactly while it is in FAULT (R56, R62); the step
count of the Calibration Unit is 0 to 60 and its step interval 50 to 500 (R119). -/
def State.packLaw (s : State) : Prop :=
  (∀ p, (s.packs.get p).active.inRange ∧ (∀ f, (s.packs.get p).staged = some f → f.inRange) ∧
    (s.packs.get p).atLimit ≤ 8 ∧ ((s.packs.get p).cause ≠ .none ↔ (s.packs.get p).state = .fault)) ∧
    s.cau.stepCount ≤ 60 ∧ 50 ≤ s.cau.interval ∧ s.cau.interval ≤ 500

/-- Where FRONT stands at the arbiter, and where FDP stands, in each pack phase (R130). -/
def State.frontLaw (s : State) : Prop :=
  match s.frd.phase with
  | .rest => s.packs.fdp.state = .released ∧ s.fsa.waiting.front = false ∧ s.fsa.holder ≠ some .front
  | .waiting => s.packs.fdp.state = .released ∧ s.fsa.waiting.front = true ∧ s.fsa.holder ≠ some .front
  | .filling => s.packs.fdp.state = .fill ∧ s.fsa.waiting.front = false ∧ s.fsa.holder = some .front
  | .holding => s.packs.fdp.state = .locked ∧ s.fsa.waiting.front = false ∧ s.fsa.holder ≠ some .front

/-- The fill-supply law: every pack in FILL is in the fill list and no other pack is, the holder holds
exactly while its list is not empty (R70, R73), SHIFT waits in SUPPLY_WAIT and holds in FILL (R97,
R99), and CAL in WAITING and FILLING (R119). -/
def State.supplyLaw (s : State) : Prop :=
  (∀ p, (s.packs.get p).state = .fill ↔ p ∈ s.fsa.fillList) ∧
    (s.fsa.holder = none ↔ s.fsa.fillList = []) ∧
    (s.she.state = .supplyWait ↔ s.fsa.waiting.shift = true) ∧
    (s.she.state = .fill ↔ s.fsa.holder = some .shift) ∧
    ((∃ j, s.cau.job = some j ∧ j.phase = .waiting) ↔ s.fsa.waiting.cal = true) ∧
    ((∃ j, s.cau.job = some j ∧ j.phase = .filling) ↔ s.fsa.holder = some .cal)

/-- The shift record stands exactly while a shift is in flight; its origin is PR, its destination is
another defined ratio none of whose packs is in FAULT, and its pack lists are those of R96; a target
other than neutral is defined (R49, R81). -/
def State.recordLaw (s : State) : Prop :=
  s.she.record.isSome = s.she.state.inFlight ∧
    (s.she.nr ≠ 0 → (s.rmp.entry s.she.nr).isSome = true) ∧
    ∀ r, s.she.record = some r →
      r.origin = s.she.pr ∧ r.dest ≠ s.she.pr ∧
        r.offGoing = ((s.packsOf r.origin).filter fun p => !(s.packsOf r.dest).contains p) ∧
        r.onComing = ((s.packsOf r.dest).filter fun p => !(s.packsOf r.origin).contains p) ∧
        r.common = ((s.packsOf r.dest).filter fun p => (s.packsOf r.origin).contains p) ∧
        ∃ e, s.rmp.entry r.dest = some e ∧ ∀ p ∈ e.packs, (s.packs.get p).state ≠ .fault

/-- Whenever the present ratio is other than neutral, that ratio is defined and none of its packs is in
FAULT (R82), whatever the engine state. -/
def State.presentLaw (s : State) : Prop :=
  s.she.pr ≠ 0 →
    ∃ e, s.rmp.entry s.she.pr = some e ∧ ∀ p ∈ e.packs, (s.packs.get p).state ≠ .fault

/-- A calibration runs exactly while the engine is in CAL_HOLD, with PR and NR at 0 and the partners of
its pack (R111, R121); while FILLING, a partner's fill timer still runs (R123). -/
def State.calLaw (s : State) : Prop :=
  s.cau.job.isSome = decide (s.she.state = .calHold) ∧
    ∀ j, s.cau.job = some j →
      s.she.pr = 0 ∧ s.she.nr = 0 ∧ j.pack.partners = some (j.partner1, j.partner2) ∧
        (j.phase = .filling → j.fill1.isSome = true ∨ j.fill2.isSome = true)

/-- A pack that no shift and no calibration works: RELEASED, or in FAULT. -/
def PackRecord.resting (p : PackRecord) : Prop := p.state = .released ∨ p.state = .fault

/-- Where a running calibration has a gearbox pack (R123, R124). -/
def CalJob.places (j : CalJob) (id : PackId) (p : PackRecord) : Prop :=
  if id = j.pack then (if j.phase = .stepping then p.state = .calStep else p.state = .released)
  else if id = j.partner1 then
    match j.phase with
    | .waiting => p.state = .released
    | .filling => if j.fill1.isSome then p.state = .fill else p.state = .locked
    | .settling => p.state = .locked
    | .stepping => p.state = .locked
  else if id = j.partner2 then
    match j.phase with
    | .waiting => p.state = .released
    | .filling => if j.fill2.isSome then p.state = .fill else p.state = .locked
    | .settling => p.state = .locked
    | .stepping => p.state = .locked
  else p.resting

/-- Where the shift in flight has a gearbox pack (R97, R99, R101, R102). -/
def State.shiftPlaces (s : State) (r : ShiftRecord) (id : PackId) (p : PackRecord) : Prop :=
  match s.she.state with
  | .supplyWait =>
    if id ∈ s.packsOf r.origin then p.state = .locked
    else if id ∈ r.onComing then p.state = .released
    else p.resting
  | .fill =>
    if id ∈ r.onComing then p.state = .fill
    else if id ∈ s.packsOf r.origin then p.state = .locked
    else p.resting
  | .handover =>
    if id ∈ r.onComing then ∃ d t, p.state = .rising d t
    else if id ∈ r.offGoing then ∃ c d t, p.state = .falling c d t
    else if id ∈ r.common then p.state = .locked
    else p.resting
  | .confirm => if id ∈ s.packsOf r.dest then p.state = .locked else p.resting
  | .settled => True
  | .interval => True
  | .calHold => True

/-- Where every gearbox pack stands: the packs of PR LOCKED and every other pack RELEASED or in FAULT,
but for what the shift in flight or the calibration running has under way (R81, R96). -/
def State.gearLaw (s : State) : Prop :=
  ∀ id ∈ gearboxPacks,
    (∀ j, s.cau.job = some j → j.places id (s.packs.get id)) ∧
      (∀ r, s.she.record = some r → s.shiftPlaces r id (s.packs.get id)) ∧
      (s.cau.job = none → s.she.record = none →
        if id ∈ s.packsOf s.she.pr then (s.packs.get id).state = .locked else (s.packs.get id).resting)

/-- The draft-latch signal is raised exactly from FILL entry to the end of the shift, and the Hitch
Controller's latch is held exactly while it is (R108, R147); the downshift-handover flag is set exactly
in the HANDOVER of a downshift (R101). -/
def State.signalLaw (s : State) : Prop :=
  (s.she.latchSignal = true ↔
    s.she.state = .fill ∨ s.she.state = .handover ∨ s.she.state = .confirm) ∧
    s.htc.latch.isSome = s.she.latchSignal ∧
    (s.she.downshift = true ↔
      s.she.state = .handover ∧ ∃ r, s.she.record = some r ∧ r.kind = .downshift)

/-- With FDKIND SPRING, while the last pedal-set arrival detected braking, the pack phase is REST
(R136, R139). -/
def State.brakingLaw (s : State) : Prop :=
  s.straps.fdkind = .spring → s.tre.braking = true → s.frd.phase = .rest

/-- The laws of the gearbox, the front drive and the fill supply together: each holds because of the
others. -/
def State.drivelineLaw (s : State) : Prop :=
  s.ratioLaw ∧ s.presentLaw ∧ s.recordLaw ∧ s.calLaw ∧ s.gearLaw ∧ s.supplyLaw ∧ s.frontLaw ∧ s.signalLaw ∧
    s.brakingLaw

/-- The three gearbox groups (00, Terms: pack group). -/
def packGroups : List (List PackId) :=
  [[.fwd, .rev], [.sp1, .sp2, .sp3, .sp4, .sp5, .sp6], [.rngA, .rngB, .rngC]]

/-- How many packs of a group have a nonzero pressure command (R96). -/
def State.pressed (s : State) (group : List PackId) : Nat :=
  (group.filter fun p => s.packCommand p ≠ 0).length

end Sys2Proof.Machine
end

