-- ==== Sys2Proof/Certificates/Slice0/Obligations.lean ====
section
/-! DEFINITION. The statements for the provers: what the manual's rules say of each command, what a
step does, and the laws every step keeps. -/

section

open Sys2Proof Sys2Proof.Machine

/-! ## The step -/

/-- The command at the front of the queue is carried out on the state with the queue's rest. -/
def Obligations.StepTakesTheFrontCommand : Prop :=
  ∀ (c : Instr) (rest : List Instr) (s : State),
    step { s with pending := c :: rest } = exec c { s with pending := rest }

/-- On an empty queue the part keeps its own time: nothing while it is held in reset (log 4); the first
timer with nothing left expires; otherwise every running timer loses one millisecond, every ramp and,
in HANDOVER and CONFIRM, the time since HANDOVER start gain one, and nothing else changes. The model's
choice, log 2. -/
def Obligations.EmptyQueueIsTheClock : Prop :=
  ∀ s : State, s.pending = [] →
    (s.heldInReset = true → step s = .next s) ∧
      (s.heldInReset = false → ∀ i, s.firstDue = some i → step s = exec i s) ∧
        (s.heldInReset = false → s.firstDue = none →
          let less (x : Option Nat) : Option Nat := x.map (· - 1)
          let input (c : Contact) : Contact :=
            { c with candidate := c.candidate.map fun d => { d with left := d.left - 1 } }
          let i := s.mfe.inputs
          ∃ packs : PackFile,
            (∀ p, packs.get p = match (s.packs.get p).state with
              | .rising d e => { s.packs.get p with state := .rising d (e + 1) }
              | .falling c d e => { s.packs.get p with state := .falling c d (e + 1) }
              | _ => s.packs.get p) ∧
            let t : State :=
              { s with
                mfe := { s.mfe with inputs :=
                  ⟨input i.park, input i.seat, input i.detA, input i.detB, input i.extUp, input i.extDown⟩ }
                cpt := { s.cpt with
                  hitch := s.cpt.hitch.map fun r => match r.state with
                    | .pending x => { r with state := .pending (x - 1) }
                    | .active => r
                  drawbar := s.cpt.drawbar.map fun r => match r.state with
                    | .pending x => { r with state := .pending (x - 1) }
                    | _ => r }
                packs := packs
                she := { s.she with
                  timer := less s.she.timer
                  seatTimer := less s.she.seatTimer
                  record := s.she.record.map fun r =>
                    if s.she.state = .handover ∨ s.she.state = .confirm then
                      { r with sinceHandover := r.sinceHandover + 1 }
                    else r }
                cau := { s.cau with job := s.cau.job.map fun j =>
                  { j with fill1 := less j.fill1, fill2 := less j.fill2, settle := less j.settle
                           step := less j.step } }
                frd := { s.frd with releaseTimer := less s.frd.releaseTimer, fillTimer := less s.frd.fillTimer }
                htc := { s.htc with mode := match s.htc.mode with
                  | .travel p target x => .travel p target (x - 1)
                  | m => m }
                rlk := { s.rlk with window := less s.rlk.window } }
            step s = .next t ∧ t.timers = s.timers.map fun x => (x.1, less x.2))

/-- No command stops the part: each answers a next state, and none touches the queue. Every request taken
settles the fate of the reply that was pending and leaves its own reply pending, with its code echoed; a
reply that is not OK carries no payload, and nothing but the link moves (R2, R174, R177). -/
def Obligations.EveryCommandIsAnswered : Prop :=
  (∀ (c : Instr) (s : State), ∃ t, exec c s = .next t ∧ t.pending = s.pending) ∧
  (∀ (i : Instr) (code : Byte) (payload : List Byte) (extra : Nat) (s : State),
     requestParts i = some (code, payload, extra) → s.listens →
       ∃ t r, exec i s = .next t ∧ t.rlk.pending = some r ∧ r.echo = code ∧
         t.rlk.shiftedOut = s.rlk.shifts (payload.length + 3 + extra) ∧
         t.rlk.lastFate = s.rlk.settles (payload.length + 3 + extra) ∧
         (r.status ≠ .ok → r.payload = [] ∧ t = s.answered (payload.length + 3 + extra) r))

/-! ## The Request Link -/

/-- The frame of every request is judged as that request (R175, R177, R183). -/
def Obligations.RequestFramesRoundTrip : Prop :=
  ∀ (i : Instr) (code : Byte) (payload : List Byte) (extra : Nat),
    requestParts i = some (code, payload, extra) →
      judge (encode i) = .accepted i ∧ (encode i).length = payload.length + 3 + extra ∧
        frameFault (encode i) = none

/-- The CRC-8: a register from FFh, each byte exclusive-ORed in and followed by eight shifts with the
polynomial 2Fh; the part checks it in every request frame and appends it to every reply frame. The
worked figures are those of the NOP frame (R176). -/
def Obligations.CrcEndsEveryFrame : Prop :=
  crc8 [] = 0xFF#8 ∧
    (∀ (bs : List Byte) (b : Byte),
      crc8 (bs ++ [b]) =
        Nat.repeat (fun r : Byte => if r.getLsbD 7 then (r <<< 1) ^^^ 0x2F#8 else r <<< 1) 8 (crc8 bs ^^^ b)) ∧
    crc8 [0x01#8] = 0x6D#8 ∧ crc8 [0x01#8, 0x00#8] = 0x51#8 ∧
    (∀ bytes i, judge bytes = .accepted i →
      ∃ n, bytes[1]? = some n ∧ bytes[n.toNat + 2]? = some (crc8 (bytes.take (n.toNat + 2)))) ∧
    ∀ r : Reply, ∃ body, body = r.echo :: byte r.status.code :: byte r.payload.length :: r.payload ∧
      r.frame = body ++ [crc8 body]

/-- The bytes of a transaction that fail a check of R175 are discarded: the reply has the status of the
first check that fails, echoes the first byte received and carries no payload, and no block sees the
frame. A transaction with no byte is no request and leaves the pending reply in place. While the start-up
window runs, a transaction shifts the pending reply out, which stays pending, and its bytes are
discarded, whatever they spell; the window's closing leaves the reply pending; and the window is opened
by the two resets that the pins take, not by SOFT_RESET (R174, R175, R179). -/
def Obligations.DiscardedBytesTouchNoBlock : Prop :=
  ((∀ (code : Byte) (rest : List Byte) (status : Status) (s : State), s.listens →
     frameFault (code :: rest) = some status →
       exec (.frameRejected (code :: rest)) s =
         .next { s.answered (rest.length + 1) ⟨code, status, []⟩ with
           rlk := { (s.answered (rest.length + 1) ⟨code, status, []⟩).rlk with receiver := [] } }) ∧
     (∀ s : State, exec .noByteTransaction s = .next s ∧ exec (.frameRejected []) s = .next s)) ∧
  ((∀ s : State, s.heldInReset = false → s.rlk.window.isSome = true →
     (∀ k, exec (.windowTransaction k) s = .next { s with rlk := { s.rlk with shiftedOut := s.rlk.shifts k } }) ∧
     (∀ i code payload extra, requestParts i = some (code, payload, extra) →
       exec i s =
         .next { s with rlk := { s.rlk with shiftedOut := s.rlk.shifts (payload.length + 3 + extra) } }) ∧
     (∀ b bytes, exec (.frameRejected (b :: bytes)) s =
       .next { s with rlk := { s.rlk with shiftedOut := s.rlk.shifts (bytes.length + 1) } }) ∧
     exec .startUpWindowClose s = .next { s with rlk := { s.rlk with window := none } }) ∧
   (∀ gearset fdkind (s : State), ∃ t u, exec (.powerOnReset gearset fdkind) s = .next t ∧
     exec (.hardReset gearset fdkind) s = .next u ∧
     t.rlk.window = some 20 ∧ u.rlk.window = some 20 ∧
     t.rlk.pending = some ⟨0#8, .notReady, []⟩ ∧ u.rlk.pending = some ⟨0#8, .notReady, []⟩) ∧
   ∀ extra (s : State), s.listens → ∃ t, exec (.softReset extra) s = .next t ∧ t.rlk.window = none)

/-- NOP changes no state and replies OK with no payload (R177). STATUS changes no state and replies
with the fifteen bytes of the snapshot (R182); that they carry no command of FDP, of which R60 and R77
speak, is the model's choice between the rules, log 30. In the states the driveline law admits, byte 5
tells that command, which is the active Pf in FILL, the active Pl in LOCKED, and otherwise 0 (R77). -/
def Obligations.NopAndStatusOnlyRead : Prop :=
  ∀ (extra : Nat) (s : State), s.listens →
    exec (.nop extra) s = .next (s.answered (3 + extra) ⟨0x01, .ok, []⟩) ∧
      exec (.status extra) s = .next (s.answered (3 + extra) ⟨0x03, .ok,
        [byte s.she.pr, byte s.she.nr, byte s.she.state.code, byte (bit s.engaged), byte s.packs.fdp.state.code,
         byte s.htc.mode.code, byte (s.mfe.p.held / 256), byte s.mfe.p.held, byte (s.tbc.demand / 256),
         byte s.tbc.demand, byte (bit (decide (s.fsa.charge = .low))), byte (holderCode s.fsa.holder),
         byte (bit s.rlk.road + 2 * bit s.rlk.shiftHold), byte s.nts.notices.length,
         byte (bit (decide (s.straps.gearset = .six)) + 2 * bit (decide (s.straps.fdkind = .pressure)))]⟩) ∧
      (s.drivelineLaw → s.packCommand .fdp =
        if byte s.packs.fdp.state.code = 1 then s.packs.fdp.active.pf
        else if byte s.packs.fdp.state.code = 3 then s.packs.fdp.active.pl
        else 0)

/-- SET_CONDITION and CLEAR_CONDITION: a mask with another bit is refused; a condition named that
changes reaches its block: ROAD set puts the hitch in LOCKED and ROAD cleared puts it in HOLD, with
both openings 0; SHIFT_HOLD cleared may let the engine decide a step (R88, R156, R181). -/
def Obligations.ConditionsReachTheirBlocks : Prop :=
  ∀ (extra : Nat) (mask : Byte) (s : State), s.listens →
    (4 ≤ mask.toNat →
      exec (.setCondition extra mask) s = .next (s.answered (4 + extra) ⟨0x04, .range, []⟩) ∧
      exec (.clearCondition extra mask) s = .next (s.answered (4 + extra) ⟨0x05, .range, []⟩)) ∧
    (mask.toNat < 4 →
      exec (.setCondition extra mask) s =
        .next (State.answered
          { s with
            rlk := { s.rlk with road := s.rlk.road || mask.getLsbD 0
                                shiftHold := s.rlk.shiftHold || mask.getLsbD 1 }
            htc := if mask.getLsbD 0 && !s.rlk.road then
                { s.htc with mode := .locked, raise := 0, lower := 0, draftLoss := false }
              else s.htc }
          (4 + extra)
          ⟨0x04, .ok, [byte (bit (s.rlk.road || mask.getLsbD 0) + 2 * bit (s.rlk.shiftHold || mask.getLsbD 1))]⟩)) ∧
    (mask.toNat < 4 →
      let k := s.settled (4 + extra)
      let u : State :=
        { k with
          rlk := { k.rlk with road := s.rlk.road && !mask.getLsbD 0
                              shiftHold := s.rlk.shiftHold && !mask.getLsbD 1 }
          htc := if mask.getLsbD 0 && s.rlk.road then
              { s.htc with mode := .hold, raise := 0, lower := 0, draftLoss := false }
            else s.htc }
      let decides := mask.getLsbD 1 && s.rlk.shiftHold && s.she.state = .settled && s.she.pr ≠ s.she.nr
      let v := if decides then u.stepDecision else u
      exec (.clearCondition extra mask) s =
        .next (v.pend ⟨0x05, .ok,
          [byte (bit (s.rlk.road && !mask.getLsbD 0) + 2 * bit (s.rlk.shiftHold && !mask.getLsbD 1))]⟩))

/-! ## The Notice Set -/

/-- The entry of an offered notice: discarded where its source, or for INPUT its edge, is disabled;
put in the place of a notice of its source, marked superseded; appended otherwise. The set keeps at
most one notice per source, with ATTN asserted exactly when it is not empty, and two notices of one
event may stand in either order (R185). -/
def Obligations.NoticeEntry : Prop :=
  (∀ (n : NoticeSet) (r : Report) (detail : List Byte),
    (n.enabled r = false → n.offer r detail = n) ∧
    (n.enabled r = true → (∃ x ∈ n.notices, x.report.source = r.source) →
      n.offer r detail =
        { n with notices := n.notices.map fun x => if x.report.source = r.source then ⟨r, detail, true⟩ else x }) ∧
    (n.enabled r = true → (∀ x ∈ n.notices, x.report.source ≠ r.source) →
      (n.offer r detail).notices = n.notices ++ [⟨r, detail, false⟩] ∧
        (n.offer r detail).enables = n.enables) ∧
    (n.law → (n.offer r detail).law)) ∧
  ∀ (s : State) (k : Nat), ∃ fresh draws, fresh.Perm (s.nts.notices.drop k) ∧
    s.orderNotices k =
      { s with nts := { s.nts with notices := s.nts.notices.take k ++ fresh }, draws := draws }

/-- TAKE_NOTICE removes the oldest notice and carries it with the count left; on an empty set it
replies NONE and changes nothing. ATTN falls when a notice is appended to an empty set and rises when
TAKE_NOTICE removes the last one, and not at a replacement; a TAKE_NOTICE and an offer of the oldest
notice's source are taken in either order; held in reset the set is empty (R186). -/
def Obligations.TakeNoticeRemovesTheOldest : Prop :=
  (∀ (extra : Nat) (s : State), s.listens →
    (s.nts.notices = [] →
      exec (.takeNotice extra) s = .next (s.answered (3 + extra) ⟨0x02, .none, []⟩)) ∧
    ∀ x rest, s.nts.notices = x :: rest →
      exec (.takeNotice extra) s =
        .next (State.answered
          { s with nts := { s.nts with notices := rest
                                       attnLow := if rest = [] then false else s.nts.attnLow } }
          (3 + extra)
          ⟨0x02, .ok, [byte x.report.source.code, byte x.report.outcomeCode, byte (bit x.superseded),
            byte rest.length, byte x.detail.length] ++ x.detail⟩)) ∧
  (∀ (n : NoticeSet) (r : Report) (detail : List Byte), n.enabled r = true →
    (n.notices = [] → (n.offer r detail).attnLow = true) ∧
    (n.notices ≠ [] → (n.offer r detail).attnLow = n.attnLow) ∧
    ∀ x rest, n.law → n.notices = x :: rest → r.source = x.report.source →
      (n.offer r detail).notices = ⟨r, detail, true⟩ :: rest ∧
      ({ n with notices := rest }.offer r detail).notices = rest ++ [⟨r, detail, false⟩]) ∧
  ∀ s : State, ∃ t, exec .rstHeldLow s = .next t ∧ t.nts.notices = [] ∧ t.nts.attnLow = false

/-- The enables: bit k names the source of code k + 1, and input i has its rising edge at bit 9 + 2i and
its falling edge at bit 10 + 2i. ENABLE_NOTICE sets the bits named and DISABLE_NOTICE clears them, a
mask with bit 23 set is refused, and both reply with the mask after the request. The notices in the
set stand (R187). -/
def Obligations.EnablesActOnLaterOffers : Prop :=
  (∀ (n : NoticeSet) (r : Report),
    n.enabled r = true ↔ n.enables.getLsbD (r.source.code - 1) = true ∧
      ∀ i rising, r = .input i rising →
        n.enables.getLsbD (if rising then 9 + 2 * inputCode i else 10 + 2 * inputCode i) = true) ∧
  ∀ (extra : Nat) (mask : Tri) (s : State), s.listens →
    (mask.getLsbD 23 = true →
      exec (.enableNotice extra mask) s = .next (s.answered (6 + extra) ⟨0x06, .range, []⟩) ∧
      exec (.disableNotice extra mask) s = .next (s.answered (6 + extra) ⟨0x07, .range, []⟩)) ∧
    (mask.getLsbD 23 = false →
      ∃ on off : BitVec 23,
        (∀ k, on.getLsbD k = (s.nts.enables.getLsbD k || (decide (k < 23) && mask.getLsbD k))) ∧
        (∀ k, off.getLsbD k = (s.nts.enables.getLsbD k && !mask.getLsbD k)) ∧
        exec (.enableNotice extra mask) s =
          .next (State.answered { s with nts := { s.nts with enables := on } } (6 + extra)
            ⟨0x06, .ok, [byte (on.toNat / 65536), byte (on.toNat / 256), byte on.toNat]⟩) ∧
        exec (.disableNotice extra mask) s =
          .next (State.answered { s with nts := { s.nts with enables := off } } (6 + extra)
            ⟨0x07, .ok, [byte (off.toNat / 65536), byte (off.toNat / 256), byte off.toNat]⟩))

/-! ## The resets -/

/-- What every reset kind leaves, soft reset included: the channels unsampled, each block at its reset
values, every pack RELEASED with no fault cause and no staged copy, every valve at 0, no condition set
and no notice pending. -/
def Obligations.EveryResetLeaves : Prop :=
  let leaves (t : State) : Prop :=
    t.afterAnyReset ∧
      (∀ p, (t.packs.get p).state = .released ∧ (t.packs.get p).cause = .none ∧
        (t.packs.get p).staged = none ∧ t.packValve p = 0) ∧
      t.raiseValve = 0 ∧ t.lowerValve = 0 ∧ t.trailerValve = 0 ∧
      t.liftLimit = 1000 ∧ t.depthLimit = 0 ∧ t.loweringCeiling = 100 ∧
      (t.engaged = true ↔ t.straps.fdkind = .spring)
  (∀ extra (s : State), s.listens → ∃ t, exec (.softReset extra) s = .next t ∧ leaves t) ∧
  (∀ gearset fdkind (s : State), ∃ t, exec (.powerOnReset gearset fdkind) s = .next t ∧ leaves t) ∧
  ∀ gearset fdkind (s : State), ∃ t, exec (.hardReset gearset fdkind) s = .next t ∧ leaves t

/-- A power-on or hard reset leaves the map undefined and the mask clear, every pack at its defaults,
the straps latched, and every input absent, one whose pin is present starting its debounce timer (R36,
R63, R178). A soft reset keeps the ratio entries, the withhold mask, and each pack's fields and at-limit
count, releases every pack with its fault cause and its staged copy gone, forms usability again from the
kept map and mask, and keeps the straps and the discrete inputs; its reply is OK with code 08h (R65,
R180). That READ_RATIO reports neutral as not defined, with no reason, is the model's choice, log 31. -/
def Obligations.WhatEachResetKindKeeps : Prop :=
  (let leaves (s t : State) (gearset : GearSet) (fdkind : FdKind) : Prop :=
     t.rmp.entries = [] ∧ t.rmp.withheld = 0#32 ∧ t.straps = ⟨gearset, fdkind⟩ ∧ t.heldInReset = false ∧
       (∀ p, if p = .fdp then (t.packs.get p).isFdpDefault else (t.packs.get p).isGearboxDefault) ∧
       (∀ p, t.packCommand p = 0) ∧
       (∀ i, (t.mfe.inputs.get i).isStarted (s.mfe.inputs.get i).raw) ∧
       (∀ i, i ≤ 32 → t.ratioPayload i =
         [byte i, byte (if i = 0 then 4 else 0), 0#8, 0#8, 0#8, 0#8, 0#8, byte (if i = 0 then 0 else 1)])
   ∀ gearset fdkind (s : State),
     (∃ t, exec (.powerOnReset gearset fdkind) s = .next t ∧ leaves s t gearset fdkind) ∧
       ∃ t, exec (.hardReset gearset fdkind) s = .next t ∧ leaves s t gearset fdkind) ∧
  (∀ (extra : Nat) (s : State), s.listens →
     ∃ t, exec (.softReset extra) s = .next t ∧
       t.rmp.withheld = s.rmp.withheld ∧
       t.rmp.entries =
         s.rmp.entries.map (fun e => { e with usable := !s.rmp.withheld.getLsbD (e.index - 1) }) ∧
       (∀ p, t.packs.get p =
         { active := (s.packs.get p).active, atLimit := (s.packs.get p).atLimit, cause := .none,
           state := .released, staged := none }) ∧
       (∀ p, t.packCommand p = 0) ∧
       t.mfe.inputs = s.mfe.inputs ∧ t.straps = s.straps ∧ t.rlk.pending = some ⟨0x08, .ok, []⟩ ∧
       t.rlk.window = none)

/-- RST held low: every valve is driven at 0, every pack is RELEASED, the Notice Set is empty and ATTN
released, and the transaction in progress is ended, and no transaction is received (R64, R175, R178).
That until the reset ends every other command changes nothing too, and a change of a pin moves the pin's
level alone, is the model's reading, log 4. That soft-reset state is held until then is the model's
reading, log 5. -/
def Obligations.HeldInResetNothingHappens : Prop :=
  (∀ s : State, ∃ t, exec .rstHeldLow s = .next t ∧ t.heldInReset = true ∧ t.rlk.receiver = [] ∧
    (∀ p, t.packValve p = 0 ∧ (t.packs.get p).state = .released) ∧
    t.raiseValve = 0 ∧ t.lowerValve = 0 ∧ t.trailerValve = 0 ∧ t.nts.notices = [] ∧ t.nts.attnLow = false) ∧
  ∀ s : State, s.heldInReset = true →
    (∀ c, heldIgnores c = true → exec c s = .next s) ∧
    (∀ i level, exec (.rawInputChange i level) s =
      .next { s with mfe := { s.mfe with
        inputs := s.mfe.inputs.set i { s.mfe.inputs.get i with raw := level } } }) ∧
    (∀ p, s.packValve p = 0) ∧ s.raiseValve = 0 ∧ s.lowerValve = 0 ∧ s.trailerValve = 0

/-! ## The Coupling Table -/

/-- A field set is clamped field by field, an implement's in the order that Pmin and Ps depend on; an
absent part stays absent (R6, R7). -/
def Obligations.FieldSetsAreClamped : Prop :=
  (∀ pmax pmin ps db kq drop sl draft, ∃ f, implementOf (.implement pmax pmin ps db kq drop sl draft) = some f ∧
    f.pmax = max 100 (min 1000 pmax.toNat) ∧ f.pmin = min (f.pmax - 100) pmin.toNat ∧
    f.ps = max f.pmin (min f.pmax ps.toNat) ∧ f.db = min 50 db.toNat ∧ f.kq = max 1 kq.toNat ∧
    f.drop = max 10 (min 100 drop.toNat) ∧ f.sl = min 1000 sl.toNat ∧
    (draft = none → f.draft = none) ∧
    ∀ d, draft = some d → f.draft = some ⟨min 2000 d.ds.toNat, max 1 d.gd.toNat, min 100 d.m.toNat⟩) ∧
  (∀ m gt pld pas, trailerOf (.trailer m gt pld pas) =
    some ⟨max 10 (min 400 m.toNat), gt.toNat, min 300 pld.toNat, pas.map fun x => min 400 x.toNat⟩) ∧
  (∀ pmax pmin ps db kq drop sl draft, trailerOf (.implement pmax pmin ps db kq drop sl draft) = none) ∧
  ∀ m gt pld pas, implementOf (.trailer m gt pld pas) = none

/-- A change of the table: Mtow is the sum of the active laden masses of the weighted set, every notice
is offered with its record's handle, tag, state and Mtow after the event, and the change, complete, is
handed on: to the load index where Mtow changed, to the trailer demand where the weighted set or the
presence of a LOST record changed, and a LOST record engages the front drive (R25, R26, R27, R44,
R132, R164). -/
def Obligations.TableChangesAreHandedOn : Prop :=
  ∀ (s : State) (c : Coupling) (reports : List CplReport),
    let t := s.commit c reports
    t.cpt = { c with mtow := ((weightedEntry c.drawbar ++ weightedEntry c.towthru).map fun r => r.fields.m).sum } ∧
    (t.cpt.mtow ≠ s.cpt.mtow →
      t.tre.loadIndex = min 255 (t.cpt.mtow / 5 + t.htc.draft.value / 20)) ∧
    (t.cpt.anyLost ≠ s.cpt.anyLost ∨ t.cpt.members ≠ s.cpt.members →
      (t.tbc.demand, t.tbc.case) = t.formDemand) ∧
    (t.cpt.anyLost = true → s.cpt.anyLost = false → t.frd.engage = true) ∧
    ∀ r ∈ reports, (∀ r' ∈ reports, r'.point = r.point → r' = r) →
      s.nts.enabled (.coupling r.point r.outcome) = true →
        ∃ x ∈ t.nts.notices, x.report = .coupling r.point r.outcome ∧
          x.detail = [byte r.handle, byte (r.tag / 256), byte r.tag, byte r.state,
            byte (t.cpt.mtow / 256), byte t.cpt.mtow]

/-- The handle counter: an accepted ATTACH is given the counter's handle, moved forward past the at
most two that are held, with 255 followed by 1; a reset sets it to 1; and no command but an accepted
ATTACH and a reset moves it (R4). That it stands at 1 already while RST is held low is the model's
reading, log 5. -/
def Obligations.HandlesMoveForward : Prop :=
  (∀ c : Coupling, 1 ≤ c.counter → c.counter ≤ 255 →
    (c.hitch = none ∨ c.drawbar = none ∨ c.towthru = none) →
      ∃ k, k ≤ 2 ∧ c.freeHandle = handleForward k c.counter ∧
        (∀ x ∈ c.labels, x.1 ≠ c.freeHandle) ∧
        (∀ j, j < k → ∃ x ∈ c.labels, x.1 = handleForward j c.counter) ∧
        1 ≤ c.freeHandle ∧ c.freeHandle ≤ 255) ∧
  (∀ extra point tag fields (s t : State) payload, s.listens →
    exec (.attach extra point tag fields) s = .next t → t.rlk.pending = some ⟨0x10, .ok, payload⟩ →
      t.cpt.counter = nextHandle s.cpt.freeHandle ∧ payload.head? = some (byte s.cpt.freeHandle)) ∧
  (∀ extra point tag fields (s t : State) status, s.listens →
    exec (.attach extra point tag fields) s = .next t → t.rlk.pending = some ⟨0x10, status, []⟩ →
      t.cpt.counter = s.cpt.counter) ∧
  (nextHandle 255 = 1 ∧ ∀ h, h < 255 → nextHandle h = h + 1) ∧
  ∀ c (s t : State), s.listens → exec c s = .next t →
    match c with
    | .attach _ _ _ _ => True
    | .frameRejected _ => True
    | .powerOnReset _ _ => t.cpt.counter = 1
    | .hardReset _ _ => t.cpt.counter = 1
    | .rstHeldLow => t.cpt.counter = 1
    | .softReset _ => t.cpt.counter = 1
    | _ => t.cpt.counter = s.cpt.counter

/-- ATTACH is refused by the first check that fails, and changes nothing: the point and the kind of the
field set, the entry free, a lead for TOWTHRU, LOCKED for HITCH, the tag carried by another (R14). -/
def Obligations.AttachRefusesByTheFirstFailedCheck : Prop :=
  ∀ (extra : Nat) (point : Byte) (tag : Half) (fields : FieldSet) (s : State), s.listens →
    let answers (status : Status) : Prop :=
      exec (.attach extra point tag fields) s =
        .next (s.answered (3 + fieldSetLength fields + 3 + extra) ⟨0x10, status, []⟩)
    let fits := (point = 1#8 ∧ (implementOf fields).isSome = true) ∨
      ((point = 2#8 ∨ point = 3#8) ∧ (trailerOf fields).isSome = true)
    let occupied := (point = 1#8 ∧ s.cpt.hitch ≠ none) ∨ (point = 2#8 ∧ s.cpt.drawbar ≠ none) ∨
      (point = 3#8 ∧ s.cpt.towthru ≠ none)
    let lead := ∃ d, s.cpt.drawbar = some d ∧ (d.state = .active ∨ d.state = .degraded)
    (¬ fits → answers .range) ∧
    (fits → occupied → answers .occupied) ∧
    (fits → ¬ occupied → point = 3#8 → ¬ lead → answers .noLead) ∧
    (fits → ¬ occupied → point = 1#8 → s.htc.mode = .locked → answers .interlock) ∧
    (fits → ¬ occupied → (point = 3#8 → lead) → (point = 1#8 → s.htc.mode ≠ .locked) →
      tag ≠ 0#16 → (∃ x ∈ s.cpt.labels, x.2 = tag.toNat) → answers .duplicate)

/-- ATTACH that passes its checks puts the entry in use with the clamped fields, a handle, no staged
copy and its first state: a HITCH record PENDING with 30 s to run, a DRAWBAR record ACTIVE where both
contacts are present and PENDING otherwise, a TOWTHRU record ACTIVE; a record ACTIVE at once raises
ACCEPTED. The reply carries the handle and the first state (R9, R10, R15, R144). -/
def Obligations.AttachPutsTheEntryInUse : Prop :=
  ∀ (extra : Nat) (tag : Half) (fields : FieldSet) (s : State), s.listens → s.cpt.labelLaw →
    tag = 0#16 ∨ (∀ x ∈ s.cpt.labels, x.2 ≠ tag.toNat) →
    let h := s.cpt.freeHandle
    let k := s.settled (3 + fieldSetLength fields + 3 + extra)
    let next := if h = 255 then 1 else h + 1
    (∀ f, implementOf fields = some f → s.cpt.hitch = none → s.htc.mode ≠ .locked →
      ∃ t, exec (.attach extra 1 tag fields) s = .next t ∧
        State.sameButOrder s.nts.notices.length
          ((k.commit { s.cpt with hitch := some ⟨h, tag.toNat, .pending 30000, f, none⟩, counter := next }
            []).limitsChanged.pend ⟨0x10, .ok, [byte h, 1]⟩) t) ∧
    (∀ f, trailerOf fields = some f → s.cpt.drawbar = none →
      let both := s.present .detA && s.present .detB
      ∃ t, exec (.attach extra 2 tag fields) s = .next t ∧
        State.sameButOrder s.nts.notices.length
          ((k.commit
            { s.cpt with drawbar := some ⟨h, tag.toNat, if both then .active else .pending 30000, f, none⟩
                         counter := next }
            (if both then [⟨.drawbar, .accepted, h, tag.toNat, 2⟩] else [])).pend
              ⟨0x10, .ok, [byte h, if both then 2 else 1]⟩) t) ∧
    (∀ f, trailerOf fields = some f → s.cpt.towthru = none →
      (∃ d, s.cpt.drawbar = some d ∧ (d.state = .active ∨ d.state = .degraded)) →
      ∃ t, exec (.attach extra 3 tag fields) s = .next t ∧
        State.sameButOrder s.nts.notices.length
          ((k.commit { s.cpt with towthru := some ⟨h, tag.toNat, .active, f, none⟩, counter := next }
            [⟨.towthru, .accepted, h, tag.toNat, 2⟩]).pend ⟨0x10, .ok, [byte h, 2]⟩) t)

/-- AMEND stages the clamped field set in the record that holds the handle and changes nothing else; a
handle no record holds, a set of the other kind, and a LOST or RETIRING record are refused in that
order (R16). -/
def Obligations.AmendStagesACopy : Prop :=
  ∀ (extra : Nat) (handle : Byte) (fields : FieldSet) (s : State), s.listens → s.cpt.labelLaw →
    let k := 1 + fieldSetLength fields + 3 + extra
    let refuses (status : Status) : Prop :=
      exec (.amend extra handle fields) s = .next (s.answered k ⟨0x11, status, []⟩)
    ((∀ x ∈ s.cpt.labels, x.1 ≠ handle.toNat) → refuses .notFound) ∧
    (∀ r, s.cpt.hitch = some r → r.handle = handle.toNat →
      (implementOf fields = none → refuses .range) ∧
      ∀ f, implementOf fields = some f →
        exec (.amend extra handle fields) s =
          .next (State.answered { s with cpt := { s.cpt with hitch := some { r with staged := some f } } } k
            ⟨0x11, .ok, handle :: f.bytes⟩)) ∧
    ∀ p r, s.cpt.trailer p = some r → r.handle = handle.toNat →
      let busy := r.state = .lost ∨ ∃ back, r.state = .retiring back
      (trailerOf fields = none → refuses .range) ∧
      ((trailerOf fields).isSome = true → busy → refuses .busy) ∧
      ∀ f, trailerOf fields = some f → ¬ busy →
        exec (.amend extra handle fields) s =
          .next (State.answered
            { s with cpt := s.cpt.withTrailer p (some { r with staged := some f }) } k
            ⟨0x11, .ok, handle :: f.bytes⟩)

/-- RETIRE of the HITCH record removes it at once: a notice RETIRED, HOLD from WORK and from a RETURN,
and the change of the limits in force; a handle no record holds is refused (R19, R23, R144, R157). RETIRE
of a trailer record is refused DEPENDENT for a DRAWBAR record with a TOWTHRU record in use; otherwise a
LOST record is removed at once, and any other is removed on a quiet line, and is or stays RETIRING on one
that is not, with the state it had as its return state (R20, R23). RESTORE returns a RETIRING record to
its return state, PENDING with 30 s to run again, and raises no coupling notice; any other handle is
refused NOT_FOUND (R22). -/
def Obligations.RetireRemovesOrWaitsAndRestoreReturns : Prop :=
  (∀ (extra : Nat) (handle : Byte) (s : State), s.listens → s.cpt.labelLaw →
     ((∀ x ∈ s.cpt.labels, x.1 ≠ handle.toNat) →
       exec (.retire extra handle) s = .next (s.answered (4 + extra) ⟨0x12, .notFound, []⟩)) ∧
     ∀ r, s.cpt.hitch = some r → r.handle = handle.toNat →
       let u := (s.settled (4 + extra)).commit { s.cpt with hitch := none } [⟨.hitch, .retired, r.handle, r.tag, 0⟩]
       let v := match s.htc.mode with
         | .work => u.holdWith .retired
         | .travel .return _ _ => u.holdWith .retired
         | _ => u
       ∃ t, exec (.retire extra handle) s = .next t ∧
         State.sameButOrder s.nts.notices.length (v.limitsChanged.pend ⟨0x12, .ok, [handle, 0]⟩) t) ∧
  (∀ (extra : Nat) (handle : Byte) (p : Point) (r : TrailerRecord) (s : State), s.listens → s.cpt.labelLaw →
     s.cpt.trailer p = some r → r.handle = handle.toNat →
     let quiet := s.tbc.demand = 0 ∧ s.mfe.pt.state ≠ .failed ∧ s.mfe.pt.held ≤ 50
     let dependent := p = .drawbar ∧ s.cpt.towthru ≠ none
     let k := s.settled (4 + extra)
     (dependent → exec (.retire extra handle) s = .next (s.answered (4 + extra) ⟨0x12, .dependent, []⟩)) ∧
     (¬ dependent → r.state = .lost ∨ quiet →
       ∃ t, exec (.retire extra handle) s = .next t ∧
         State.sameButOrder s.nts.notices.length
           ((k.commit (s.cpt.withTrailer p none) [⟨p, .retired, r.handle, r.tag, 0⟩]).pend
             ⟨0x12, .ok, [handle, 0]⟩) t) ∧
     (¬ dependent → r.state ≠ .lost → ¬ quiet →
       let after : TrailerState := match r.state with
         | .pending _ => .retiring .pending
         | .active => .retiring .active
         | .degraded => .retiring .degraded
         | .retiring back => .retiring back
         | .lost => .lost
       ∃ t, exec (.retire extra handle) s = .next t ∧
         State.sameButOrder s.nts.notices.length
           ((k.commit (s.cpt.withTrailer p (some { r with state := after })) []).pend ⟨0x12, .ok, [handle, 5]⟩) t)) ∧
  (∀ (extra : Nat) (handle : Byte) (s : State), s.listens → s.cpt.labelLaw →
     ((∀ p r, s.cpt.trailer p = some r → r.handle = handle.toNat → ∀ back, r.state ≠ .retiring back) →
       exec (.restore extra handle) s = .next (s.answered (4 + extra) ⟨0x13, .notFound, []⟩)) ∧
     ∀ p r back, s.cpt.trailer p = some r → r.handle = handle.toNat → r.state = .retiring back →
       let after : TrailerState := match back with
         | .pending => .pending 30000
         | .active => .active
         | .degraded => .degraded
       let code : Byte := match back with
         | .pending => 1
         | .active => 2
         | .degraded => 3
       ∃ t, exec (.restore extra handle) s = .next t ∧
         State.sameButOrder s.nts.notices.length
           (((s.settled (4 + extra)).commit (s.cpt.withTrailer p (some { r with state := after })) []).pend
             ⟨0x13, .ok, [handle, code]⟩) t)

/-- LOOKUP finds a record by handle, by point or by tag and carries its handle, point, tag, state,
flags, return state and active fields, and changes nothing; a selector or a point outside the codes is
refused RANGE, and a key that matches no record NOT_FOUND (R24, R183). -/
def Obligations.LookupReadsTheRecord : Prop :=
  ∀ (extra : Nat) (selector : Byte) (key : Half) (s : State), s.listens → s.cpt.labelLaw →
    let answers (status : Status) (payload : List Byte) : Prop :=
      exec (.lookup extra selector key) s = .next (s.answered (6 + extra) ⟨0x14, status, payload⟩)
    let picks (point handle tag : Nat) : Prop :=
      (selector = 1#8 ∧ key.toNat = handle) ∨ (selector = 2#8 ∧ key.toNat = point) ∨
        (selector = 3#8 ∧ key ≠ 0#16 ∧ key.toNat = tag)
    let outside := (selector ≠ 1#8 ∧ selector ≠ 2#8 ∧ selector ≠ 3#8) ∨
      (selector = 2#8 ∧ key.toNat ≠ 1 ∧ key.toNat ≠ 2 ∧ key.toNat ≠ 3)
    (outside → answers .range []) ∧
    (¬ outside → (∀ r, s.cpt.hitch = some r → ¬ picks 1 r.handle r.tag) →
      (∀ p r, s.cpt.trailer p = some r → ¬ picks (pointCode p) r.handle r.tag) → answers .notFound []) ∧
    (∀ r, s.cpt.hitch = some r → picks 1 r.handle r.tag →
      answers .ok
        ([byte r.handle, 1, byte (r.tag / 256), byte r.tag, if r.state = .active then 2 else 1,
          byte (bit r.staged.isSome + 2 * bit r.fields.draft.isSome), 0] ++ r.fields.bytes)) ∧
    ∀ p r, s.cpt.trailer p = some r → picks (pointCode p) r.handle r.tag →
      answers .ok
        ([byte r.handle, byte (pointCode p), byte (r.tag / 256), byte r.tag, byte (stageCode (some r.stage)),
          byte (bit r.staged.isSome + 2 * bit r.fields.pas.isSome),
          match r.state with
          | .retiring .pending => 1
          | .retiring .active => 2
          | .retiring .degraded => 3
          | _ => 0] ++ r.fields.bytes)

/-- The pending timer's expiry removes a PENDING record with a notice TIMEOUT, which for HITCH changes
the limits in force, and a TOWTHRU record never runs the timer (R10, R23, R144). That the expiry where no
record is PENDING changes nothing is the model's reading, log 3. -/
def Obligations.PendingTimeoutRemovesTheRecord : Prop :=
  ∀ s : State, s.heldInReset = false →
    (∀ r timer, s.cpt.hitch = some r → r.state = .pending timer →
      ∃ t, exec (.pendingTimerExpiry .hitch) s = .next t ∧
        State.sameButOrder s.nts.notices.length
          (s.commit { s.cpt with hitch := none } [⟨.hitch, .timeout, r.handle, r.tag, 0⟩]).limitsChanged t) ∧
    (∀ r timer, s.cpt.drawbar = some r → r.state = .pending timer →
      ∃ t, exec (.pendingTimerExpiry .drawbar) s = .next t ∧
        State.sameButOrder s.nts.notices.length
          (s.commit { s.cpt with drawbar := none } [⟨.drawbar, .timeout, r.handle, r.tag, 0⟩]) t) ∧
    ((∀ r timer, s.cpt.hitch = some r → r.state ≠ .pending timer) →
      exec (.pendingTimerExpiry .hitch) s = .next s) ∧
    ((∀ r timer, s.cpt.drawbar = some r → r.state ≠ .pending timer) →
      exec (.pendingTimerExpiry .drawbar) s = .next s) ∧
    exec (.pendingTimerExpiry .towthru) s = .next s

/-- A debounced DETA or DETB edge moves the DRAWBAR record by the contacts after it, and a TOWTHRU
record with its lead: acceptance, DEGRADED, RECONNECTED, LOST, the return state of a RETIRING record,
or the end of a retirement, each with its notice. While the DRAWBAR entry is free the edge raises only
its INPUT notice (R9, R11, R12, R13, R35). -/
def Obligations.ContactsMoveTheTrailerRecords : Prop :=
  ∀ (i : DInput) (c : Candidate) (s : State), i = .detA ∨ i = .detB → s.heldInReset = false →
    (s.mfe.inputs.get i).candidate = some c →
    let s1 : State := { s with mfe := { s.mfe with
      inputs := s.mfe.inputs.set i { s.mfe.inputs.get i with level := c.level, candidate := none } } }
    let a := s1.present .detA
    let b := s1.present .detB
    (s.cpt.drawbar = none →
      exec (.debounceTimerExpiry i) s = .next (s1.offer (.input i c.level) [byte (inputCode i)])) ∧
    ∀ r, s.cpt.drawbar = some r →
      let d := drawbarTable r.stage a b
      let lost := decide (r.stage ≠ .lost) && decide (d.1 = some .lost)
      let w := s.cpt.towthru.map fun q => (q, towthruTable q.stage lost a b)
      ∃ table t,
        table.drawbar.map TrailerRecord.stage = d.1 ∧
        (∀ r', table.drawbar = some r' → r' = { r with state := r'.state } ∧ (r'.stage = r.stage → r' = r)) ∧
        table.towthru.map TrailerRecord.stage = w.bind (fun x => x.2.1) ∧
        (∀ q q', s.cpt.towthru = some q → table.towthru = some q' →
          q' = { q with state := q'.state } ∧ (q'.stage = q.stage → q' = q)) ∧
        table.hitch = s.cpt.hitch ∧ table.counter = s.cpt.counter ∧
        exec (.debounceTimerExpiry i) s = .next t ∧
        State.sameButOrder s.nts.notices.length
          ((s1.commit table
            ((d.2.toList.map fun o => ⟨.drawbar, o, r.handle, r.tag, stageCode d.1⟩) ++
              w.toList.flatMap fun x =>
                x.2.2.toList.map fun o => ⟨.towthru, o, x.1.handle, x.1.tag, stageCode x.2.1⟩)).offer
            (.input i c.level) [byte (inputCode i)]) t

/-- At a hitch-set arrival the HITCH record's staged copy becomes its active fields, whatever its state
and the sample's validity, with a notice APPLIED, and then a PENDING record whose arrival has a valid
position is accepted, with a notice ACCEPTED; the rest of the table stands (R8, R17). -/
def Obligations.HitchArrivalAcceptsTheImplement : Prop :=
  ∀ (p dl dr : Sample) (s : State), s.heldInReset = false →
    ∃ t, exec (.hitchSetArrival p dl dr) s = .next t ∧
      t.cpt.drawbar = s.cpt.drawbar ∧ t.cpt.towthru = s.cpt.towthru ∧ t.cpt.counter = s.cpt.counter ∧
      (s.cpt.hitch = none → t.cpt.hitch = none) ∧
      ∀ r, s.cpt.hitch = some r →
        t.cpt.hitch = some { r with
          fields := r.staged.getD r.fields
          staged := none
          state := if p.valid then .active else r.state } ∧
        (∀ timer, r.state = .pending timer → p.valid = true →
          s.nts.enabled (.coupling .hitch .accepted) = true →
            ∃ x ∈ t.nts.notices, x.report = .coupling .hitch .accepted ∧
              x.detail = [byte r.handle, byte (r.tag / 256), byte r.tag, 2, byte (t.cpt.mtow / 256), byte t.cpt.mtow]) ∧
        (r.staged ≠ none → r.state = .active ∨ p.valid = false →
          s.nts.enabled (.coupling .hitch .applied) = true →
            ∃ x ∈ t.nts.notices, x.report = .coupling .hitch .applied ∧
              x.detail = [byte r.handle, byte (r.tag / 256), byte r.tag, if r.state = .active then 2 else 1,
                byte (t.cpt.mtow / 256), byte t.cpt.mtow])

/-- A line arrival is supervised and then watched for retirements, both against the demand in force: a
gap of more than 150 lengthens the run, to 50 at most, and the fiftieth begins an episode with
LINE_FAULT; a smaller gap ends both; a FAILED channel leaves them; then, on a valid sample of 50 or less
with no demand, every RETIRING record is removed with RETIRED (R21, R169, R170, R171). That the row
RETIRE_WATCH is the watch alone, made on the held Pt exactly while the channel is OK, is the model's
reading, log 11. -/
def Obligations.LineArrivalSupervisesAndRetires : Prop :=
  let removes (u : State) : State :=
    let out (p : Point) (e : Option TrailerRecord) : List CplReport :=
      match e with
      | some r => if r.isRetiring then [⟨p, .retired, r.handle, r.tag, 0⟩] else []
      | none => []
    u.commit
      { u.cpt with drawbar := u.cpt.drawbar.filter fun r => !r.isRetiring
                   towthru := u.cpt.towthru.filter fun r => !r.isRetiring }
      (out .drawbar u.cpt.drawbar ++ out .towthru u.cpt.towthru)
  (∀ (pt : Sample) (s : State), s.heldInReset = false →
    ∃ c t, Chan.follows 1500 pt s.mfe.pt c ∧ exec (.lineArrival pt) s = .next t ∧
      let gap := max c.held s.tbc.demand - min c.held s.tbc.demand
      let run := if c.state = .failed then s.tbc.faultRun else if 150 < gap then min 50 (s.tbc.faultRun + 1) else 0
      let begins := decide (c.state ≠ .failed) && decide (150 < gap) && decide (50 ≤ run) && !s.tbc.faultEpisode
      let u : State := { s with
        mfe := { s.mfe with pt := c }
        tbc := { s.tbc with
          faultRun := run
          faultEpisode := if c.state = .failed then s.tbc.faultEpisode
            else if 150 < gap then s.tbc.faultEpisode || begins else false } }
      let v := if begins then
          u.offer (.trailer .lineFault)
            [byte (s.tbc.demand / 256), byte s.tbc.demand, byte (c.held / 256), byte c.held, byte c.state.code,
              byte (s.tbc.case.code + 4 * bit (decide (s.tbc.demand < c.held)))]
        else u
      State.sameButOrder s.nts.notices.length
        (if pt.valid = true ∧ c.held ≤ 50 ∧ s.tbc.demand = 0 then removes v else v) t) ∧
  ∀ s : State, s.heldInReset = false →
    (s.mfe.pt.state = .ok → s.mfe.pt.held ≤ 50 → s.tbc.demand = 0 →
      ∃ t, exec .retireWatch s = .next t ∧ State.sameButOrder s.nts.notices.length (removes s) t) ∧
    (s.mfe.pt.state ≠ .ok ∨ 50 < s.mfe.pt.held ∨ s.tbc.demand ≠ 0 → exec .retireWatch s = .next s)

/-! ## The Measurement Front End -/

/-- A valid sample is clamped into its channel's range and held, and an invalid one leaves the held
value and advances the channel toward FAILED, on each of the ten channels; an arrival moves no other
channel and no discrete input (R29, R30, R31). -/
def Obligations.ArrivalsUpdateTheirChannels : Prop :=
  ∀ s : State, s.heldInReset = false →
    (∀ ne no, ∃ t, exec (.speedPairArrival ne no) s = .next t ∧ Chan.follows 3500 ne s.mfe.ne t.mfe.ne ∧
      Chan.follows 4000 no s.mfe.no t.mfe.no ∧ t.mfe = { s.mfe with ne := t.mfe.ne, no := t.mfe.no }) ∧
    (∀ vg, ∃ t, exec (.groundSpeedArrival vg) s = .next t ∧ Chan.follows 8000 vg s.mfe.vg t.mfe.vg ∧
      t.mfe = { s.mfe with vg := t.mfe.vg }) ∧
    (∀ p dl dr, ∃ t, exec (.hitchSetArrival p dl dr) s = .next t ∧ Chan.follows 1000 p s.mfe.p t.mfe.p ∧
      Chan.follows 1000 dl s.mfe.dl t.mfe.dl ∧ Chan.follows 1000 dr s.mfe.dr t.mfe.dr ∧
      t.mfe = { s.mfe with p := t.mfe.p, dl := t.mfe.dl, dr := t.mfe.dr }) ∧
    (∀ bl br, ∃ t, exec (.pedalSetArrival bl br) s = .next t ∧ Chan.follows 1500 bl s.mfe.bl t.mfe.bl ∧
      Chan.follows 1500 br s.mfe.br t.mfe.br ∧ t.mfe = { s.mfe with bl := t.mfe.bl, br := t.mfe.br }) ∧
    (∀ pc, ∃ t, exec (.chargeArrival pc) s = .next t ∧ Chan.follows 300 pc s.mfe.pc t.mfe.pc ∧
      t.mfe = { s.mfe with pc := t.mfe.pc }) ∧
    ∀ pt, ∃ t, exec (.lineArrival pt) s = .next t ∧ Chan.follows 1500 pt s.mfe.pt t.mfe.pt ∧
      t.mfe = { s.mfe with pt := t.mfe.pt }

/-- A raw level that comes to differ from the debounced level starts the 20 ms timer with it as
candidate; one that returns to the debounced level stops the timer. The timer's expiry makes the
candidate the debounced level, which is an edge, delivered, and offered as an INPUT notice; each input
is debounced on its own (R34, R35). That an expiry with no timer running changes nothing is the model's
reading, log 3. -/
def Obligations.InputsAreDebounced : Prop :=
  ∀ (i : DInput) (s : State), s.heldInReset = false →
    (∀ raw, (s.mfe.inputs.get i).raw = raw → exec (.rawInputChange i raw) s = .next s) ∧
    (∀ raw, (s.mfe.inputs.get i).raw ≠ raw → (s.mfe.inputs.get i).level ≠ raw →
      exec (.rawInputChange i raw) s =
        .next { s with mfe := { s.mfe with
          inputs := s.mfe.inputs.set i { s.mfe.inputs.get i with raw := raw, candidate := some ⟨raw, 20⟩ } } }) ∧
    (∀ raw, (s.mfe.inputs.get i).raw ≠ raw → (s.mfe.inputs.get i).level = raw →
      exec (.rawInputChange i raw) s =
        .next { s with mfe := { s.mfe with
          inputs := s.mfe.inputs.set i { s.mfe.inputs.get i with raw := raw, candidate := none } } }) ∧
    ((s.mfe.inputs.get i).candidate = none → exec (.debounceTimerExpiry i) s = .next s) ∧
    ∀ c, (s.mfe.inputs.get i).candidate = some c →
      ∃ t, exec (.debounceTimerExpiry i) s = .next t ∧
        t.mfe = { s.mfe with
          inputs := s.mfe.inputs.set i { s.mfe.inputs.get i with level := c.level, candidate := none } } ∧
        (s.nts.enabled (.input i c.level) = true →
          ∃ x ∈ t.nts.notices, x.report = .input i c.level ∧ x.detail = [byte (inputCode i)])

/-! ## The Traction Estimator -/

/-- A speed pair forms the wheel speed from the held No and the measured ratio from the pair, and
withdraws a valid slip whose conditions stop holding; a ground-speed arrival forms slip; a pedal set
forms the braking flag and Bt by which pedals have failed, and begins a pedal-loss episode where both
have (R37 to R43). SET_TRACTION clamps its three parameters and puts them in force at once, recomputes the
wheel speed from the held No, and then withdraws a valid slip whose No is FAILED or whose wheel speed is
below the new Vmin, which is a slip update (R45). -/
def Obligations.TractionFollowsItsArrivalsAndParameters : Prop :=
  (∀ s : State, s.heldInReset = false →
     (∀ ne no, ∃ t, exec (.speedPairArrival ne no) s = .next t ∧
       t.tre.vw = min 8000 (t.mfe.no.held * s.tre.kw / 4096) ∧
       t.tre.rm = (if ne.valid = true ∧ no.valid = true ∧ 500 ≤ t.mfe.ne.held then
         some (t.mfe.no.held * 1000 / t.mfe.ne.held) else none) ∧
       (t.tre.slip, t.tre.slipValid) =
         (if s.tre.slipValid = true ∧ (t.mfe.no.state = .failed ∨ t.tre.vw < s.tre.vmin) then (0, false)
          else (s.tre.slip, s.tre.slipValid)) ∧
       t.tre.kw = s.tre.kw ∧ t.tre.vmin = s.tre.vmin ∧ t.tre.bth = s.tre.bth ∧
       t.tre.braking = s.tre.braking ∧ t.tre.bt = s.tre.bt ∧ t.tre.pedalLoss = s.tre.pedalLoss) ∧
     (∀ vg, ∃ t, exec (.groundSpeedArrival vg) s = .next t ∧
       (t.tre.slip, t.tre.slipValid) =
         (if t.mfe.no.state = .failed ∨ t.mfe.vg.state = .failed then (0, false)
          else if s.tre.vw < s.tre.vmin then (0, false)
          else if s.tre.vw ≤ t.mfe.vg.held then (0, true)
          else ((s.tre.vw - t.mfe.vg.held) * 1000 / s.tre.vw, true)) ∧
       t.tre = { s.tre with slip := t.tre.slip, slipValid := t.tre.slipValid, loadIndex := t.tre.loadIndex }) ∧
     ∀ bl br, ∃ t, exec (.pedalSetArrival bl br) s = .next t ∧
       let l := t.mfe.bl
       let r := t.mfe.br
       let detected : Prop :=
         (l.state ≠ .failed ∧ r.state ≠ .failed ∧ s.tre.bth ≤ l.held ∧ s.tre.bth ≤ r.held) ∨
         (l.state = .failed ∧ r.state ≠ .failed ∧ s.tre.bth ≤ r.held) ∨
         (l.state ≠ .failed ∧ r.state = .failed ∧ s.tre.bth ≤ l.held)
       (t.tre.braking = true ↔ detected) ∧
       (detected → t.tre.bt = max (if l.state = .failed then 0 else l.held) (if r.state = .failed then 0 else r.held)) ∧
       (¬ detected → t.tre.bt = 0) ∧
       (t.tre.pedalLoss = true ↔ l.state = .failed ∧ r.state = .failed) ∧
       (t.tre.pedalLoss = true → s.tre.pedalLoss = false → s.nts.enabled (.trailer .sensor) = true →
         ∃ x ∈ t.nts.notices, x.report = .trailer .sensor ∧
           x.detail = [byte (t.tbc.demand / 256), byte t.tbc.demand, byte (t.mfe.pt.held / 256),
             byte t.mfe.pt.held, byte t.mfe.pt.state.code, 0])) ∧
  (∀ (extra : Nat) (kw vmin bth : Half) (s : State), s.listens →
     let kw' := max 1024 (min 16383 kw.toNat)
     let vmin' := max 50 (min 500 vmin.toNat)
     let bth' := max 50 (min 500 bth.toNat)
     let vw' := min 8000 (s.mfe.no.held * kw' / 4096)
     let k := s.settled (9 + extra)
     let u : State := { k with tre := { k.tre with kw := kw', vmin := vmin', bth := bth', vw := vw' } }
     let v := if s.tre.slipValid = true ∧ (s.mfe.no.state = .failed ∨ vw' < vmin') then
         State.slipUpdate { u with tre := { u.tre with slip := 0, slipValid := false } }
       else u
     ∃ t, exec (.setTraction extra kw vmin bth) s = .next t ∧
       State.sameButOrder s.nts.notices.length
         (v.pend ⟨0x70, .ok, [byte (kw' / 256), byte kw', byte (vmin' / 256), byte vmin', byte (bth' / 256),
           byte bth']⟩) t ∧
       t.tre.kw = kw' ∧ t.tre.vmin = vmin' ∧ t.tre.bth = bth' ∧ t.tre.vw = vw' ∧
       t.tre.braking = s.tre.braking ∧ t.tre.bt = s.tre.bt)

/-! ## The Ratio Map -/

/-- DEFINE_RATIO is refused by the first check that fails; otherwise the entry is written whole at its
index, the others stand, and its usability is formed from its withhold bit and its packs. The ordering
check takes the nearest entries of the same direction on either side (R48, R49, R50, R54). -/
def Obligations.DefineRatioWritesTheEntry : Prop :=
  ∀ (extra : Nat) (index direction speed range : Byte) (rn : Half) (s : State), s.listens → s.ratioLaw →
    let i := index.toNat
    let refuses (status : Status) : Prop :=
      exec (.defineRatio extra index direction speed range rn) s =
        .next (s.answered (9 + extra) ⟨0x20, status, []⟩)
    let coded := 1 ≤ i ∧ i ≤ 32 ∧ 1 ≤ direction.toNat ∧ direction.toNat ≤ 2 ∧ 3 ≤ speed.toNat ∧ speed.toNat ≤ 8 ∧
      9 ≤ range.toNat ∧ range.toNat ≤ 11 ∧ 1 ≤ rn.toNat ∧ rn.toNat ≤ 1500
    let fitted := s.straps.gearset = .six ∨ speed.toNat ≤ 6
    let busy := i = s.she.pr ∨ i = s.she.nr ∨ ∃ r, s.she.record = some r ∧ i = r.dest
    let double := ∃ x ∈ s.rmp.entries, x.index ≠ i ∧ x.direction.code = direction.toNat ∧
      x.speed.pack.code = speed.toNat ∧ x.range.pack.code = range.toNat
    let same (x : RatioEntry) : Prop := x ∈ s.rmp.entries ∧ x.direction.code = direction.toNat ∧ x.index ≠ i
    let ordered := (∀ x, same x → x.index < i → (∀ y, same y → y.index < i → y.index ≤ x.index) → x.rn < rn.toNat) ∧
      ∀ x, same x → i < x.index → (∀ y, same y → i < y.index → x.index ≤ y.index) → rn.toNat < x.rn
    (¬ coded → refuses .range) ∧
    (coded → ¬ fitted → refuses .range) ∧
    (coded → fitted → busy → refuses .busy) ∧
    (coded → fitted → ¬ busy → double → refuses .duplicate) ∧
    (coded → fitted → ¬ busy → ¬ double → ¬ ordered → refuses .order) ∧
    (coded → fitted → ¬ busy → ¬ double → ordered →
      ∃ e entries, e.index = i ∧ e.direction.code = direction.toNat ∧ e.speed.pack.code = speed.toNat ∧
        e.range.pack.code = range.toNat ∧ e.rn = rn.toNat ∧
        (e.usable = true ↔ s.rmp.withheld.getLsbD (i - 1) = false ∧ ∀ p ∈ e.packs, (s.packs.get p).state ≠ .fault) ∧
        (entries.map fun x => x.index).Pairwise (· < ·) ∧
        (∀ x, x ∈ entries ↔ x = e ∨ (x ∈ s.rmp.entries ∧ x.index ≠ i)) ∧
        exec (.defineRatio extra index direction speed range rn) s =
          .next (State.answered { s with rmp := { s.rmp with entries := entries } } (9 + extra)
            ⟨0x20, .ok, [index, direction, speed, range, byte (rn.toNat / 256), byte rn.toNat,
              byte (bit e.usable)]⟩))

/-- CLEAR_RATIO is refused by the first check that fails; otherwise the entry is undefined, and the
withhold bit and the other entries stand (R51). READ_RATIO changes nothing: it refuses an index above 32,
reports neutral as usable with no packs, and reports of any other index its defined part, withhold bit,
usability, packs, Rn and every reason it is unusable (R52). That neutral is reported as not defined, with no reason, is the
model's choice, log 31. -/
def Obligations.ClearAndReadRatioActOnTheEntry : Prop :=
  (∀ (extra : Nat) (index : Byte) (s : State), s.listens →
     let i := index.toNat
     let refuses (status : Status) : Prop :=
       exec (.clearRatio extra index) s = .next (s.answered (4 + extra) ⟨0x21, status, []⟩)
     let coded := 1 ≤ i ∧ i ≤ 32
     let defined := ∃ e ∈ s.rmp.entries, e.index = i
     let busy := i = s.she.pr ∨ i = s.she.nr ∨ ∃ r, s.she.record = some r ∧ i = r.dest
     (¬ coded → refuses .range) ∧
     (coded → ¬ defined → refuses .notFound) ∧
     (coded → defined → busy → refuses .busy) ∧
     (coded → defined → ¬ busy →
       exec (.clearRatio extra index) s =
         .next (State.answered
           { s with rmp := { s.rmp with entries := s.rmp.entries.filter fun e => decide (e.index ≠ i) } }
           (4 + extra) ⟨0x21, .ok, [index]⟩))) ∧
  (∀ (extra : Nat) (index : Byte) (s : State), s.listens → s.ratioLaw →
     let i := index.toNat
     let answers (status : Status) (payload : List Byte) : Prop :=
       exec (.readRatio extra index) s = .next (s.answered (4 + extra) ⟨0x22, status, payload⟩)
     let held := bit (s.rmp.withheld.getLsbD (i - 1))
     let faulty (p : PackId) : Nat := bit (decide ((s.packs.get p).state = .fault))
     (32 < i → answers .range []) ∧
     (i = 0 → answers .ok [0, 4, 0, 0, 0, 0, 0, 0]) ∧
     (1 ≤ i → i ≤ 32 → (∀ e ∈ s.rmp.entries, e.index ≠ i) →
       answers .ok [index, byte (2 * held), 0, 0, 0, 0, 0, byte (1 + 2 * held)]) ∧
     ∀ e ∈ s.rmp.entries, e.index = i →
       answers .ok [index, byte (1 + 2 * held + 4 * bit e.usable), byte e.direction.code, byte e.speed.pack.code,
         byte e.range.pack.code, byte (e.rn / 256), byte e.rn,
         byte (2 * held + 4 * faulty e.direction.pack + 8 * faulty e.speed.pack + 16 * faulty e.range.pack)])

/-- WITHHOLD sets and UNWITHHOLD clears the withhold bit of every index named; usability is formed again
for every index whose bit changed, and the reply carries the mask that results (R53, R54). -/
def Obligations.WithholdChangesUsability : Prop :=
  ∀ (extra : Nat) (mask : Quad) (s : State), s.listens →
    let leaves (m : Quad) : State :=
      { s with rmp := { entries := s.rmp.entries.map fun e =>
                          if s.rmp.withheld.getLsbD (e.index - 1) = m.getLsbD (e.index - 1) then e
                          else { e with usable := !m.getLsbD (e.index - 1) &&
                                   decide (∀ p ∈ e.packs, (s.packs.get p).state ≠ .fault) }
                        withheld := m } }
    exec (.withhold extra mask) s =
      .next ((leaves (s.rmp.withheld ||| mask)).answered (7 + extra)
        ⟨0x23, .ok, Quad.bytes (s.rmp.withheld ||| mask)⟩) ∧
    exec (.unwithhold extra mask) s =
      .next ((leaves (s.rmp.withheld &&& ~~~mask)).answered (7 + extra)
        ⟨0x24, .ok, Quad.bytes (s.rmp.withheld &&& ~~~mask)⟩)

/-! ## The packs -/

/-- A pack's command by its state: 0 in RELEASED and FAULT, the active Pf in FILL, the active Pl in
LOCKED, the Calibration Unit's step pressure in CAL_STEP, and the two ramps in RISING and FALLING (R60,
R77, R78, R79). READ_PACK refuses a pack outside the twelve and SP5 and SP6 under GEARSET 4, and otherwise
carries the active fields, the at-limit count, the pack state, the present command, the fault cause and
the staged flag, and changes nothing (R59). -/
def Obligations.PackCommandsFollowTheStateAndAreRead : Prop :=
  (∀ (s : State) (p : PackId),
     let f := (s.packs.get p).active
     let c := s.packCommand p
     match (s.packs.get p).state with
     | .released => c = 0
     | .fault => c = 0
     | .fill => c = f.pf
     | .locked => c = f.pl
     | .calStep => c = 20 + s.cau.stepCount
     | .rising tr t => (t < tr → c = f.pf + (f.pl - f.pf) * t / tr) ∧ (tr ≤ t → c = f.pl)
     | .falling c0 tf t => (t < tf → c = c0 * (tf - t) / tf) ∧ (tf ≤ t → c = 0)) ∧
  (∀ (extra : Nat) (pack : Byte) (s : State), s.listens →
     let answers (status : Status) (payload : List Byte) : Prop :=
       exec (.readPack extra pack) s = .next (s.answered (4 + extra) ⟨0x30, status, payload⟩)
     let absent := s.straps.gearset = .four ∧ (pack = 7#8 ∨ pack = 8#8)
     (pack.toNat = 0 ∨ 12 < pack.toNat ∨ absent → answers .range []) ∧
     ∀ p, PackId.code p = pack.toNat → ¬ absent →
       let r := s.packs.get p
       answers .ok [pack, byte r.active.pf, byte (r.active.tf / 256), byte r.active.tf, byte (r.active.tfMin / 256),
         byte r.active.tfMin, byte (r.active.tfMax / 256), byte r.active.tfMax, byte r.active.pl, byte r.atLimit,
         byte r.state.code, byte (s.packCommand p), byte r.cause.code, byte (bit r.staged.isSome)])

/-- AMEND_PACK clamps the five fields, refuses a set whose clamped bounds cross, and stages the rest,
changing nothing else of the pack in any pack state (R57). CLEAR_FAULT refuses a pack that is absent and
one that is not in FAULT; a pack in FAULT enters RELEASED with cause NONE, its fields, count and staged
copy standing, and the usability of every entry that uses it is formed again (R62). -/
def Obligations.AmendPackStagesAndClearFaultReleases : Prop :=
  (∀ (extra : Nat) (pack pf : Byte) (tf tfMin tfMax : Half) (pl : Byte) (s : State), s.listens →
     let refused := exec (.amendPack extra pack pf tf tfMin tfMax pl) s =
       .next (s.answered (12 + extra) ⟨0x31, .range, []⟩)
     let absent := s.straps.gearset = .four ∧ (pack = 7#8 ∨ pack = 8#8)
     let lo := max 10 (min 400 tfMin.toNat)
     let hi := max 10 (min 400 tfMax.toNat)
     let f : PackFields :=
       ⟨max 5 (min 80 pf.toNat), max lo (min hi tf.toNat), lo, hi, max 100 (min 250 pl.toNat)⟩
     (pack.toNat = 0 ∨ 12 < pack.toNat ∨ absent ∨ hi < lo → refused) ∧
     ∀ p, PackId.code p = pack.toNat → ¬ absent → lo ≤ hi →
       exec (.amendPack extra pack pf tf tfMin tfMax pl) s =
         .next (State.answered { s with packs := s.packs.set p { s.packs.get p with staged := some f } } (12 + extra)
           ⟨0x31, .ok, [pack, byte f.pf, byte (f.tf / 256), byte f.tf, byte (f.tfMin / 256), byte f.tfMin,
             byte (f.tfMax / 256), byte f.tfMax, byte f.pl]⟩)) ∧
  (∀ (extra : Nat) (pack : Byte) (s : State), s.listens →
     let refuses (status : Status) : Prop :=
       exec (.clearFault extra pack) s = .next (s.answered (4 + extra) ⟨0x32, status, []⟩)
     let absent := s.straps.gearset = .four ∧ (pack = 7#8 ∨ pack = 8#8)
     (pack.toNat = 0 ∨ 12 < pack.toNat ∨ absent → refuses .range) ∧
     ∀ p, PackId.code p = pack.toNat → ¬ absent →
       ((s.packs.get p).state ≠ .fault → refuses .busy) ∧
       ((s.packs.get p).state = .fault →
         let packs := s.packs.set p { s.packs.get p with state := .released, cause := .none }
         exec (.clearFault extra pack) s =
           .next (State.answered
             { s with
               packs := packs
               rmp := { s.rmp with entries := s.rmp.entries.map fun e =>
                 if p ∈ e.packs then
                   { e with usable := !s.rmp.withheld.getLsbD (e.index - 1) &&
                       decide (∀ q ∈ e.packs, (packs.get q).state ≠ .fault) }
                 else e } }
             (4 + extra) ⟨0x32, .ok, [pack, 0]⟩)))

/-! ## The Fill Supply Arbiter -/

/-- SET_SUPPLY clamps Pc_min into 80 to 200 and puts it in force, and evaluates nothing (R68). A charge
arrival judges the charge state by the channel and the threshold; one that changes it offers a SUPPLY
notice, starts or stops the timer of a waiting shift, aborts a waiting calibration when the state goes
LOW, and makes the grant decision when it goes to OK (R66, R67, R98, R126). -/
def Obligations.ChargeStateFollowsPressureAndThreshold : Prop :=
  (∀ (extra : Nat) (pcMin : Byte) (s : State), s.listens →
     exec (.setSupply extra pcMin) s =
       .next (State.answered { s with fsa := { s.fsa with pcMin := max 80 (min 200 pcMin.toNat) } } (4 + extra)
         ⟨0x71, .ok, [byte (max 80 (min 200 pcMin.toNat))]⟩)) ∧
  (∀ (pc : Sample) (s : State), s.heldInReset = false →
     ∃ c t, Chan.follows 300 pc s.mfe.pc c ∧ exec (.chargeArrival pc) s = .next t ∧
       let charge : ChargeState :=
         if c.state = .failed then .low
         else if c.held < s.fsa.pcMin then .low
         else if s.fsa.pcMin + 10 ≤ c.held then .ok
         else s.fsa.charge
       let u : State := { s with mfe := { s.mfe with pc := c }, fsa := { s.fsa with charge := charge } }
       (charge = s.fsa.charge → t = u) ∧
       (charge ≠ s.fsa.charge →
         let v := u.offer (.supply charge) [byte charge.code, byte (c.held / 256), byte c.held, byte c.state.code]
         let w := if s.fsa.waiting.shift = true ∧ s.she.state = .supplyWait then
             { v with she := { v.she with timer := if charge = .low then some 2000 else none } }
           else v
         State.sameButOrder s.nts.notices.length
           (if charge = .ok then w.grantDecision else if s.fsa.waiting.cal then w.abortCal .supply else w) t))

/-- The grant decision: with the supply free, the charge state OK and a requester waiting, the waiter of
highest priority leaves the set and becomes the holder, and its packs enter FILL at their staged fields,
each in the fill list. A shift then fills for the longest of its fill times, with Ne_ref and the draft
latch taken; the front drive fills FDP; a calibration fills its two partners. In any other case nothing
changes. The arbiter takes the request of a requester that neither waits nor holds and makes the decision
at once; any other request changes nothing (R58, R70, R71, R72, R99, R123, R137). That the row
FILL_SUPPLY_GRANT is this decision made again is the model's reading, log 10. -/
def Obligations.TheGrantGoesToTheFirstWaiter : Prop :=
  (∀ (s : State) (r : Requester),
    let waits := match r with
      | .shift => s.fsa.waiting.shift
      | .front => s.fsa.waiting.front
      | .cal => s.fsa.waiting.cal
    let joined : Waiting := match r with
      | .shift => { s.fsa.waiting with shift := true }
      | .front => { s.fsa.waiting with front := true }
      | .cal => { s.fsa.waiting with cal := true }
    (waits = true ∨ s.fsa.holder = some r → s.requestSupply r = s) ∧
    (waits = false → s.fsa.holder ≠ some r →
      s.requestSupply r = State.grantDecision { s with fsa := { s.fsa with waiting := joined } }) ∧
    (s.heldInReset = false → exec .fillSupplyGrant s = .next s.grantDecision)) ∧
  ∀ s : State, s.heldInReset = false → s.drivelineLaw →
    let filled (ps : List PackId) (t : State) : Prop :=
      (∀ p ∈ ps, p ∈ t.fsa.fillList) ∧ (∀ p ∈ t.fsa.fillList, p ∈ ps) ∧
      ∀ p, t.packs.get p =
        if p ∈ ps then
          { s.packs.get p with
            active := (s.packs.get p).staged.getD (s.packs.get p).active
            atLimit := if (s.packs.get p).staged.isSome then 0 else (s.packs.get p).atLimit
            staged := none
            state := .fill }
        else s.packs.get p
    let free := s.fsa.holder = none ∧ s.fsa.charge = .ok
    (¬ free ∨ s.fsa.waiting = ⟨false, false, false⟩ → exec .fillSupplyGrant s = .next s) ∧
    (free → s.fsa.waiting.shift = true → ∀ r, s.she.record = some r →
      ∃ t, exec .fillSupplyGrant s = .next t ∧ filled r.onComing t ∧
        t.fsa = { s.fsa with holder := some .shift, fillList := t.fsa.fillList
                             waiting := { s.fsa.waiting with shift := false } } ∧
        (∃ time, t.she = { s.she with state := .fill, timer := some time, latchSignal := true
                                      record := some { r with neRef := s.mfe.ne.held } } ∧
          (∀ p ∈ r.onComing, (t.packs.get p).active.tf ≤ time) ∧
          ∃ p ∈ r.onComing, (t.packs.get p).active.tf = time) ∧
        t.htc = { s.htc with latch := some s.htc.formed } ∧
        t.tre = { s.tre with loadIndex := min 255 (s.cpt.mtow / 5 + s.htc.formed.value / 20) } ∧
        t.nts = s.nts ∧ t.frd = s.frd ∧ t.cau = s.cau ∧ t.rmp = s.rmp ∧ t.mfe = s.mfe ∧ t.tbc = s.tbc ∧
        t.cpt = s.cpt ∧ t.rlk = s.rlk) ∧
    (free → s.fsa.waiting.shift = false → s.fsa.waiting.front = true →
      ∃ t, exec .fillSupplyGrant s = .next t ∧ filled [.fdp] t ∧
        t = { s with
          packs := t.packs
          fsa := { s.fsa with holder := some .front, fillList := [.fdp]
                              waiting := { s.fsa.waiting with front := false } }
          frd := { s.frd with phase := .filling, fillTimer := some t.packs.fdp.active.tf } }) ∧
    (free → s.fsa.waiting.shift = false → s.fsa.waiting.front = false → ∀ j, s.fsa.waiting.cal = true →
      s.cau.job = some j →
      ∃ t, exec .fillSupplyGrant s = .next t ∧ filled [j.partner1, j.partner2] t ∧
        t = { s with
          packs := t.packs
          fsa := { s.fsa with holder := some .cal, fillList := [j.partner1, j.partner2]
                              waiting := { s.fsa.waiting with cal := false } }
          cau := { s.cau with job := some { j with
            phase := .filling
            fill1 := some (t.packs.get j.partner1).active.tf
            fill2 := some (t.packs.get j.partner2).active.tf } } })

/-! ## The Shift Engine -/

/-- A step decision chooses its destination by the first row of R89 that applies, and starts a shift to
it: the engine enters SUPPLY_WAIT with the shift record formed, its packs divided three ways, and
requests the supply; or, with none to choose, settles BLOCKED; or, toward neutral, releases the packs of
PR and enters INTERVAL (R89 to R98). That the record's Ne_ref, load index and times are 0 until the spec
fills them is the model's choice, log 29. -/
def Obligations.StepDecisionChoosesTheDestination : Prop :=
  ∀ s : State, s.ratioLaw → s.presentLaw → s.she.pr ≠ s.she.nr →
    (s.she.nr = 0 → ∃ packs : PackFile,
      (∀ p, packs.get p =
        if p ∈ s.packsOf s.she.pr ∧ (s.packs.get p).state ≠ .fault then
          { s.packs.get p with state := .released }
        else s.packs.get p) ∧
      s.stepDecision =
        { s with packs := packs
                 she := { s.she with pr := 0, state := .interval, timer := some s.she.profile.interval } }) ∧
    ∀ target, s.she.nr ≠ 0 → s.rmp.entry s.she.nr = some target →
      let toward (b : RatioEntry) : Prop := b ∈ s.rmp.entries ∧ b.direction = target.direction ∧ b.usable = true
      let below (b : RatioEntry) : Prop := toward b ∧ b.index ≤ s.she.nr
      let starts (b : RatioEntry) : Prop := below b ∧ b.rn ≤ s.she.profile.rstart
      let off (b : RatioEntry) : Nat :=
        let expected := b.rn * s.mfe.ne.held / 1000 * s.tre.kw / 4096
        max expected s.mfe.vg.held - min expected s.mfe.vg.held
      let between (x : RatioEntry) : Prop :=
        x ∈ s.rmp.entries ∧ x.direction = target.direction ∧
          ((s.she.pr < x.index ∧ x.index ≤ s.she.nr) ∨ (s.she.nr ≤ x.index ∧ x.index < s.she.pr))
      let place (b : RatioEntry) : Nat :=
        (s.rmp.entries.filter fun x => decide (x.direction = target.direction) &&
          (decide (s.she.pr < x.index ∧ x.index ≤ b.index) || decide (b.index ≤ x.index ∧ x.index < s.she.pr))).length
      let reached (b : RatioEntry) : Prop := between b ∧ b.usable = true ∧ place b ≤ s.she.profile.span
      let present := s.rmp.entry s.she.pr
      let chosen (b : RatioEntry) (kind : ShiftKind) : Prop :=
        if s.she.pr = 0 then
          if s.mfe.vg.held < 300 then
            kind = .startOff ∧ starts b ∧ ∀ x, starts x → x.index ≤ b.index
          else
            kind = .rolling ∧ below b ∧ ∀ x, below x → off b < off x ∨ (off b = off x ∧ b.index ≤ x.index)
        else
          ∃ a, present = some a ∧
            if a.direction = target.direction then
              reached b ∧ (∀ x, reached x → place x ≤ place b) ∧
                kind = if a.rn < b.rn then .upshift else .downshift
            else kind = .directionChange ∧ b = target ∧ target.usable = true
      (∀ b kind, chosen b kind →
        s.stepDecision =
          State.requestSupply
            { s with she := { s.she with
                state := .supplyWait
                timer := if s.fsa.charge = .low then some 2000 else none
                record := some
                  { origin := s.she.pr, dest := b.index, kind := kind
                    offGoing := (s.packsOf s.she.pr).filter fun p => !b.packs.contains p
                    onComing := b.packs.filter fun p => !(s.packsOf s.she.pr).contains p
                    common := b.packs.filter fun p => (s.packsOf s.she.pr).contains p
                    neRef := 0, loadIndex := 0, handover := 0, sinceHandover := 0, confirmRun := 0
                    onset := none } } }
            .shift) ∧
      ((∀ b kind, ¬ chosen b kind) →
        s.stepDecision =
          State.offer
            { s with she := { s.she with nr := s.she.pr, state := .settled, timer := none } }
            (.shift .blocked)
            [byte s.she.pr, byte s.she.pr, byte s.she.nr, 0, 0, 0])

/-- SELECT and STEP are refused by the first check that fails. Accepted, they set NR and clear the halt
flag, and in SETTLED with SHIFT_HOLD clear take the step decision where PR differs; STEP counts over the
defined entries of its direction from PR, from the bottom while PR is 0, and stops at the end of the
list (R84, R85, R86). -/
def Obligations.SelectAndStepSetTheTarget : Prop :=
  ∀ (extra : Nat) (x : Byte) (s : State), s.listens →
    let ready := s.present .park = false ∧ s.present .seat = true
    let answers (i : Instr) (code : Byte) (status : Status) : Prop :=
      exec i s = .next (s.answered (4 + extra) ⟨code, status, []⟩)
    let accepts (i : Instr) (code : Byte) (nr : Nat) : Prop :=
      let k := s.settled (4 + extra)
      let u : State := { k with she := { k.she with nr := nr, halt := false } }
      let v := if s.she.state = .settled ∧ s.she.pr ≠ nr ∧ s.rlk.shiftHold = false then u.stepDecision else u
      ∃ t, exec i s = .next t ∧
        State.sameButOrder s.nts.notices.length
          (v.pend ⟨code, .ok, [byte v.she.pr, byte v.she.nr, byte v.she.state.code]⟩) t
    let named := x.toNat = 0 ∨ (x.toNat ≤ 32 ∧ (s.rmp.entry x.toNat).isSome = true)
    let slow := x.toNat = 0 ∨ ∀ e, s.rmp.entry x.toNat = some e →
      e.direction = s.she.lastDir ∨ s.mfe.vg.held ≤ s.she.profile.shuttle
    (¬ named → answers (.select extra x) 0x40 .range) ∧
    (named → s.she.state = .calHold → answers (.select extra x) 0x40 .busy) ∧
    (named → s.she.state ≠ .calHold → ¬ ready → answers (.select extra x) 0x40 .interlock) ∧
    (named → s.she.state ≠ .calHold → ready → ¬ slow → answers (.select extra x) 0x40 .speed) ∧
    (named → s.she.state ≠ .calHold → ready → slow → accepts (.select extra x) 0x40 x.toNat) ∧
    let n := x.toInt
    let counted := (-8 ≤ n ∧ n ≤ -1) ∨ (1 ≤ n ∧ n ≤ 8)
    let direction := if s.she.pr = 0 then s.she.lastDir else s.directionOf s.she.pr
    let places := (s.rmp.entries.filter fun e => decide (e.direction = direction)).map fun e => e.index
    let up := places.filter fun i => decide (s.she.pr < i)
    let down := places.filter fun i => decide (i < s.she.pr)
    let nr :=
      if s.she.pr = 0 then
        if 0 < n then places.getD (n.toNat - 1) (places.getLast?.getD 0) else 0
      else if 0 < n then up.getD (n.toNat - 1) (up.getLast?.getD s.she.pr)
      else down.reverse.getD ((-n).toNat - 1) (down.head?.getD s.she.pr)
    (¬ counted → answers (.step extra x) 0x41 .range) ∧
    (counted → s.she.state = .calHold → answers (.step extra x) 0x41 .busy) ∧
    (counted → s.she.state ≠ .calHold → ¬ ready → answers (.step extra x) 0x41 .interlock) ∧
    (counted → s.she.state ≠ .calHold → ready → s.she.pr = 0 → 0 < n → places = [] →
      answers (.step extra x) 0x41 .notFound) ∧
    (counted → s.she.state ≠ .calHold → ready → ¬ (s.she.pr = 0 ∧ 0 < n ∧ places = []) →
      accepts (.step extra x) 0x41 nr)

/-- HALT in SETTLED or INTERVAL settles at PR with HALTED, in flight sets the halt flag, and in CAL_HOLD
is refused. SET_SHIFT_PROFILE clamps its ten parameters in order, Tmin up to the clamped Tbase, and puts
them in force at once in every engine state (R83, R87). That HALTED carries destination 0 in SETTLED and
INTERVAL is the model's reading of R184, log 19. -/
def Obligations.HaltAndSetShiftProfile : Prop :=
  ∀ (extra : Nat) (s : State), s.listens →
    (s.she.state = .calHold → exec (.halt extra) s = .next (s.answered (3 + extra) ⟨0x42, .busy, []⟩)) ∧
    (s.she.state = .settled ∨ s.she.state = .interval →
      exec (.halt extra) s =
        .next (State.answered
          (State.offer { s with she := { s.she with nr := s.she.pr, state := .settled, timer := none } }
            (.shift .halted) [byte s.she.pr, byte s.she.pr, 0, 0, 0, 0])
          (3 + extra) ⟨0x42, .ok, [byte s.she.pr, byte s.she.pr, 0]⟩)) ∧
    (s.she.state ≠ .calHold → s.she.state ≠ .settled → s.she.state ≠ .interval →
      exec (.halt extra) s =
        .next (State.answered { s with she := { s.she with halt := true } } (3 + extra)
          ⟨0x42, .ok, [byte s.she.pr, byte s.she.nr, byte s.she.state.code]⟩)) ∧
    ∀ p : ProfileWire,
      let tbase := max 200 (min 1500 p.tbase.toNat)
      let f : Profile :=
        { span := max 1 (min 4 p.span.toNat), interval := max 100 (min 2000 p.interval.toNat), tbase := tbase
          tmin := max 100 (min tbase p.tmin.toNat), tstart := max 300 (min 3000 p.tstart.toNat)
          tc := max 100 (min 1000 p.tc.toNat), tcStart := max 500 (min 5000 p.tcStart.toNat)
          shuttle := max 100 (min 2000 p.shuttle.toNat), rstart := max 1 (min 1500 p.rstart.toNat)
          window := max 20 (min 200 p.window.toNat) }
      exec (.setShiftProfile extra p) s =
        .next (State.answered { s with she := { s.she with profile := f } } (21 + extra)
          ⟨0x43, .ok, [byte f.span, byte (f.interval / 256), byte f.interval, byte (f.tbase / 256), byte f.tbase,
            byte (f.tmin / 256), byte f.tmin, byte (f.tstart / 256), byte f.tstart, byte (f.tc / 256), byte f.tc,
            byte (f.tcStart / 256), byte f.tcStart, byte (f.shuttle / 256), byte f.shuttle, byte (f.rstart / 256),
            byte f.rstart, byte f.window]⟩)

/-- The fill timer's expiry ends FILL and starts HANDOVER: the load index and the handover time are
fixed, the on-coming packs rise for T, the off-going packs fall for T, or T/2 in an upshift, the fill
supply is released and a downshift sets its flag. The handover timer's expiry starts CONFIRM: the
on-coming packs LOCKED, the off-going packs RELEASED, the flag clear, the run at 0. Each change of the
flag is a computation of the trailer demand (R73, R100, R101, R102, R164). -/
def Obligations.PhaseTimersCarryTheShift : Prop :=
  ∀ (r : ShiftRecord) (s : State), s.heldInReset = false → s.drivelineLaw → s.she.record = some r →
    s.she.timer.isSome = true →
    (s.she.state = .fill →
      let l := s.tre.loadIndex
      let p := s.she.profile
      let time := if r.kind = .startOff then p.tstart else p.tbase - (p.tbase - p.tmin) * l / 255
      let fall := if r.kind = .upshift then time / 2 else time
      ∃ t, exec .fillTimerExpiry s = .next t ∧
        t.she = { s.she with
          state := .handover, timer := some time, downshift := decide (r.kind = .downshift)
          record := some { r with loadIndex := l, handover := time, sinceHandover := 0 } } ∧
        (∀ q ∈ gearboxPacks, t.packs.get q =
          if q ∈ r.onComing then { s.packs.get q with state := .rising time 0 }
          else if q ∈ r.offGoing then
            { s.packs.get q with state := .falling (s.packs.get q).active.pl fall 0 }
          else s.packs.get q) ∧
        t.fsa.holder ≠ some .shift ∧ (∀ q ∈ gearboxPacks, q ∉ t.fsa.fillList) ∧
        (r.kind = .downshift → (t.tbc.demand, t.tbc.case) = t.formDemand) ∧
        (r.kind ≠ .downshift → t.tbc = s.tbc ∧ t.nts = s.nts) ∧
        t.mfe = s.mfe ∧ t.tre = s.tre ∧ t.cpt = s.cpt ∧ t.rmp = s.rmp ∧ t.cau = s.cau ∧ t.htc = s.htc ∧
        t.rlk = s.rlk) ∧
    (s.she.state = .handover →
      ∃ t, exec .handoverTimerExpiry s = .next t ∧
        t.she = { s.she with
          state := .confirm, downshift := false, record := some { r with confirmRun := 0 }
          timer := some (if r.kind = .startOff ∨ r.kind = .rolling then s.she.profile.tcStart
            else s.she.profile.tc) } ∧
        (∀ q ∈ gearboxPacks, t.packs.get q =
          if q ∈ r.onComing then { s.packs.get q with state := .locked }
          else if q ∈ r.offGoing then { s.packs.get q with state := .released }
          else s.packs.get q) ∧
        (r.kind = .downshift → (t.tbc.demand, t.tbc.case) = t.formDemand) ∧
        (r.kind ≠ .downshift → t = { s with packs := t.packs, she := t.she }) ∧
        t.mfe = s.mfe ∧ t.tre = s.tre ∧ t.cpt = s.cpt ∧ t.rmp = s.rmp ∧ t.cau = s.cau ∧ t.htc = s.htc ∧
        t.rlk = s.rlk)

/-- The timers that end a shift or a wait. Supply-wait: the request cancelled, NR at PR, NO_SUPPLY.
Confirm, in an ordinary shift: the on-coming packs in FAULT, every other gearbox pack released, PR and
NR 0, FAULT; in an engagement from neutral: every gearbox pack released, PR and NR 0, STALLED. Interval:
the step decision, or DONE, or SETTLED under SHIFT_HOLD. (R98, R104, R105, R107, R108.)
That a timer that is not running does nothing is the model's reading, log 3, and so is the destination 0
of DONE at the end of an interval, log 19. That FAULT lists the packs as direction, speed, range is its
choice, log 33. -/
def Obligations.TimersEndTheShift : Prop :=
  ∀ s : State, s.heldInReset = false → s.drivelineLaw →
    let rested (pr : Nat) : Engine :=
      { s.she with pr := pr, nr := pr, state := .settled, timer := none, record := none, halt := false }
    (s.she.timer = none →
      exec .supplyWaitTimerExpiry s = .next s ∧ exec .fillTimerExpiry s = .next s ∧
      exec .handoverTimerExpiry s = .next s ∧ exec .confirmTimerExpiry s = .next s ∧
      exec .intervalTimerExpiry s = .next s) ∧
    (s.she.timer.isSome = true →
      (s.she.state = .interval →
        (s.she.pr = s.she.nr →
          exec .intervalTimerExpiry s =
            .next (State.offer { s with she := { s.she with state := .settled, timer := none } } (.shift .done)
              [byte s.she.pr, byte s.she.nr, 0, 0, 0, 0])) ∧
        (s.she.pr ≠ s.she.nr → s.rlk.shiftHold = true →
          exec .intervalTimerExpiry s = .next { s with she := { s.she with state := .settled, timer := none } }) ∧
        (s.she.pr ≠ s.she.nr → s.rlk.shiftHold = false →
          ∃ t, exec .intervalTimerExpiry s = .next t ∧
            State.sameButOrder s.nts.notices.length s.stepDecision t)) ∧
      ∀ r, s.she.record = some r →
        (s.she.state = .supplyWait →
          exec .supplyWaitTimerExpiry s =
            .next (State.offer
              { s with she := rested s.she.pr
                       fsa := { s.fsa with waiting := { s.fsa.waiting with shift := false } } }
              (.shift .noSupply) [byte s.she.pr, byte s.she.pr, byte r.dest, 0, 0, 0])) ∧
        (s.she.state = .confirm →
          let freed : Hitch := { s.htc with latch := none }
          let loaded : Traction :=
            { s.tre with loadIndex := min 255 (s.cpt.mtow / 5 + s.htc.formed.value / 20) }
          (r.kind ≠ .startOff → r.kind ≠ .rolling → ∃ packs : PackFile,
            (∀ p, packs.get p =
              if p ∈ r.onComing then { s.packs.get p with state := .fault, cause := .confirm }
              else if p = .fdp ∨ (s.packs.get p).state = .fault then s.packs.get p
              else { s.packs.get p with state := .released }) ∧
            exec .confirmTimerExpiry s =
              .next (State.offer
                { s with
                  packs := packs
                  rmp := { s.rmp with entries := s.rmp.entries.map fun e =>
                    if ∃ p ∈ r.onComing, p ∈ e.packs then { e with usable := false } else e }
                  she := { rested 0 with latchSignal := false }
                  htc := freed
                  tre := loaded }
                (.shift .fault) ([0, 0, byte r.dest] ++ ((r.onComing.map fun p : PackId => byte p.code) ++ [0, 0, 0]).take 3))) ∧
          (r.kind = .startOff ∨ r.kind = .rolling → ∃ packs : PackFile,
            (∀ p, packs.get p =
              if p = .fdp ∨ (s.packs.get p).state = .fault then s.packs.get p
              else { s.packs.get p with state := .released }) ∧
            exec .confirmTimerExpiry s =
              .next (State.offer
                { s with packs := packs, she := { rested 0 with latchSignal := false }, htc := freed, tre := loaded }
                (.shift .stalled) [0, 0, byte r.dest, 0, 0, 0]))))

/-- A forced neutral, at the seat timer's expiry and at a debounced PARK rising edge, releases every
gearbox pack that is not in FAULT, gives up the shift and the fill supply, drops the flag and the draft
latch, and settles in neutral with FORCED_NEUTRAL; in CAL_HOLD, and in SETTLED with PR and NR 0, it
changes nothing of the gearbox (R109, R110). A PARK edge, rising or falling, is a computation of the
trailer demand, and with no calibration running a falling edge is nothing else (R126, R164). That the
expiry of a stopped seat timer changes nothing is the model's reading, log 3, and so is the destination 0
that the notice carries where no shift was in flight, log 19, and the seat timer, which stops at a forced
neutral from PARK and otherwise runs on, log 18. -/
def Obligations.ForcedNeutralGivesUpTheShift : Prop :=
  ∀ s : State, s.heldInReset = false → s.drivelineLaw →
    let idle := s.she.state = .calHold ∨ (s.she.state = .settled ∧ s.she.pr = 0 ∧ s.she.nr = 0)
    let neutral (t : State) (cause : Byte) : Prop :=
      (∀ p ∈ gearboxPacks,
        (t.packs.get p).state = (if (s.packs.get p).state = .fault then .fault else .released) ∧
        (s.she.state ≠ .supplyWait → t.packs.get p = { s.packs.get p with state := (t.packs.get p).state })) ∧
      t.she = { s.she with
        pr := 0, nr := 0, state := .settled, timer := none, record := none, halt := false, downshift := false
        latchSignal := false, seatTimer := none } ∧
      t.fsa.waiting.shift = false ∧ t.fsa.holder ≠ some .shift ∧ t.htc.latch = none ∧
      (s.nts.enabled (.shift .forcedNeutral) = true →
        ∃ x ∈ t.nts.notices, x.report = .shift .forcedNeutral ∧
          x.detail = [0, 0, byte (match s.she.record with | none => 0 | some r => r.dest), cause, 0, 0])
    (s.she.seatTimer = none → exec .seatTimerExpiry s = .next s) ∧
    (s.she.seatTimer.isSome = true → idle →
      exec .seatTimerExpiry s = .next { s with she := { s.she with seatTimer := none } }) ∧
    (s.she.seatTimer.isSome = true → ¬ idle →
      ∃ t, exec .seatTimerExpiry s = .next t ∧ neutral t 1 ∧
        (s.she.downshift = false → t.tbc = s.tbc) ∧ t.rmp = s.rmp ∧ t.cpt = s.cpt ∧ t.mfe = s.mfe ∧
        t.rlk = s.rlk) ∧
    ∀ c, (s.mfe.inputs.get .park).candidate = some c →
      ∃ t, exec (.debounceTimerExpiry .park) s = .next t ∧
        (t.tbc.demand, t.tbc.case) = t.formDemand ∧
        (c.level = true → (idle → t.she = s.she) ∧ (¬ idle → neutral t 2)) ∧
        (c.level = false → s.cau.job = none →
          let u : State := { s with mfe := { s.mfe with
            inputs := s.mfe.inputs.set .park { s.mfe.inputs.get .park with level := false, candidate := none } } }
          State.sameButOrder s.nts.notices.length (u.computeDemand.offer (.input .park false) [1]) t)

/-- A speed pair in FILL, HANDOVER or CONFIRM is examined once for onset, by its valid Ne sample against
Ne_ref, and in CONFIRM advances or breaks the confirmation run; the third qualifying pair in a row
completes the shift: PR and the last direction, adaptation of a single on-coming pack of an upshift, the
latch dropped, and HALTED, DONE or INTERVAL (R103, R106, R114, R115, R116, R117). In SUPPLY_WAIT a pair
is not examined, and the engine stands, but where the slip the pair withdraws frees the supply, which
grants it its FILL (R73, R99, R114). That the confirming pair is itself examined before it completes the
shift is the model's reading, log 17. -/
def Obligations.PairsConfirmAndAdapt : Prop :=
  ∀ (ne no : Sample) (r : ShiftRecord) (s : State), s.heldInReset = false → s.drivelineLaw → s.packLaw →
    s.she.record = some r →
      ∃ t, exec (.speedPairArrival ne no) s = .next t ∧
        let sort : OnsetClass :=
          if s.she.state = .fill then .early
          else if r.sinceHandover ≤ s.she.profile.window then .good else .late
        let seen := if ne.valid = true ∧ r.onset = none ∧ t.mfe.ne.held + 20 ≤ r.neRef then some sort else r.onset
        let rn := s.nominal r.dest
        let close := ∃ x, t.tre.rm = some x ∧ (max x rn - min x rn) * 100 ≤ 3 * rn
        (s.she.state = .supplyWait →
          t.she = s.she ∨
            t.she.state = .fill ∧ t.she.record = some { r with neRef := t.mfe.ne.held } ∧
              t.she.pr = s.she.pr ∧ t.she.nr = s.she.nr ∧ t.fsa.holder = some .shift) ∧
        (s.she.state ≠ .confirm → s.she.state ≠ .supplyWait →
          t.she = { s.she with record := some { r with onset := seen } } ∧
          ∀ p ∈ gearboxPacks, t.packs.get p = s.packs.get p) ∧
        (s.she.state = .confirm → ¬ close →
          t.she = { s.she with record := some { r with onset := seen, confirmRun := 0 } } ∧
          ∀ p ∈ gearboxPacks, t.packs.get p = s.packs.get p) ∧
        (s.she.state = .confirm → close → r.confirmRun < 2 →
          t.she = { s.she with record := some { r with onset := seen, confirmRun := r.confirmRun + 1 } } ∧
          ∀ p ∈ gearboxPacks, t.packs.get p = s.packs.get p) ∧
        (s.she.state = .confirm → close → 2 ≤ r.confirmRun →
          let ends := s.she.halt || decide (r.dest = s.she.nr)
          let ruled (o : ShiftOutcome) : Prop :=
            s.nts.enabled (.shift o) = true →
              ∃ x ∈ t.nts.notices, x.report = .shift o ∧
                x.detail = [byte r.dest, byte r.dest, byte r.dest, 0, 0, 0]
          t.she = { s.she with
            pr := r.dest
            nr := if s.she.halt then r.dest else s.she.nr
            lastDir := s.directionOf r.dest
            state := if ends then .settled else .interval
            timer := if ends then none else some s.she.profile.interval
            record := none, halt := false, latchSignal := false } ∧
          t.htc.latch = none ∧
          (s.she.halt = true → ruled .halted) ∧
          (s.she.halt = false → r.dest = s.she.nr → ruled .done) ∧
          ∀ p ∈ gearboxPacks,
            let f := (s.packs.get p).active
            let c := seen.getD .late
            let tf := match c with
              | .early => max f.tfMin (min f.tfMax (f.tf - 4))
              | .good => f.tf
              | .late => max f.tfMin (min f.tfMax (f.tf + 4))
            let stuck := decide (c ≠ .good) && decide (tf = f.tf)
            let learns := r.kind = .upshift ∧ r.onComing = [p] ∧ 1200 ≤ r.neRef
            (¬ learns → t.packs.get p = s.packs.get p) ∧
            (learns →
              t.packs.get p = { s.packs.get p with
                active := { f with tf := tf }
                atLimit := if stuck then min 8 ((s.packs.get p).atLimit + 1) else 0 } ∧
              (stuck = true → (s.packs.get p).atLimit = 7 → s.nts.enabled .adaptLimit = true →
                ∃ x ∈ t.nts.notices, x.report = .adaptLimit ∧
                  x.detail = [byte p.code, if c = .early then 1 else 2, byte (tf / 256), byte tf,
                    byte ((if c = .early then f.tfMax else f.tfMin) / 256),
                    byte (if c = .early then f.tfMax else f.tfMin)])))

/-! ## The Calibration Unit -/

/-- CALIBRATE is refused by the first check that fails. Accepted, it takes the pack, its two partners
and the clamped interval, puts the engine in CAL_HOLD with NR 0, and requests the supply as CAL; under a
LOW charge state it aborts at once with cause SUPPLY (R120, R121, R122). That the interval and the step
count stand after that abort is the model's choice, log 32. -/
def Obligations.CalibrateStartsACalibration : Prop :=
  ∀ (extra : Nat) (pack : Byte) (interval : Half) (s : State), s.listens → s.drivelineLaw →
    let refuses (status : Status) : Prop :=
      exec (.calibrate extra pack interval) s = .next (s.answered (6 + extra) ⟨0x33, status, []⟩)
    let absent := s.straps.gearset = .four ∧ (pack = 7#8 ∨ pack = 8#8)
    let unnamed := pack.toNat = 0 ∨ 11 < pack.toNat ∨ absent
    let rest := s.cau.job = none ∧ s.she.state = .settled ∧ s.she.pr = 0
    let still := s.present .park = true ∧ s.mfe.vg.held < 10 ∧ s.mfe.no.held < 5 ∧ 900 ≤ s.mfe.ne.held ∧
      s.mfe.ne.held ≤ 1500 ∧ s.mfe.vg.state ≠ .failed ∧ s.mfe.no.state ≠ .failed ∧ s.mfe.ne.state ≠ .failed
    (unnamed → refuses .range) ∧
    (¬ unnamed → ¬ rest → refuses .busy) ∧
    (¬ unnamed → rest → ¬ still → refuses .interlock) ∧
    ∀ p, PackId.code p = pack.toNat → ¬ unnamed → rest → still →
      let a : PackId := if pack.toNat ≤ 2 then .sp1 else .fwd
      let b : PackId := if pack.toNat ≤ 8 then .rngA else .sp1
      let step := max 50 (min 500 interval.toNat)
      let faulty := (s.packs.get p).state = .fault ∨ (s.packs.get a).state = .fault ∨ (s.packs.get b).state = .fault
      (faulty → refuses .fault) ∧
      (¬ faulty → s.fsa.charge = .low →
        exec (.calibrate extra pack interval) s =
          .next (State.answered
            (State.offer
              { s with she := { s.she with nr := 0 }, cau := { s.cau with interval := step, stepCount := 0 } }
              (.cal .aborted) [pack, 0, 0, 0, 6, 1])
            (6 + extra) ⟨0x33, .ok, [pack, byte a.code, byte b.code, byte (step / 256), byte step, 0]⟩)) ∧
      (¬ faulty → s.fsa.charge = .ok →
        let k := s.settled (6 + extra)
        let v := State.requestSupply
          { k with
            cau := { s.cau with
              job := some { phase := .waiting, pack := p, partner1 := a, partner2 := b, fill1 := none, fill2 := none
                            settle := none, step := none }
              interval := step
              stepCount := 0 }
            she := { k.she with state := .calHold, nr := 0 } } .cal
        ∃ t, exec (.calibrate extra pack interval) s = .next t ∧
          State.sameButOrder s.nts.notices.length
            (v.pend ⟨0x33, .ok, [pack, byte a.code, byte b.code, byte (step / 256), byte step,
              match v.cau.job with
              | none => 0
              | some j => byte j.phase.code]⟩) t)

/-- A partner whose fill timer expires locks; the second one's lock releases the supply and starts
SETTLING for 500 ms. The settle timer's expiry takes Ne_ref, applies the pack's staged copy and puts it
in CAL_STEP at step 0. Each step timer's expiry raises the count, up to 60, and the expiry at 60 ends
NO_KISS: the pack in FAULT with cause CAL, its partners released, the engine SETTLED (R123, R124,
R125). That a timer's expiry outside its phase changes nothing is the model's reading, log 3, and that the
interval, Ne_ref and the step count stand in IDLE is its choice, log 32. -/
def Obligations.CalibrationTimersRaiseThePressure : Prop :=
  ∀ (j : CalJob) (s : State), s.heldInReset = false → s.drivelineLaw → s.cau.job = some j →
    (∀ which, j.phase = .filling → (j.fillTimer which).isSome = true →
      let p := match which with | .first => j.partner1 | .second => j.partner2
      let other := match which with | .first => j.fill2 | .second => j.fill1
      let j1 : CalJob := match which with | .first => { j with fill1 := none } | .second => { j with fill2 := none }
      ∃ t, exec (.partnerFillTimerExpiry which) s = .next t ∧
        (∀ q ∈ gearboxPacks, t.packs.get q =
          if q = p then { s.packs.get q with state := .locked } else s.packs.get q) ∧
        (other.isSome = true → t.cau.job = some j1 ∧
          t.fsa = { s.fsa with fillList := s.fsa.fillList.filter fun q => decide (q ≠ p) }) ∧
        (other = none → t.cau.job = some { j1 with phase := .settling, settle := some 500 } ∧
          t.fsa.holder ≠ some .cal) ∧
        t.she = s.she ∧ t.nts = s.nts) ∧
    (j.phase = .settling → j.settle.isSome = true →
      exec .settleTimerExpiry s =
        .next { s with
          cau := { s.cau with
            job := some { j with phase := .stepping, settle := none, step := some s.cau.interval }
            neRef := s.mfe.ne.held
            stepCount := 0 }
          packs := s.packs.set j.pack
            { s.packs.get j.pack with
              active := (s.packs.get j.pack).staged.getD (s.packs.get j.pack).active
              atLimit := if (s.packs.get j.pack).staged.isSome then 0 else (s.packs.get j.pack).atLimit
              staged := none
              state := .calStep } }) ∧
    (j.phase = .stepping → j.step.isSome = true →
      (s.cau.stepCount < 60 →
        exec .stepTimerExpiry s =
          .next { s with cau := { s.cau with
            job := some { j with step := some s.cau.interval }, stepCount := s.cau.stepCount + 1 } }) ∧
      (60 ≤ s.cau.stepCount → ∃ packs : PackFile,
        (∀ q, packs.get q =
          if q = j.pack then { s.packs.get q with state := .fault, cause := .cal }
          else if q = j.partner1 ∨ q = j.partner2 then { s.packs.get q with state := .released }
          else s.packs.get q) ∧
        exec .stepTimerExpiry s =
          .next (State.offer
            { s with
              packs := packs
              rmp := { s.rmp with entries := s.rmp.entries.map fun e =>
                if j.pack ∈ e.packs then { e with usable := false } else e }
              cau := { s.cau with job := none }
              she := { s.she with pr := 0, nr := 0, state := .settled } }
            (.cal .noKiss)
            [byte j.pack.code, byte (20 + s.cau.stepCount), byte (s.cau.neRef / 256), byte s.cau.neRef, 2, 0]))) ∧
    (j.phase ≠ .filling → ∀ which, exec (.partnerFillTimerExpiry which) s = .next s) ∧
    (j.phase ≠ .settling → exec .settleTimerExpiry s = .next s) ∧
    (j.phase ≠ .stepping → exec .stepTimerExpiry s = .next s)

/-- A running calibration judges a speed pair in the order of R125: No FAILED or 5 or more aborts, a dip
of 30 in STEPPING is the kiss, Ne FAILED or outside 900 to 1500 aborts. A ground-speed arrival aborts on
FAILED or 10 or more, a PARK falling edge aborts, and a charge arrival that takes the charge state to LOW
aborts a waiting one. A kiss writes Pf, two below the step pressure and at least 5; the end releases the
three packs, settles the engine in neutral and raises CAL, with Ne_ref 0 before the end of SETTLING and
pressure 0 before STEPPING (R125, R126, R128). That the step interval, Ne_ref and the step count stand after
the end is the model's choice, log 32. -/
def Obligations.CalibrationEndsAtAKissOrAnAbort : Prop :=
  ∀ (j : CalJob) (s : State), s.heldInReset = false → s.drivelineLaw → s.cau.job = some j →
    let pk := if j.phase = .stepping then 20 + s.cau.stepCount else 0
    let ref := if j.phase = .stepping then s.cau.neRef else 0
    let freed (q : PackId) : PackRecord :=
      if q = j.pack ∨ q = j.partner1 ∨ q = j.partner2 then { s.packs.get q with state := .released }
      else s.packs.get q
    let ended (t : State) : Prop :=
      t.cau = { s.cau with job := none } ∧ t.she = { s.she with pr := 0, nr := 0, state := .settled } ∧
        t.fsa.waiting.cal = false ∧ t.fsa.holder ≠ some .cal
    let aborted (t : State) (cause : Byte) : Prop :=
      ended t ∧
        (∀ q ∈ gearboxPacks, (t.packs.get q).state = (freed q).state ∧
          (j.phase ≠ .waiting → t.packs.get q = freed q)) ∧
        (s.nts.enabled (.cal .aborted) = true →
          ∃ x ∈ t.nts.notices, x.report = .cal .aborted ∧ x.detail.getD 4 0 = cause ∧
            (j.phase ≠ .waiting →
              x.detail = [byte j.pack.code, byte pk, byte (ref / 256), byte ref, cause, byte j.phase.code]))
    (∀ ne no, ∃ t, exec (.speedPairArrival ne no) s = .next t ∧
      let kiss := j.phase = .stepping ∧ ne.valid = true ∧ t.mfe.ne.held + 30 ≤ s.cau.neRef
      let outside := t.mfe.ne.held < 900 ∨ 1500 < t.mfe.ne.held
      (t.mfe.no.state = .failed → aborted t 5) ∧
      (t.mfe.no.state ≠ .failed → 5 ≤ t.mfe.no.held → aborted t 3) ∧
      (t.mfe.no.state ≠ .failed → t.mfe.no.held < 5 → kiss →
        ended t ∧
        (∀ q ∈ gearboxPacks, t.packs.get q =
          if q = j.pack then
            { s.packs.get q with state := .released, active := { (s.packs.get q).active with pf := max 5 (pk - 2) } }
          else freed q) ∧
        (s.nts.enabled (.cal .done) = true →
          ∃ x ∈ t.nts.notices, x.report = .cal .done ∧
            x.detail = [byte j.pack.code, byte pk, byte (ref / 256), byte ref,
              byte (s.packs.get j.pack).active.pf, byte (max 5 (pk - 2))])) ∧
      (t.mfe.no.state ≠ .failed → t.mfe.no.held < 5 → ¬ kiss → t.mfe.ne.state = .failed → aborted t 5) ∧
      (t.mfe.no.state ≠ .failed → t.mfe.no.held < 5 → ¬ kiss → t.mfe.ne.state ≠ .failed → outside → aborted t 4) ∧
      (t.mfe.no.state ≠ .failed → t.mfe.no.held < 5 → ¬ kiss → t.mfe.ne.state ≠ .failed → ¬ outside →
        t.she = s.she ∧ (∃ j', t.cau.job = some j' ∧ (j'.phase = j.phase ∨ (j.phase = .waiting ∧ j'.phase = .filling))))) ∧
    (∀ vg, ∃ t, exec (.groundSpeedArrival vg) s = .next t ∧
      (t.mfe.vg.state = .failed → aborted t 5) ∧
      (t.mfe.vg.state ≠ .failed → 10 ≤ t.mfe.vg.held → aborted t 2) ∧
      (t.mfe.vg.state ≠ .failed → t.mfe.vg.held < 10 → t.she = s.she ∧ t.cau.job.isSome = true)) ∧
    (∀ pc, j.phase = .waiting → s.fsa.charge = .ok →
      ∃ t, exec (.chargeArrival pc) s = .next t ∧
        (t.mfe.pc.state = .failed ∨ t.mfe.pc.held < s.fsa.pcMin →
          ended t ∧ t.packs = s.packs ∧
          t.fsa = { s.fsa with charge := .low, waiting := { s.fsa.waiting with cal := false } } ∧
          (s.nts.enabled (.cal .aborted) = true →
            ∃ x ∈ t.nts.notices, x.report = .cal .aborted ∧ x.detail = [byte j.pack.code, 0, 0, 0, 6, 1]))) ∧
    ∀ c, (s.mfe.inputs.get .park).candidate = some c → c.level = false →
      ∃ t, exec (.debounceTimerExpiry .park) s = .next t ∧ aborted t 1

/-! ## The Front Drive Controller -/

/-- An evaluation of the engage demand: the release-delay timer stops at a braking cause, starts where
the braking causes have just ended with no standing cause, and otherwise runs on; the demand is engage
while a cause holds or the timer runs; and FDP is requested, cancelled, vented or released to match what
the demand calls for under the FDKIND strap. FDP leaving LOCKED raises the FRONT notice of the status
entered (R132, R133, R136, R140). -/
def Obligations.AnEvaluationActsOnFdp : Prop :=
  (∀ s : State, (s.engaged = true ↔ (s.straps.fdkind = .spring ↔ s.packs.fdp.state ≠ .locked)) ∧
    (s.cpt.anyLost = true ↔
      (∃ r, s.cpt.drawbar = some r ∧ r.state = .lost) ∨ ∃ r, s.cpt.towthru = some r ∧ r.state = .lost)) ∧
  ∀ s : State,
    let f := s.frd
    let modeOn := decide (f.mode = .on)
    let trailer := decide (f.params.trailerThreshold ≠ 0) && decide (f.params.trailerThreshold ≤ s.tbc.demand)
    let lost := s.cpt.anyLost
    let slip := decide (f.mode = .auto) && f.latch
    let radar := decide (f.mode = .auto) && decide (s.mfe.vg.state = .failed)
    let braking := s.tre.braking || trailer
    let standing := modeOn || lost || slip || radar
    let timer :=
      if braking then none
      else if f.brakingRecord && !standing then some f.params.releaseDelay
      else f.releaseTimer
    let g : FrontDrive :=
      { f with releaseTimer := timer, brakingRecord := braking, engage := braking || standing || timer.isSome }
    let called := if s.straps.fdkind = .spring then !g.engage else g.engage
    let vented := s.packs.set .fdp { s.packs.fdp with state := .released }
    ((f.phase = .rest ↔ called = false) → (f.phase = .rest ∨ called = true) →
      s.evaluateFront = { s with frd := g }) ∧
    (f.phase = .rest → called = true →
      s.evaluateFront = State.requestSupply { s with frd := { g with phase := .waiting } } .front) ∧
    (f.phase = .waiting → called = false →
      s.evaluateFront =
        { s with frd := { g with phase := .rest }
                 fsa := { s.fsa with waiting := { s.fsa.waiting with front := false } } }) ∧
    (f.phase = .filling → called = false → s.packs.fdp.state = .fill → (∀ p, p ∈ s.fsa.fillList ↔ p = .fdp) →
      s.evaluateFront =
        State.grantDecision
          { s with frd := { g with phase := .rest, fillTimer := none }
                   packs := vented
                   fsa := { s.fsa with holder := none, fillList := [] } }) ∧
    (f.phase = .holding → called = false → s.packs.fdp.state = .locked →
      s.evaluateFront =
        State.offer { s with frd := { g with phase := .rest }, packs := vented }
          (.front (if s.straps.fdkind = .spring then .engaged else .released))
          [byte (bit (decide (s.straps.fdkind = .spring))), byte f.mode.code,
            byte (bit modeOn + 2 * bit s.tre.braking + 4 * bit trailer + 8 * bit lost + 16 * bit slip + 32 * bit radar),
            byte (bit timer.isSome), 0])

/-- SET_FRONT refuses a mode outside the three, and otherwise puts the mode and the clamped parameters in
force, clears the slip latch and its runs at a change out of AUTO or into it, and evaluates; the
release-delay timer's expiry evaluates with the timer stopped; the FDP fill timer's expiry locks FDP,
frees the supply for the next waiter and raises the FRONT notice of the status entered (R131, R132, R133,
R137, R140). That the expiry of a stopped timer changes nothing is the model's reading, log 3. -/
def Obligations.FrontDriveTakesItsEvents : Prop :=
  (∀ (extra : Nat) (front : FrontWire) (s : State), s.listens →
    let thOn := max 20 (min 1000 front.thOn.toNat)
    let p : FrontParams :=
      { thOn := thOn, thOff := min (thOn - 10) front.thOff.toNat, dwell := max 1 front.dwell.toNat
        releaseSpeed := max 500 (min 3000 front.releaseSpeed.toNat)
        releaseDelay := max 100 (min 5000 front.releaseDelay.toNat)
        trailerThreshold := min 1500 front.trailerThreshold.toNat }
    (2 < front.mode.toNat → exec (.setFront extra front) s = .next (s.answered (15 + extra) ⟨0x50, .range, []⟩)) ∧
    ∀ m, FrontMode.code m = front.mode.toNat →
      let clears := decide (s.frd.mode ≠ m) && (decide (s.frd.mode = .auto) || decide (m = .auto))
      let k := s.settled (15 + extra)
      let u := State.evaluateFront
        { k with frd := { s.frd with
            mode := m, params := p
            latch := if clears then false else s.frd.latch
            onRun := if clears then 0 else s.frd.onRun
            offRun := if clears then 0 else s.frd.offRun } }
      ∃ t, exec (.setFront extra front) s = .next t ∧
        State.sameButOrder s.nts.notices.length
          (u.pend ⟨0x50, .ok, [front.mode, byte (p.thOn / 256), byte p.thOn, byte (p.thOff / 256), byte p.thOff,
            byte p.dwell, byte (p.releaseSpeed / 256), byte p.releaseSpeed, byte (p.releaseDelay / 256),
            byte p.releaseDelay, byte (p.trailerThreshold / 256), byte p.trailerThreshold,
            byte (bit u.frd.engage), byte (bit u.engaged)]⟩) t) ∧
  ∀ s : State, s.heldInReset = false →
    (s.frd.releaseTimer = none → exec .releaseDelayTimerExpiry s = .next s) ∧
    (s.frd.releaseTimer.isSome = true →
      ∃ t, exec .releaseDelayTimerExpiry s = .next t ∧
        State.sameButOrder s.nts.notices.length
          (State.evaluateFront { s with frd := { s.frd with releaseTimer := none } }) t) ∧
    (s.frd.phase ≠ .filling ∨ s.frd.fillTimer = none → exec .fdpFillTimerExpiry s = .next s) ∧
    (s.frd.phase = .filling → s.frd.fillTimer.isSome = true → s.packs.fdp.state = .fill →
      (∀ p, p ∈ s.fsa.fillList ↔ p = .fdp) →
      exec .fdpFillTimerExpiry s =
        .next (State.offer
          (State.grantDecision
            { s with packs := s.packs.set .fdp { s.packs.fdp with state := .locked }
                     frd := { s.frd with phase := .holding, fillTimer := none }
                     fsa := { s.fsa with holder := none, fillList := [] } })
          (.front (if s.straps.fdkind = .spring then .released else .engaged))
          [byte (bit (decide (s.straps.fdkind = .pressure))), byte s.frd.mode.code,
            byte (bit (decide (s.frd.mode = .on)) + 2 * bit s.tre.braking +
              4 * bit (decide (s.frd.params.trailerThreshold ≠ 0) &&
                decide (s.frd.params.trailerThreshold ≤ s.tbc.demand)) +
              8 * bit s.cpt.anyLost + 16 * bit (decide (s.frd.mode = .auto) && s.frd.latch) +
              32 * bit (decide (s.frd.mode = .auto) && decide (s.mfe.vg.state = .failed))),
            byte (bit s.frd.releaseTimer.isSome), 3]))

/-- The slip latch and its two runs at a slip update, which a ground-speed arrival is, and a speed pair
and a SET_TRACTION that withdraws slip; by the first row that applies. Any other speed pair or
SET_TRACTION leaves them (R134, R135). -/
def Obligations.SlipLatchFollowsItsTable : Prop :=
  ∀ s : State,
    let kept (t : State) : Prop :=
      t.frd.latch = s.frd.latch ∧ t.frd.onRun = s.frd.onRun ∧ t.frd.offRun = s.frd.offRun
    let follows (t : State) : Prop :=
      let f := s.frd
      let on := min 255 (f.onRun + 1)
      let off := min 255 (f.offRun + 1)
      t.frd.mode = f.mode ∧ t.frd.params = f.params ∧
      (t.frd.latch, t.frd.onRun, t.frd.offRun) =
        (if f.mode ≠ .auto then (f.latch, f.onRun, f.offRun)
         else if t.mfe.vg.state = .failed then (f.latch, 0, 0)
         else if f.params.releaseSpeed < t.mfe.vg.held then (false, 0, 0)
         else if t.tre.slipValid = false then (f.latch, 0, 0)
         else if f.params.thOn ≤ t.tre.slip then (f.latch || decide (f.params.dwell ≤ on), on, 0)
         else if t.tre.slip < f.params.thOff then (f.latch && !decide (f.params.dwell ≤ off), 0, off)
         else (f.latch, 0, 0))
    (s.heldInReset = false →
      (∀ vg, ∃ t, exec (.groundSpeedArrival vg) s = .next t ∧ follows t) ∧
      ∀ ne no, ∃ t, exec (.speedPairArrival ne no) s = .next t ∧
        (t.tre.slipValid = s.tre.slipValid → kept t) ∧ (t.tre.slipValid ≠ s.tre.slipValid → follows t)) ∧
    (s.listens → ∀ extra kw vmin bth, ∃ t, exec (.setTraction extra kw vmin bth) s = .next t ∧
      (t.tre.slipValid = s.tre.slipValid → kept t) ∧ (t.tre.slipValid ≠ s.tre.slipValid → follows t))

/-! ## The Hitch Controller -/

/-- The limits in force are the HITCH record's, in whatever state it is, or 1000, 0 and 100 (R144). At
their change by ATTACH, by RETIRE and by the pending timer, a travel forms its target again, the raise
opening is cut where the hitch stands at or above the new lift limit, and MANUAL raising then ends with
LIMIT; RETIRE takes WORK and a RETURN to HOLD with RETIRED (R145, R152, R155, R157). HITCH_HOLD leaves
LOCKED as it is and enters HOLD from any other mode. HITCH_WORK and the travel requests are refused by
the first check that fails, and otherwise enter their mode with both openings 0; a travel starts its
timer from 10 s, forms its target from the purpose and the limits in force, and puts a nonzero opening in
force, clamped (R149, R150, R151, R152). -/
def Obligations.HitchRequestsChangeTheMode : Prop :=
  (∀ s : State,
    (s.cpt.hitch = none → s.liftLimit = 1000 ∧ s.depthLimit = 0 ∧ s.loweringCeiling = 100) ∧
    ∀ r, s.cpt.hitch = some r →
      s.liftLimit = r.fields.pmax ∧ s.depthLimit = r.fields.pmin ∧ s.loweringCeiling = r.fields.drop) ∧
  (∀ s : State,
    let shut : Hitch := { s.htc with mode := .hold, raise := 0, lower := 0, draftLoss := false }
    let raised (t : State) (o : HitchOutcome) (code second lift depth : Nat) : Prop :=
      s.nts.enabled (.hitch o) = true →
        ∃ x ∈ t.nts.notices, x.report = .hitch o ∧
          x.detail =
            let v := s.mfe.p.held * 1073741824 + second * 1048576 + lift * 1024 + depth
            [byte (8 * code + 32 * s.mfe.p.state.code), byte (v / 4294967296), byte (v / 16777216),
              byte (v / 65536), byte (v / 256), byte v]
    let cut (h : Hitch) (lift : Nat) : Hitch := { h with raise := if lift ≤ s.mfe.p.held then 0 else h.raise }
    let moved (t : State) (lift depth : Nat) (setpoint : Option Nat) : Prop :=
      match s.htc.mode with
      | .travel p old timer =>
        let target := match p with
          | .goto q => if q < depth then depth else if lift < q then lift else q
          | .transport => lift
          | .return => setpoint.getD old
        t.htc = cut { s.htc with mode := .travel p target timer } lift
      | .manual .up =>
        (lift ≤ s.mfe.p.held → t.htc = shut ∧ raised t .limit 0 0 lift depth) ∧
        (s.mfe.p.held < lift → t.htc = s.htc)
      | _ => t.htc = cut s.htc lift
    (∀ extra tag fields f, s.listens → implementOf fields = some f → s.cpt.hitch = none → s.htc.mode ≠ .locked →
      tag = 0#16 ∨ (∀ x ∈ s.cpt.labels, x.2 ≠ tag.toNat) →
      ∃ t, exec (.attach extra 1 tag fields) s = .next t ∧ t.liftLimit = f.pmax ∧ t.depthLimit = f.pmin ∧
        moved t f.pmax f.pmin (some f.ps)) ∧
    ∀ r, s.cpt.hitch = some r →
      (∀ extra handle, s.listens → s.cpt.labelLaw → r.handle = handle.toNat →
        ∃ t, exec (.retire extra handle) s = .next t ∧ t.liftLimit = 1000 ∧ t.depthLimit = 0 ∧
          match s.htc.mode with
          | .work => t.htc = shut ∧ raised t .retired 0 0 1000 0
          | .travel .return target _ => t.htc = shut ∧ raised t .retired 3 target 1000 0
          | _ => moved t 1000 0 none) ∧
      (∀ timer, s.heldInReset = false → r.state = .pending timer →
        ∃ t, exec (.pendingTimerExpiry .hitch) s = .next t ∧ t.liftLimit = 1000 ∧ t.depthLimit = 0 ∧
          moved t 1000 0 none)) ∧
  ∀ (extra : Nat) (position : Half) (opening : Byte) (s : State), s.listens →
    let answers (i : Instr) (n : Nat) (code : Byte) (status : Status) : Prop :=
      exec i s = .next (s.answered (n + extra) ⟨code, status, []⟩)
    let leaves (i : Instr) (n : Nat) (code : Byte) (h : Hitch) (purpose target : Nat) : Prop :=
      exec i s = .next (State.answered { s with htc := h } (n + extra)
        ⟨code, .ok, [byte h.mode.code, byte purpose, byte (target / 256), byte target, byte h.travelOpening,
          byte h.raise, byte h.lower]⟩)
    let shut (m : HitchMode) : Hitch := { s.htc with mode := m, raise := 0, lower := 0, draftLoss := false }
    let o := if opening.toNat = 0 then s.htc.travelOpening else max 10 (min 100 opening.toNat)
    let travels (p : Purpose) (target : Nat) : Hitch :=
      { shut (.travel p target 10000) with travelOpening := o }
    let active := ∃ r, s.cpt.hitch = some r ∧ r.state = .active
    let seated := s.present .seat = true
    let read := s.mfe.p.state ≠ .failed
    let refusals (i : Instr) (n : Nat) (code : Byte) (needs : Prop) : Prop :=
      (s.htc.mode = .locked → answers i n code .interlock) ∧
      (s.htc.mode ≠ .locked → needs → ¬ active → answers i n code .noImplement) ∧
      (s.htc.mode ≠ .locked → (needs → active) → ¬ seated → answers i n code .interlock) ∧
      (s.htc.mode ≠ .locked → (needs → active) → seated → ¬ read → answers i n code .fault)
    (s.htc.mode = .locked → leaves (.hitchHold extra) 3 0x60 s.htc 0 0) ∧
    (s.htc.mode ≠ .locked → leaves (.hitchHold extra) 3 0x60 (shut .hold) 0 0) ∧
    refusals (.hitchWork extra) 3 0x61 True ∧
    refusals (.hitchGoto extra position opening) 6 0x62 False ∧
    refusals (.hitchTransport extra opening) 4 0x63 False ∧
    refusals (.hitchReturn extra opening) 4 0x64 True ∧
    (s.htc.mode ≠ .locked → seated → read →
      let p := min 1000 position.toNat
      let target := if p < s.depthLimit then s.depthLimit else if s.liftLimit < p then s.liftLimit else p
      leaves (.hitchGoto extra position opening) 6 0x62 (travels (.goto p) target) 1 target ∧
      leaves (.hitchTransport extra opening) 4 0x63 (travels .transport s.liftLimit) 2 s.liftLimit ∧
      ∀ r, s.cpt.hitch = some r → r.state = .active →
        leaves (.hitchWork extra) 3 0x61 (shut .work) 0 0 ∧
        leaves (.hitchReturn extra opening) 4 0x64 (travels .return r.fields.ps) 3 r.fields.ps)

/-- At a hitch-set arrival the controller forms the draft, leaves a moving mode with SENSOR on a FAILED
position channel, and otherwise acts by its mode: the control computation in WORK with its limits,
deadband, gain and draft-loss episode; the target and the openings toward it in TRAVEL, or REACHED; the
ground-speed and limit tests in MANUAL; nothing in HOLD and LOCKED. The load index is then formed from
the draft held (R44, R145, R146, R148, R152, R155, R158, R159, R160). That an arrival which applies a
staged copy is taken by these rules alone, with the target a FAILED position channel ends reported as it
stood, is the model's reading, log 16. -/
def Obligations.HitchArrivalWorksTheMode : Prop :=
  ∀ (p dl dr : Sample) (s : State), s.heldInReset = false →
    ∃ t, exec (.hitchSetArrival p dl dr) s = .next t ∧
      let pos := t.mfe.p.held
      let lift := t.liftLimit
      let depth := t.depthLimit
      let ceiling := t.loweringCeiling
      let formed : Draft :=
        if t.mfe.dl.state = .failed ∨ t.mfe.dr.state = .failed then ⟨0, false⟩
        else ⟨t.mfe.dl.held + t.mfe.dr.held, true⟩
      let draft := s.htc.latch.getD formed
      let base : Hitch := { s.htc with formed := formed }
      let shut (m : HitchMode) : Hitch := { base with mode := m, raise := 0, lower := 0, draftLoss := false }
      let raised (o : HitchOutcome) (code second : Nat) : Prop :=
        s.nts.enabled (.hitch o) = true →
          ∃ x ∈ t.nts.notices, x.report = .hitch o ∧
            x.detail =
              let v := pos * 1073741824 + second * 1048576 + lift * 1024 + depth
              [byte (t.htc.mode.code + 8 * code + 32 * t.mfe.p.state.code), byte (v / 4294967296),
                byte (v / 16777216), byte (v / 65536), byte (v / 256), byte v]
      let lost := t.mfe.p.state = .failed
      t.tre.loadIndex = min 255 (t.cpt.mtow / 5 + draft.value / 20) ∧
      match s.htc.mode with
      | .hold => t.htc = base
      | .locked => t.htc = base
      | .work =>
        (lost → t.htc = shut .hold ∧ raised .sensor 0 0) ∧
        (¬ lost → ∀ r, t.cpt.hitch = some r →
          let f := r.fields
          let mixed : Option DraftBlock := f.draft.filter fun b => decide (0 < b.m) && draft.usable
          let ep : Int := (f.ps : Int) - pos
          let ed : Int := match mixed with
            | none => 0
            | some b => max (-1000) (min 1000 (Int.tdiv (((draft.value : Int) - b.ds) * b.gd) 256))
          let m : Int := match mixed with
            | none => 0
            | some b => b.m
          let e1 : Int := Int.tdiv ((100 - m) * ep + m * ed) 100
          let e2 : Int :=
            if 0 < f.sl ∧ s.tre.slipValid = true ∧ f.sl < s.tre.slip then max e1 ((s.tre.slip : Int) - f.sl) else e1
          let e : Int := if (0 < e2 ∧ f.pmax ≤ pos) ∨ (e2 < 0 ∧ pos ≤ f.pmin) then 0 else e2
          let up := if (f.db : Int) < e then min 100 ((e.toNat - f.db) * f.kq / 16) else 0
          let down := if e < -(f.db : Int) then min f.drop (((-e).toNat - f.db) * f.kq / 16) else 0
          let missing := (f.draft.any fun b => decide (0 < b.m)) && !draft.usable
          t.htc = { base with raise := up, lower := down, draftLoss := missing } ∧
          (missing = true → s.htc.draftLoss = false →
            raised .draftLost 0 (t.mfe.dl.state.code * 4 + t.mfe.dr.state.code)))
      | .travel purpose old timer =>
        (lost → t.htc = shut .hold ∧ raised .sensor purpose.code old) ∧
        (¬ lost →
          let target := match purpose with
            | .goto q => if q < depth then depth else if lift < q then lift else q
            | .transport => lift
            | .return => match t.cpt.hitch with
              | none => old
              | some r => r.fields.ps
          (pos ≤ target + 10 → target ≤ pos + 10 →
            t.htc = shut (match purpose with | .goto _ => .hold | .transport => .hold | .return => .work) ∧
            raised .reached purpose.code target) ∧
          (pos + 10 < target →
            t.htc = { base with mode := .travel purpose target timer, raise := s.htc.travelOpening, lower := 0 }) ∧
          (target + 10 < pos →
            t.htc = { base with mode := .travel purpose target timer, raise := 0
                                lower := min s.htc.travelOpening ceiling }))
      | .manual dir =>
        let fast := 300 ≤ t.mfe.vg.held ∨ t.mfe.vg.state = .failed
        let limit := (dir = .up ∧ lift ≤ pos) ∨ (dir = .down ∧ pos ≤ depth)
        (lost → t.htc = shut .hold ∧ raised .sensor 0 0) ∧
        (¬ lost → fast → t.htc = shut .hold ∧ raised .interlock 0 0) ∧
        (¬ lost → ¬ fast → limit → t.htc = shut .hold ∧ raised .limit 0 0) ∧
        (¬ lost → ¬ fast → ¬ limit →
          t.htc = { base with raise := if dir = .up then 30 else 0
                              lower := if dir = .up then 0 else min 20 ceiling })

/-- A SEAT falling edge starts the seat timer and takes a moving hitch to HOLD with INTERLOCK; a rising
edge stops the timer. A fender button's rising edge enters MANUAL from HOLD, WORK and TRAVEL where the
conditions hold, and in MANUAL stops the hitch if it is the other button's; the driving button's falling
edge stops it. The travel timer's expiry ends a travel in HOLD with STALLED (R109, R153, R154, R155,
R157, R161, R184). That a MANUAL notice which ends a travel carries the direction and the ended target is
the model's reading, log 20, and so is that an expiry outside TRAVEL changes nothing, log 3. -/
def Obligations.EdgesAndTheTravelTimerEndAMode : Prop :=
  ∀ s : State, s.heldInReset = false →
    let shut (m : HitchMode) : Hitch := { s.htc with mode := m, raise := 0, lower := 0, draftLoss := false }
    let purpose := match s.htc.mode with
      | .travel p _ _ => p.code
      | _ => 0
    let target := match s.htc.mode with
      | .travel _ x _ => x
      | _ => 0
    let detail (mode code second : Nat) : List Byte :=
      let v := s.mfe.p.held * 1073741824 + second * 1048576 + s.liftLimit * 1024 + s.depthLimit
      [byte (mode + 8 * code + 32 * s.mfe.p.state.code), byte (v / 4294967296), byte (v / 16777216),
        byte (v / 65536), byte (v / 256), byte v]
    let after (i : DInput) (c : Candidate) (she : Engine) (htc : Hitch) (report : Option (HitchOutcome × List Byte)) :
        Prop :=
      let u : State := { s with
        mfe := { s.mfe with
          inputs := s.mfe.inputs.set i { s.mfe.inputs.get i with level := c.level, candidate := none } }
        she := she
        htc := htc }
      let v := match report with
        | none => u
        | some x => u.offer (.hitch x.1) x.2
      ∃ t, exec (.debounceTimerExpiry i) s = .next t ∧
        State.sameButOrder s.nts.notices.length (v.offer (.input i c.level) [byte (inputCode i)]) t
    let moving := s.htc.mode ≠ .hold ∧ s.htc.mode ≠ .locked
    (∀ c, (s.mfe.inputs.get .seat).candidate = some c →
      let she : Engine := { s.she with seatTimer := if c.level then none else some 2000 }
      (c.level = false → moving →
        after .seat c she (shut .hold) (some (.interlock, detail 0 purpose target))) ∧
      (c.level = true ∨ ¬ moving → after .seat c she s.htc none)) ∧
    (∀ (d : ManualDir) (c : Candidate),
      let i : DInput := match d with
        | .up => .extUp
        | .down => .extDown
      (s.mfe.inputs.get i).candidate = some c →
      let allowed := s.mfe.vg.held < 300 ∧ s.mfe.vg.state ≠ .failed ∧ s.mfe.p.state ≠ .failed ∧
        (d = .up → s.mfe.p.held < s.liftLimit) ∧ (d = .down → s.depthLimit < s.mfe.p.held)
      let stops := if c.level then ∃ d', s.htc.mode = .manual d' ∧ d' ≠ d else s.htc.mode = .manual d
      let enters := c.level = true ∧ (∀ d', s.htc.mode ≠ .manual d') ∧ s.htc.mode ≠ .locked ∧ allowed
      (stops → after i c s.she (shut .hold) (some (.stopped, detail 0 0 0))) ∧
      (enters → after i c s.she
        { shut (.manual d) with raise := if d = .up then 30 else 0
                                lower := if d = .up then 0 else min 20 s.loweringCeiling }
        (some (.manual, detail 3 d.code target))) ∧
      (¬ stops → ¬ enters → after i c s.she s.htc none)) ∧
    ((∃ p x timer, s.htc.mode = .travel p x timer) →
      exec .travelTimerExpiry s =
        .next (State.offer { s with htc := shut .hold } (.hitch .stalled) (detail 0 purpose target))) ∧
    ((∀ p x timer, s.htc.mode ≠ .travel p x timer) → exec .travelTimerExpiry s = .next s)

/-! ## The Trailer Brake Controller -/

/-- The trailer demand: 1500 while a record is LOST or a weighted train stands on PARK, 0 for an empty
train, and otherwise the mass-weighted pedal demand or downshift assist, 1500 at most. A change is handed
to the front drive. A pedal set makes the staged trailer copies active, with a notice APPLIED, and then
computes the demand and evaluates the front drive (R18, R25, R132, R164, R165, R166, R167, R168). -/
def Obligations.DemandFollowsTheRecords : Prop :=
  (∀ r : TrailerRecord, weightedEntry none = [] ∧
    weightedEntry (some r) = match r.state with
      | .active => [r]
      | .degraded => [r]
      | .retiring _ => [r]
      | .pending _ => []
      | .lost => []) ∧
  (∀ s : State,
    let w := weightedEntry s.cpt.drawbar ++ weightedEntry s.cpt.towthru
    let mean (figure : TrailerFields → Nat) : Nat :=
      (w.map fun r => figure r.fields * r.fields.m).sum / (w.map fun r => r.fields.m).sum
    let bt := s.tre.bt
    let pedal := mean fun f => if bt = 0 then 0 else bt * f.gt / 128 + f.pld
    let assist :=
      if s.she.downshift = true ∧ 800 ≤ s.mfe.vg.held ∧ bt = 0 then mean fun f => f.pas.getD 0 else 0
    (s.cpt.anyLost = true → s.formDemand = (1500, .full)) ∧
    (s.cpt.anyLost = false → s.present .park = true → w ≠ [] → s.formDemand = (1500, .full)) ∧
    (s.cpt.anyLost = false → w = [] → s.formDemand = (0, .empty)) ∧
    (s.cpt.anyLost = false → s.present .park = false → w ≠ [] →
      s.formDemand = (min 1500 (max pedal assist), .weighted)) ∧
    let t : State := { s with tbc := { s.tbc with demand := s.formDemand.1, case := s.formDemand.2 } }
    s.computeDemand = if s.formDemand.1 = s.tbc.demand then t else t.evaluateFront) ∧
  ∀ (bl br : Sample) (s : State), s.heldInReset = false →
    let copied (r : TrailerRecord) : TrailerRecord := { r with fields := r.staged.getD r.fields, staged := none }
    ∃ t, exec (.pedalSetArrival bl br) s = .next t ∧
      (t.tbc.demand, t.tbc.case) = t.formDemand ∧
      t.tbc.faultRun = s.tbc.faultRun ∧ t.tbc.faultEpisode = s.tbc.faultEpisode ∧
      t.cpt.hitch = s.cpt.hitch ∧ t.cpt.counter = s.cpt.counter ∧
      t.cpt.drawbar = s.cpt.drawbar.map copied ∧ t.cpt.towthru = s.cpt.towthru.map copied ∧
      (∀ p r, s.cpt.trailer p = some r → r.staged.isSome = true →
        s.nts.enabled (.coupling p .applied) = true →
          ∃ x ∈ t.nts.notices, x.report = .coupling p .applied ∧
            x.detail = [byte r.handle, byte (r.tag / 256), byte r.tag, byte (stageCode (some r.stage)),
              byte (t.cpt.mtow / 256), byte t.cpt.mtow]) ∧
      (t.frd.brakingRecord = true ↔
        t.tre.braking = true ∨
          (s.frd.params.trailerThreshold ≠ 0 ∧ s.frd.params.trailerThreshold ≤ t.tbc.demand))

/-! ## The laws every step keeps -/

/-- Every step keeps the Notice Set's law: at most one notice per source, ATTN asserted exactly when the
set is not empty (R185, R186). -/
def Obligations.EveryStepKeepsTheNoticeLaw : Prop :=
  ∀ s t : State, s.nts.law → step s = .next t → t.nts.law

/-- Every step keeps the hitch laws: the openings are never both nonzero, and the raise opening is 0
whenever the last position is at or above the lift limit in force (R145); with what keeps them (R144,
R150, R156, R157). -/
def Obligations.EveryStepKeepsTheHitchLaw : Prop :=
  ∀ s t : State, s.hitchLaw → step s = .next t → t.hitchLaw

/-- Every step keeps the trailer laws: the demand lies in 0 to 1500, and equals 1500 while a record is
LOST or a weighted train stands on PARK; Mtow is the weighted sum; the towing order and the fields'
ranges hold; and the handles and the tags of the records in use differ (R3, R4, R5, R25, R163). -/
def Obligations.EveryStepKeepsTheTrailerLaw : Prop :=
  ∀ s t : State, s.trailerLaw → s.cpt.labelLaw → step s = .next t → t.trailerLaw ∧ t.cpt.labelLaw

/-- Every step keeps the load law: the load index is that of Mtow and the draft held, and the formed
draft is that of the pin channels (R44, R146). -/
def Obligations.EveryStepKeepsTheLoadLaw : Prop :=
  ∀ s t : State, s.loadLaw → step s = .next t → t.loadLaw

/-- Every step keeps the laws of the gearbox, the front drive and the fill supply together, and the ranges
of the pack records and of the Calibration Unit (R49, R54, R56, R62, R70, R81, R82, R96, R108, R111, R119,
R123, R130, R139, R147). That a reset puts the step interval in its range is the model's choice, log 32. -/
def Obligations.EveryStepKeepsTheDrivelineLaw : Prop :=
  ∀ s t : State, s.drivelineLaw → s.packLaw → step s = .next t → t.drivelineLaw ∧ t.packLaw

/-- The state at reset meets every law, and so does the state a power-on or hard reset leaves, and the
state a soft reset or RST held low leaves of a state whose ratio map and packs meet theirs, since these
are kept. That the Calibration Unit's step interval is in its range at reset is the model's choice, log
32, and what RST held low leaves is its reading, log 5. -/
def Obligations.ResetMeetsTheLaws : Prop :=
  let meets (s : State) : Prop :=
    s.nts.law ∧ s.hitchLaw ∧ s.trailerLaw ∧ s.cpt.labelLaw ∧ s.loadLaw ∧ s.drivelineLaw ∧ s.packLaw
  meets State.reset ∧
    (∀ gearset fdkind (s : State), ∃ t u, exec (.powerOnReset gearset fdkind) s = .next t ∧ meets t ∧
      exec (.hardReset gearset fdkind) s = .next u ∧ meets u) ∧
    ∀ s : State, s.ratioLaw → s.packLaw →
      (∀ extra, s.listens → ∃ t, exec (.softReset extra) s = .next t ∧ meets t) ∧
      ∃ t, exec .rstHeldLow s = .next t ∧ meets t

/-- What the driveline law says of a state: no group has more than two pressed packs, and two only in the
FILL and HANDOVER of a shift (R96); the present ratio is defined with no pack in FAULT (R82); every pack
in FILL belongs to the holder, and a requester never both waits and holds (R70); and under FDKIND SPRING
FDP's pressure command is zero while braking is detected (R139). -/
def Obligations.TheDrivelineLawBoundsThePressures : Prop :=
  ∀ s : State, s.drivelineLaw →
    (∀ g ∈ packGroups, s.pressed g ≤ 2 ∧ (s.pressed g = 2 → s.she.state = .fill ∨ s.she.state = .handover)) ∧
    (s.she.pr ≠ 0 → ∃ e ∈ s.rmp.entries, e.index = s.she.pr ∧ ∀ p ∈ e.packs, (s.packs.get p).state ≠ .fault) ∧
    (∀ p, (s.packs.get p).state = .fill →
      if p = .fdp then s.fsa.holder = some .front
      else (s.fsa.holder = some .shift ∧ ∃ r, s.she.record = some r ∧ p ∈ r.onComing) ∨
        (s.fsa.holder = some .cal ∧ ∃ j, s.cau.job = some j ∧ (p = j.partner1 ∨ p = j.partner2))) ∧
    (s.fsa.holder = some .shift → s.fsa.waiting.shift = false) ∧
    (s.fsa.holder = some .front → s.fsa.waiting.front = false) ∧
    (s.fsa.holder = some .cal → s.fsa.waiting.cal = false) ∧
    (s.straps.fdkind = .spring → s.tre.braking = true → s.packCommand .fdp = 0)

end
end

