-- ==== Sys2Proof/Laws/State.lean ====
section
/-! SUPPORT. What each shared update leaves alone, field by field, true by definition. -/

namespace Sys2Proof.Machine

/-! ### offer -/

@[simp] theorem State.offer_pending (s : State) (r : Report) (d : List Byte) : (s.offer r d).pending = s.pending := rfl
@[simp] theorem State.offer_heldInReset (s : State) (r : Report) (d : List Byte) : (s.offer r d).heldInReset = s.heldInReset := rfl
@[simp] theorem State.offer_straps (s : State) (r : Report) (d : List Byte) : (s.offer r d).straps = s.straps := rfl
@[simp] theorem State.offer_mfe (s : State) (r : Report) (d : List Byte) : (s.offer r d).mfe = s.mfe := rfl
@[simp] theorem State.offer_tre (s : State) (r : Report) (d : List Byte) : (s.offer r d).tre = s.tre := rfl
@[simp] theorem State.offer_cpt (s : State) (r : Report) (d : List Byte) : (s.offer r d).cpt = s.cpt := rfl
@[simp] theorem State.offer_rmp (s : State) (r : Report) (d : List Byte) : (s.offer r d).rmp = s.rmp := rfl
@[simp] theorem State.offer_packs (s : State) (r : Report) (d : List Byte) : (s.offer r d).packs = s.packs := rfl
@[simp] theorem State.offer_fsa (s : State) (r : Report) (d : List Byte) : (s.offer r d).fsa = s.fsa := rfl
@[simp] theorem State.offer_she (s : State) (r : Report) (d : List Byte) : (s.offer r d).she = s.she := rfl
@[simp] theorem State.offer_cau (s : State) (r : Report) (d : List Byte) : (s.offer r d).cau = s.cau := rfl
@[simp] theorem State.offer_frd (s : State) (r : Report) (d : List Byte) : (s.offer r d).frd = s.frd := rfl
@[simp] theorem State.offer_htc (s : State) (r : Report) (d : List Byte) : (s.offer r d).htc = s.htc := rfl
@[simp] theorem State.offer_tbc (s : State) (r : Report) (d : List Byte) : (s.offer r d).tbc = s.tbc := rfl
@[simp] theorem State.offer_rlk (s : State) (r : Report) (d : List Byte) : (s.offer r d).rlk = s.rlk := rfl
@[simp] theorem State.offer_draws (s : State) (r : Report) (d : List Byte) : (s.offer r d).draws = s.draws := rfl

/-! ### offerShift -/

@[simp] theorem State.offerShift_pending (s : State) (o : ShiftOutcome) (n : Nat) (l : List Nat) : (s.offerShift o n l).pending = s.pending := rfl
@[simp] theorem State.offerShift_heldInReset (s : State) (o : ShiftOutcome) (n : Nat) (l : List Nat) : (s.offerShift o n l).heldInReset = s.heldInReset := rfl
@[simp] theorem State.offerShift_straps (s : State) (o : ShiftOutcome) (n : Nat) (l : List Nat) : (s.offerShift o n l).straps = s.straps := rfl
@[simp] theorem State.offerShift_mfe (s : State) (o : ShiftOutcome) (n : Nat) (l : List Nat) : (s.offerShift o n l).mfe = s.mfe := rfl
@[simp] theorem State.offerShift_tre (s : State) (o : ShiftOutcome) (n : Nat) (l : List Nat) : (s.offerShift o n l).tre = s.tre := rfl
@[simp] theorem State.offerShift_cpt (s : State) (o : ShiftOutcome) (n : Nat) (l : List Nat) : (s.offerShift o n l).cpt = s.cpt := rfl
@[simp] theorem State.offerShift_rmp (s : State) (o : ShiftOutcome) (n : Nat) (l : List Nat) : (s.offerShift o n l).rmp = s.rmp := rfl
@[simp] theorem State.offerShift_packs (s : State) (o : ShiftOutcome) (n : Nat) (l : List Nat) : (s.offerShift o n l).packs = s.packs := rfl
@[simp] theorem State.offerShift_fsa (s : State) (o : ShiftOutcome) (n : Nat) (l : List Nat) : (s.offerShift o n l).fsa = s.fsa := rfl
@[simp] theorem State.offerShift_she (s : State) (o : ShiftOutcome) (n : Nat) (l : List Nat) : (s.offerShift o n l).she = s.she := rfl
@[simp] theorem State.offerShift_cau (s : State) (o : ShiftOutcome) (n : Nat) (l : List Nat) : (s.offerShift o n l).cau = s.cau := rfl
@[simp] theorem State.offerShift_frd (s : State) (o : ShiftOutcome) (n : Nat) (l : List Nat) : (s.offerShift o n l).frd = s.frd := rfl
@[simp] theorem State.offerShift_htc (s : State) (o : ShiftOutcome) (n : Nat) (l : List Nat) : (s.offerShift o n l).htc = s.htc := rfl
@[simp] theorem State.offerShift_tbc (s : State) (o : ShiftOutcome) (n : Nat) (l : List Nat) : (s.offerShift o n l).tbc = s.tbc := rfl
@[simp] theorem State.offerShift_rlk (s : State) (o : ShiftOutcome) (n : Nat) (l : List Nat) : (s.offerShift o n l).rlk = s.rlk := rfl
@[simp] theorem State.offerShift_draws (s : State) (o : ShiftOutcome) (n : Nat) (l : List Nat) : (s.offerShift o n l).draws = s.draws := rfl

/-! ### offerCal -/

@[simp] theorem State.offerCal_pending (s : State) (j : CalJob) (o : CalOutcome) (a b : Nat) : (s.offerCal j o a b).pending = s.pending := rfl
@[simp] theorem State.offerCal_heldInReset (s : State) (j : CalJob) (o : CalOutcome) (a b : Nat) : (s.offerCal j o a b).heldInReset = s.heldInReset := rfl
@[simp] theorem State.offerCal_straps (s : State) (j : CalJob) (o : CalOutcome) (a b : Nat) : (s.offerCal j o a b).straps = s.straps := rfl
@[simp] theorem State.offerCal_mfe (s : State) (j : CalJob) (o : CalOutcome) (a b : Nat) : (s.offerCal j o a b).mfe = s.mfe := rfl
@[simp] theorem State.offerCal_tre (s : State) (j : CalJob) (o : CalOutcome) (a b : Nat) : (s.offerCal j o a b).tre = s.tre := rfl
@[simp] theorem State.offerCal_cpt (s : State) (j : CalJob) (o : CalOutcome) (a b : Nat) : (s.offerCal j o a b).cpt = s.cpt := rfl
@[simp] theorem State.offerCal_rmp (s : State) (j : CalJob) (o : CalOutcome) (a b : Nat) : (s.offerCal j o a b).rmp = s.rmp := rfl
@[simp] theorem State.offerCal_packs (s : State) (j : CalJob) (o : CalOutcome) (a b : Nat) : (s.offerCal j o a b).packs = s.packs := rfl
@[simp] theorem State.offerCal_fsa (s : State) (j : CalJob) (o : CalOutcome) (a b : Nat) : (s.offerCal j o a b).fsa = s.fsa := rfl
@[simp] theorem State.offerCal_she (s : State) (j : CalJob) (o : CalOutcome) (a b : Nat) : (s.offerCal j o a b).she = s.she := rfl
@[simp] theorem State.offerCal_cau (s : State) (j : CalJob) (o : CalOutcome) (a b : Nat) : (s.offerCal j o a b).cau = s.cau := rfl
@[simp] theorem State.offerCal_frd (s : State) (j : CalJob) (o : CalOutcome) (a b : Nat) : (s.offerCal j o a b).frd = s.frd := rfl
@[simp] theorem State.offerCal_htc (s : State) (j : CalJob) (o : CalOutcome) (a b : Nat) : (s.offerCal j o a b).htc = s.htc := rfl
@[simp] theorem State.offerCal_tbc (s : State) (j : CalJob) (o : CalOutcome) (a b : Nat) : (s.offerCal j o a b).tbc = s.tbc := rfl
@[simp] theorem State.offerCal_rlk (s : State) (j : CalJob) (o : CalOutcome) (a b : Nat) : (s.offerCal j o a b).rlk = s.rlk := rfl
@[simp] theorem State.offerCal_draws (s : State) (j : CalJob) (o : CalOutcome) (a b : Nat) : (s.offerCal j o a b).draws = s.draws := rfl

/-! ### offerHitch -/

@[simp] theorem State.offerHitch_pending (s : State) (o : HitchOutcome) (a b : Nat) : (s.offerHitch o a b).pending = s.pending := rfl
@[simp] theorem State.offerHitch_heldInReset (s : State) (o : HitchOutcome) (a b : Nat) : (s.offerHitch o a b).heldInReset = s.heldInReset := rfl
@[simp] theorem State.offerHitch_straps (s : State) (o : HitchOutcome) (a b : Nat) : (s.offerHitch o a b).straps = s.straps := rfl
@[simp] theorem State.offerHitch_mfe (s : State) (o : HitchOutcome) (a b : Nat) : (s.offerHitch o a b).mfe = s.mfe := rfl
@[simp] theorem State.offerHitch_tre (s : State) (o : HitchOutcome) (a b : Nat) : (s.offerHitch o a b).tre = s.tre := rfl
@[simp] theorem State.offerHitch_cpt (s : State) (o : HitchOutcome) (a b : Nat) : (s.offerHitch o a b).cpt = s.cpt := rfl
@[simp] theorem State.offerHitch_rmp (s : State) (o : HitchOutcome) (a b : Nat) : (s.offerHitch o a b).rmp = s.rmp := rfl
@[simp] theorem State.offerHitch_packs (s : State) (o : HitchOutcome) (a b : Nat) : (s.offerHitch o a b).packs = s.packs := rfl
@[simp] theorem State.offerHitch_fsa (s : State) (o : HitchOutcome) (a b : Nat) : (s.offerHitch o a b).fsa = s.fsa := rfl
@[simp] theorem State.offerHitch_she (s : State) (o : HitchOutcome) (a b : Nat) : (s.offerHitch o a b).she = s.she := rfl
@[simp] theorem State.offerHitch_cau (s : State) (o : HitchOutcome) (a b : Nat) : (s.offerHitch o a b).cau = s.cau := rfl
@[simp] theorem State.offerHitch_frd (s : State) (o : HitchOutcome) (a b : Nat) : (s.offerHitch o a b).frd = s.frd := rfl
@[simp] theorem State.offerHitch_htc (s : State) (o : HitchOutcome) (a b : Nat) : (s.offerHitch o a b).htc = s.htc := rfl
@[simp] theorem State.offerHitch_tbc (s : State) (o : HitchOutcome) (a b : Nat) : (s.offerHitch o a b).tbc = s.tbc := rfl
@[simp] theorem State.offerHitch_rlk (s : State) (o : HitchOutcome) (a b : Nat) : (s.offerHitch o a b).rlk = s.rlk := rfl
@[simp] theorem State.offerHitch_draws (s : State) (o : HitchOutcome) (a b : Nat) : (s.offerHitch o a b).draws = s.draws := rfl

/-! ### offerFront -/

@[simp] theorem State.offerFront_pending (s : State) : (s.offerFront).pending = s.pending := rfl
@[simp] theorem State.offerFront_heldInReset (s : State) : (s.offerFront).heldInReset = s.heldInReset := rfl
@[simp] theorem State.offerFront_straps (s : State) : (s.offerFront).straps = s.straps := rfl
@[simp] theorem State.offerFront_mfe (s : State) : (s.offerFront).mfe = s.mfe := rfl
@[simp] theorem State.offerFront_tre (s : State) : (s.offerFront).tre = s.tre := rfl
@[simp] theorem State.offerFront_cpt (s : State) : (s.offerFront).cpt = s.cpt := rfl
@[simp] theorem State.offerFront_rmp (s : State) : (s.offerFront).rmp = s.rmp := rfl
@[simp] theorem State.offerFront_packs (s : State) : (s.offerFront).packs = s.packs := rfl
@[simp] theorem State.offerFront_fsa (s : State) : (s.offerFront).fsa = s.fsa := rfl
@[simp] theorem State.offerFront_she (s : State) : (s.offerFront).she = s.she := rfl
@[simp] theorem State.offerFront_cau (s : State) : (s.offerFront).cau = s.cau := rfl
@[simp] theorem State.offerFront_frd (s : State) : (s.offerFront).frd = s.frd := rfl
@[simp] theorem State.offerFront_htc (s : State) : (s.offerFront).htc = s.htc := rfl
@[simp] theorem State.offerFront_tbc (s : State) : (s.offerFront).tbc = s.tbc := rfl
@[simp] theorem State.offerFront_rlk (s : State) : (s.offerFront).rlk = s.rlk := rfl
@[simp] theorem State.offerFront_draws (s : State) : (s.offerFront).draws = s.draws := rfl

/-! ### offerLimit -/

@[simp] theorem State.offerLimit_pending (s : State) (p : PackId) (c : OnsetClass) : (s.offerLimit p c).pending = s.pending := rfl
@[simp] theorem State.offerLimit_heldInReset (s : State) (p : PackId) (c : OnsetClass) : (s.offerLimit p c).heldInReset = s.heldInReset := rfl
@[simp] theorem State.offerLimit_straps (s : State) (p : PackId) (c : OnsetClass) : (s.offerLimit p c).straps = s.straps := rfl
@[simp] theorem State.offerLimit_mfe (s : State) (p : PackId) (c : OnsetClass) : (s.offerLimit p c).mfe = s.mfe := rfl
@[simp] theorem State.offerLimit_tre (s : State) (p : PackId) (c : OnsetClass) : (s.offerLimit p c).tre = s.tre := rfl
@[simp] theorem State.offerLimit_cpt (s : State) (p : PackId) (c : OnsetClass) : (s.offerLimit p c).cpt = s.cpt := rfl
@[simp] theorem State.offerLimit_rmp (s : State) (p : PackId) (c : OnsetClass) : (s.offerLimit p c).rmp = s.rmp := rfl
@[simp] theorem State.offerLimit_packs (s : State) (p : PackId) (c : OnsetClass) : (s.offerLimit p c).packs = s.packs := rfl
@[simp] theorem State.offerLimit_fsa (s : State) (p : PackId) (c : OnsetClass) : (s.offerLimit p c).fsa = s.fsa := rfl
@[simp] theorem State.offerLimit_she (s : State) (p : PackId) (c : OnsetClass) : (s.offerLimit p c).she = s.she := rfl
@[simp] theorem State.offerLimit_cau (s : State) (p : PackId) (c : OnsetClass) : (s.offerLimit p c).cau = s.cau := rfl
@[simp] theorem State.offerLimit_frd (s : State) (p : PackId) (c : OnsetClass) : (s.offerLimit p c).frd = s.frd := rfl
@[simp] theorem State.offerLimit_htc (s : State) (p : PackId) (c : OnsetClass) : (s.offerLimit p c).htc = s.htc := rfl
@[simp] theorem State.offerLimit_tbc (s : State) (p : PackId) (c : OnsetClass) : (s.offerLimit p c).tbc = s.tbc := rfl
@[simp] theorem State.offerLimit_rlk (s : State) (p : PackId) (c : OnsetClass) : (s.offerLimit p c).rlk = s.rlk := rfl
@[simp] theorem State.offerLimit_draws (s : State) (p : PackId) (c : OnsetClass) : (s.offerLimit p c).draws = s.draws := rfl

/-! ### offerCoupling -/

@[simp] theorem State.offerCoupling_pending (s : State) (r : CplReport) : (s.offerCoupling r).pending = s.pending := rfl
@[simp] theorem State.offerCoupling_heldInReset (s : State) (r : CplReport) : (s.offerCoupling r).heldInReset = s.heldInReset := rfl
@[simp] theorem State.offerCoupling_straps (s : State) (r : CplReport) : (s.offerCoupling r).straps = s.straps := rfl
@[simp] theorem State.offerCoupling_mfe (s : State) (r : CplReport) : (s.offerCoupling r).mfe = s.mfe := rfl
@[simp] theorem State.offerCoupling_tre (s : State) (r : CplReport) : (s.offerCoupling r).tre = s.tre := rfl
@[simp] theorem State.offerCoupling_cpt (s : State) (r : CplReport) : (s.offerCoupling r).cpt = s.cpt := rfl
@[simp] theorem State.offerCoupling_rmp (s : State) (r : CplReport) : (s.offerCoupling r).rmp = s.rmp := rfl
@[simp] theorem State.offerCoupling_packs (s : State) (r : CplReport) : (s.offerCoupling r).packs = s.packs := rfl
@[simp] theorem State.offerCoupling_fsa (s : State) (r : CplReport) : (s.offerCoupling r).fsa = s.fsa := rfl
@[simp] theorem State.offerCoupling_she (s : State) (r : CplReport) : (s.offerCoupling r).she = s.she := rfl
@[simp] theorem State.offerCoupling_cau (s : State) (r : CplReport) : (s.offerCoupling r).cau = s.cau := rfl
@[simp] theorem State.offerCoupling_frd (s : State) (r : CplReport) : (s.offerCoupling r).frd = s.frd := rfl
@[simp] theorem State.offerCoupling_htc (s : State) (r : CplReport) : (s.offerCoupling r).htc = s.htc := rfl
@[simp] theorem State.offerCoupling_tbc (s : State) (r : CplReport) : (s.offerCoupling r).tbc = s.tbc := rfl
@[simp] theorem State.offerCoupling_rlk (s : State) (r : CplReport) : (s.offerCoupling r).rlk = s.rlk := rfl
@[simp] theorem State.offerCoupling_draws (s : State) (r : CplReport) : (s.offerCoupling r).draws = s.draws := rfl

/-! ### offerCharge -/

@[simp] theorem State.offerCharge_pending (s : State) : (s.offerCharge).pending = s.pending := rfl
@[simp] theorem State.offerCharge_heldInReset (s : State) : (s.offerCharge).heldInReset = s.heldInReset := rfl
@[simp] theorem State.offerCharge_straps (s : State) : (s.offerCharge).straps = s.straps := rfl
@[simp] theorem State.offerCharge_mfe (s : State) : (s.offerCharge).mfe = s.mfe := rfl
@[simp] theorem State.offerCharge_tre (s : State) : (s.offerCharge).tre = s.tre := rfl
@[simp] theorem State.offerCharge_cpt (s : State) : (s.offerCharge).cpt = s.cpt := rfl
@[simp] theorem State.offerCharge_rmp (s : State) : (s.offerCharge).rmp = s.rmp := rfl
@[simp] theorem State.offerCharge_packs (s : State) : (s.offerCharge).packs = s.packs := rfl
@[simp] theorem State.offerCharge_fsa (s : State) : (s.offerCharge).fsa = s.fsa := rfl
@[simp] theorem State.offerCharge_she (s : State) : (s.offerCharge).she = s.she := rfl
@[simp] theorem State.offerCharge_cau (s : State) : (s.offerCharge).cau = s.cau := rfl
@[simp] theorem State.offerCharge_frd (s : State) : (s.offerCharge).frd = s.frd := rfl
@[simp] theorem State.offerCharge_htc (s : State) : (s.offerCharge).htc = s.htc := rfl
@[simp] theorem State.offerCharge_tbc (s : State) : (s.offerCharge).tbc = s.tbc := rfl
@[simp] theorem State.offerCharge_rlk (s : State) : (s.offerCharge).rlk = s.rlk := rfl
@[simp] theorem State.offerCharge_draws (s : State) : (s.offerCharge).draws = s.draws := rfl

/-! ### offerLineFault -/

@[simp] theorem State.offerLineFault_pending (s : State) : (s.offerLineFault).pending = s.pending := rfl
@[simp] theorem State.offerLineFault_heldInReset (s : State) : (s.offerLineFault).heldInReset = s.heldInReset := rfl
@[simp] theorem State.offerLineFault_straps (s : State) : (s.offerLineFault).straps = s.straps := rfl
@[simp] theorem State.offerLineFault_mfe (s : State) : (s.offerLineFault).mfe = s.mfe := rfl
@[simp] theorem State.offerLineFault_tre (s : State) : (s.offerLineFault).tre = s.tre := rfl
@[simp] theorem State.offerLineFault_cpt (s : State) : (s.offerLineFault).cpt = s.cpt := rfl
@[simp] theorem State.offerLineFault_rmp (s : State) : (s.offerLineFault).rmp = s.rmp := rfl
@[simp] theorem State.offerLineFault_packs (s : State) : (s.offerLineFault).packs = s.packs := rfl
@[simp] theorem State.offerLineFault_fsa (s : State) : (s.offerLineFault).fsa = s.fsa := rfl
@[simp] theorem State.offerLineFault_she (s : State) : (s.offerLineFault).she = s.she := rfl
@[simp] theorem State.offerLineFault_cau (s : State) : (s.offerLineFault).cau = s.cau := rfl
@[simp] theorem State.offerLineFault_frd (s : State) : (s.offerLineFault).frd = s.frd := rfl
@[simp] theorem State.offerLineFault_htc (s : State) : (s.offerLineFault).htc = s.htc := rfl
@[simp] theorem State.offerLineFault_tbc (s : State) : (s.offerLineFault).tbc = s.tbc := rfl
@[simp] theorem State.offerLineFault_rlk (s : State) : (s.offerLineFault).rlk = s.rlk := rfl
@[simp] theorem State.offerLineFault_draws (s : State) : (s.offerLineFault).draws = s.draws := rfl

/-! ### offerPedalLoss -/

@[simp] theorem State.offerPedalLoss_pending (s : State) : (s.offerPedalLoss).pending = s.pending := rfl
@[simp] theorem State.offerPedalLoss_heldInReset (s : State) : (s.offerPedalLoss).heldInReset = s.heldInReset := rfl
@[simp] theorem State.offerPedalLoss_straps (s : State) : (s.offerPedalLoss).straps = s.straps := rfl
@[simp] theorem State.offerPedalLoss_mfe (s : State) : (s.offerPedalLoss).mfe = s.mfe := rfl
@[simp] theorem State.offerPedalLoss_tre (s : State) : (s.offerPedalLoss).tre = s.tre := rfl
@[simp] theorem State.offerPedalLoss_cpt (s : State) : (s.offerPedalLoss).cpt = s.cpt := rfl
@[simp] theorem State.offerPedalLoss_rmp (s : State) : (s.offerPedalLoss).rmp = s.rmp := rfl
@[simp] theorem State.offerPedalLoss_packs (s : State) : (s.offerPedalLoss).packs = s.packs := rfl
@[simp] theorem State.offerPedalLoss_fsa (s : State) : (s.offerPedalLoss).fsa = s.fsa := rfl
@[simp] theorem State.offerPedalLoss_she (s : State) : (s.offerPedalLoss).she = s.she := rfl
@[simp] theorem State.offerPedalLoss_cau (s : State) : (s.offerPedalLoss).cau = s.cau := rfl
@[simp] theorem State.offerPedalLoss_frd (s : State) : (s.offerPedalLoss).frd = s.frd := rfl
@[simp] theorem State.offerPedalLoss_htc (s : State) : (s.offerPedalLoss).htc = s.htc := rfl
@[simp] theorem State.offerPedalLoss_tbc (s : State) : (s.offerPedalLoss).tbc = s.tbc := rfl
@[simp] theorem State.offerPedalLoss_rlk (s : State) : (s.offerPedalLoss).rlk = s.rlk := rfl
@[simp] theorem State.offerPedalLoss_draws (s : State) : (s.offerPedalLoss).draws = s.draws := rfl

/-! ### offerDraftLost -/

@[simp] theorem State.offerDraftLost_pending (s : State) : (s.offerDraftLost).pending = s.pending := rfl
@[simp] theorem State.offerDraftLost_heldInReset (s : State) : (s.offerDraftLost).heldInReset = s.heldInReset := rfl
@[simp] theorem State.offerDraftLost_straps (s : State) : (s.offerDraftLost).straps = s.straps := rfl
@[simp] theorem State.offerDraftLost_mfe (s : State) : (s.offerDraftLost).mfe = s.mfe := rfl
@[simp] theorem State.offerDraftLost_tre (s : State) : (s.offerDraftLost).tre = s.tre := rfl
@[simp] theorem State.offerDraftLost_cpt (s : State) : (s.offerDraftLost).cpt = s.cpt := rfl
@[simp] theorem State.offerDraftLost_rmp (s : State) : (s.offerDraftLost).rmp = s.rmp := rfl
@[simp] theorem State.offerDraftLost_packs (s : State) : (s.offerDraftLost).packs = s.packs := rfl
@[simp] theorem State.offerDraftLost_fsa (s : State) : (s.offerDraftLost).fsa = s.fsa := rfl
@[simp] theorem State.offerDraftLost_she (s : State) : (s.offerDraftLost).she = s.she := rfl
@[simp] theorem State.offerDraftLost_cau (s : State) : (s.offerDraftLost).cau = s.cau := rfl
@[simp] theorem State.offerDraftLost_frd (s : State) : (s.offerDraftLost).frd = s.frd := rfl
@[simp] theorem State.offerDraftLost_htc (s : State) : (s.offerDraftLost).htc = s.htc := rfl
@[simp] theorem State.offerDraftLost_tbc (s : State) : (s.offerDraftLost).tbc = s.tbc := rfl
@[simp] theorem State.offerDraftLost_rlk (s : State) : (s.offerDraftLost).rlk = s.rlk := rfl
@[simp] theorem State.offerDraftLost_draws (s : State) : (s.offerDraftLost).draws = s.draws := rfl

/-! ### orderPacks -/

@[simp] theorem State.orderPacks_pending (s : State) (ps : List PackId) (g : PackRecord → PackRecord) : (s.orderPacks ps g).pending = s.pending := rfl
@[simp] theorem State.orderPacks_heldInReset (s : State) (ps : List PackId) (g : PackRecord → PackRecord) : (s.orderPacks ps g).heldInReset = s.heldInReset := rfl
@[simp] theorem State.orderPacks_straps (s : State) (ps : List PackId) (g : PackRecord → PackRecord) : (s.orderPacks ps g).straps = s.straps := rfl
@[simp] theorem State.orderPacks_mfe (s : State) (ps : List PackId) (g : PackRecord → PackRecord) : (s.orderPacks ps g).mfe = s.mfe := rfl
@[simp] theorem State.orderPacks_tre (s : State) (ps : List PackId) (g : PackRecord → PackRecord) : (s.orderPacks ps g).tre = s.tre := rfl
@[simp] theorem State.orderPacks_cpt (s : State) (ps : List PackId) (g : PackRecord → PackRecord) : (s.orderPacks ps g).cpt = s.cpt := rfl
@[simp] theorem State.orderPacks_rmp (s : State) (ps : List PackId) (g : PackRecord → PackRecord) : (s.orderPacks ps g).rmp = s.rmp := rfl
@[simp] theorem State.orderPacks_fsa (s : State) (ps : List PackId) (g : PackRecord → PackRecord) : (s.orderPacks ps g).fsa = s.fsa := rfl
@[simp] theorem State.orderPacks_she (s : State) (ps : List PackId) (g : PackRecord → PackRecord) : (s.orderPacks ps g).she = s.she := rfl
@[simp] theorem State.orderPacks_cau (s : State) (ps : List PackId) (g : PackRecord → PackRecord) : (s.orderPacks ps g).cau = s.cau := rfl
@[simp] theorem State.orderPacks_frd (s : State) (ps : List PackId) (g : PackRecord → PackRecord) : (s.orderPacks ps g).frd = s.frd := rfl
@[simp] theorem State.orderPacks_htc (s : State) (ps : List PackId) (g : PackRecord → PackRecord) : (s.orderPacks ps g).htc = s.htc := rfl
@[simp] theorem State.orderPacks_tbc (s : State) (ps : List PackId) (g : PackRecord → PackRecord) : (s.orderPacks ps g).tbc = s.tbc := rfl
@[simp] theorem State.orderPacks_rlk (s : State) (ps : List PackId) (g : PackRecord → PackRecord) : (s.orderPacks ps g).rlk = s.rlk := rfl
@[simp] theorem State.orderPacks_nts (s : State) (ps : List PackId) (g : PackRecord → PackRecord) : (s.orderPacks ps g).nts = s.nts := rfl
@[simp] theorem State.orderPacks_draws (s : State) (ps : List PackId) (g : PackRecord → PackRecord) : (s.orderPacks ps g).draws = s.draws := rfl

/-! ### releaseGearbox -/

@[simp] theorem State.releaseGearbox_pending (s : State) : (s.releaseGearbox).pending = s.pending := rfl
@[simp] theorem State.releaseGearbox_heldInReset (s : State) : (s.releaseGearbox).heldInReset = s.heldInReset := rfl
@[simp] theorem State.releaseGearbox_straps (s : State) : (s.releaseGearbox).straps = s.straps := rfl
@[simp] theorem State.releaseGearbox_mfe (s : State) : (s.releaseGearbox).mfe = s.mfe := rfl
@[simp] theorem State.releaseGearbox_tre (s : State) : (s.releaseGearbox).tre = s.tre := rfl
@[simp] theorem State.releaseGearbox_cpt (s : State) : (s.releaseGearbox).cpt = s.cpt := rfl
@[simp] theorem State.releaseGearbox_rmp (s : State) : (s.releaseGearbox).rmp = s.rmp := rfl
@[simp] theorem State.releaseGearbox_fsa (s : State) : (s.releaseGearbox).fsa = s.fsa := rfl
@[simp] theorem State.releaseGearbox_she (s : State) : (s.releaseGearbox).she = s.she := rfl
@[simp] theorem State.releaseGearbox_cau (s : State) : (s.releaseGearbox).cau = s.cau := rfl
@[simp] theorem State.releaseGearbox_frd (s : State) : (s.releaseGearbox).frd = s.frd := rfl
@[simp] theorem State.releaseGearbox_htc (s : State) : (s.releaseGearbox).htc = s.htc := rfl
@[simp] theorem State.releaseGearbox_tbc (s : State) : (s.releaseGearbox).tbc = s.tbc := rfl
@[simp] theorem State.releaseGearbox_rlk (s : State) : (s.releaseGearbox).rlk = s.rlk := rfl
@[simp] theorem State.releaseGearbox_nts (s : State) : (s.releaseGearbox).nts = s.nts := rfl
@[simp] theorem State.releaseGearbox_draws (s : State) : (s.releaseGearbox).draws = s.draws := rfl

/-! ### reform -/

@[simp] theorem State.reform_pending (s : State) (f : RatioEntry → Bool) : (s.reform f).pending = s.pending := rfl
@[simp] theorem State.reform_heldInReset (s : State) (f : RatioEntry → Bool) : (s.reform f).heldInReset = s.heldInReset := rfl
@[simp] theorem State.reform_straps (s : State) (f : RatioEntry → Bool) : (s.reform f).straps = s.straps := rfl
@[simp] theorem State.reform_mfe (s : State) (f : RatioEntry → Bool) : (s.reform f).mfe = s.mfe := rfl
@[simp] theorem State.reform_tre (s : State) (f : RatioEntry → Bool) : (s.reform f).tre = s.tre := rfl
@[simp] theorem State.reform_cpt (s : State) (f : RatioEntry → Bool) : (s.reform f).cpt = s.cpt := rfl
@[simp] theorem State.reform_packs (s : State) (f : RatioEntry → Bool) : (s.reform f).packs = s.packs := rfl
@[simp] theorem State.reform_fsa (s : State) (f : RatioEntry → Bool) : (s.reform f).fsa = s.fsa := rfl
@[simp] theorem State.reform_she (s : State) (f : RatioEntry → Bool) : (s.reform f).she = s.she := rfl
@[simp] theorem State.reform_cau (s : State) (f : RatioEntry → Bool) : (s.reform f).cau = s.cau := rfl
@[simp] theorem State.reform_frd (s : State) (f : RatioEntry → Bool) : (s.reform f).frd = s.frd := rfl
@[simp] theorem State.reform_htc (s : State) (f : RatioEntry → Bool) : (s.reform f).htc = s.htc := rfl
@[simp] theorem State.reform_tbc (s : State) (f : RatioEntry → Bool) : (s.reform f).tbc = s.tbc := rfl
@[simp] theorem State.reform_rlk (s : State) (f : RatioEntry → Bool) : (s.reform f).rlk = s.rlk := rfl
@[simp] theorem State.reform_nts (s : State) (f : RatioEntry → Bool) : (s.reform f).nts = s.nts := rfl
@[simp] theorem State.reform_draws (s : State) (f : RatioEntry → Bool) : (s.reform f).draws = s.draws := rfl

/-! ### cancelSupply -/

@[simp] theorem State.cancelSupply_pending (s : State) (r : Requester) : (s.cancelSupply r).pending = s.pending := rfl
@[simp] theorem State.cancelSupply_heldInReset (s : State) (r : Requester) : (s.cancelSupply r).heldInReset = s.heldInReset := rfl
@[simp] theorem State.cancelSupply_straps (s : State) (r : Requester) : (s.cancelSupply r).straps = s.straps := rfl
@[simp] theorem State.cancelSupply_mfe (s : State) (r : Requester) : (s.cancelSupply r).mfe = s.mfe := rfl
@[simp] theorem State.cancelSupply_tre (s : State) (r : Requester) : (s.cancelSupply r).tre = s.tre := rfl
@[simp] theorem State.cancelSupply_cpt (s : State) (r : Requester) : (s.cancelSupply r).cpt = s.cpt := rfl
@[simp] theorem State.cancelSupply_rmp (s : State) (r : Requester) : (s.cancelSupply r).rmp = s.rmp := rfl
@[simp] theorem State.cancelSupply_packs (s : State) (r : Requester) : (s.cancelSupply r).packs = s.packs := rfl
@[simp] theorem State.cancelSupply_she (s : State) (r : Requester) : (s.cancelSupply r).she = s.she := rfl
@[simp] theorem State.cancelSupply_cau (s : State) (r : Requester) : (s.cancelSupply r).cau = s.cau := rfl
@[simp] theorem State.cancelSupply_frd (s : State) (r : Requester) : (s.cancelSupply r).frd = s.frd := rfl
@[simp] theorem State.cancelSupply_htc (s : State) (r : Requester) : (s.cancelSupply r).htc = s.htc := rfl
@[simp] theorem State.cancelSupply_tbc (s : State) (r : Requester) : (s.cancelSupply r).tbc = s.tbc := rfl
@[simp] theorem State.cancelSupply_rlk (s : State) (r : Requester) : (s.cancelSupply r).rlk = s.rlk := rfl
@[simp] theorem State.cancelSupply_nts (s : State) (r : Requester) : (s.cancelSupply r).nts = s.nts := rfl
@[simp] theorem State.cancelSupply_draws (s : State) (r : Requester) : (s.cancelSupply r).draws = s.draws := rfl

/-! ### startFill -/

@[simp] theorem State.startFill_pending (s : State) (ps : List PackId) : (s.startFill ps).pending = s.pending := rfl
@[simp] theorem State.startFill_heldInReset (s : State) (ps : List PackId) : (s.startFill ps).heldInReset = s.heldInReset := rfl
@[simp] theorem State.startFill_straps (s : State) (ps : List PackId) : (s.startFill ps).straps = s.straps := rfl
@[simp] theorem State.startFill_mfe (s : State) (ps : List PackId) : (s.startFill ps).mfe = s.mfe := rfl
@[simp] theorem State.startFill_tre (s : State) (ps : List PackId) : (s.startFill ps).tre = s.tre := rfl
@[simp] theorem State.startFill_cpt (s : State) (ps : List PackId) : (s.startFill ps).cpt = s.cpt := rfl
@[simp] theorem State.startFill_rmp (s : State) (ps : List PackId) : (s.startFill ps).rmp = s.rmp := rfl
@[simp] theorem State.startFill_she (s : State) (ps : List PackId) : (s.startFill ps).she = s.she := rfl
@[simp] theorem State.startFill_cau (s : State) (ps : List PackId) : (s.startFill ps).cau = s.cau := rfl
@[simp] theorem State.startFill_frd (s : State) (ps : List PackId) : (s.startFill ps).frd = s.frd := rfl
@[simp] theorem State.startFill_htc (s : State) (ps : List PackId) : (s.startFill ps).htc = s.htc := rfl
@[simp] theorem State.startFill_tbc (s : State) (ps : List PackId) : (s.startFill ps).tbc = s.tbc := rfl
@[simp] theorem State.startFill_rlk (s : State) (ps : List PackId) : (s.startFill ps).rlk = s.rlk := rfl
@[simp] theorem State.startFill_nts (s : State) (ps : List PackId) : (s.startFill ps).nts = s.nts := rfl
@[simp] theorem State.startFill_draws (s : State) (ps : List PackId) : (s.startFill ps).draws = s.draws := rfl

/-! ### formLoadIndex -/

@[simp] theorem State.formLoadIndex_pending (s : State) : (s.formLoadIndex).pending = s.pending := rfl
@[simp] theorem State.formLoadIndex_heldInReset (s : State) : (s.formLoadIndex).heldInReset = s.heldInReset := rfl
@[simp] theorem State.formLoadIndex_straps (s : State) : (s.formLoadIndex).straps = s.straps := rfl
@[simp] theorem State.formLoadIndex_mfe (s : State) : (s.formLoadIndex).mfe = s.mfe := rfl
@[simp] theorem State.formLoadIndex_cpt (s : State) : (s.formLoadIndex).cpt = s.cpt := rfl
@[simp] theorem State.formLoadIndex_rmp (s : State) : (s.formLoadIndex).rmp = s.rmp := rfl
@[simp] theorem State.formLoadIndex_packs (s : State) : (s.formLoadIndex).packs = s.packs := rfl
@[simp] theorem State.formLoadIndex_fsa (s : State) : (s.formLoadIndex).fsa = s.fsa := rfl
@[simp] theorem State.formLoadIndex_she (s : State) : (s.formLoadIndex).she = s.she := rfl
@[simp] theorem State.formLoadIndex_cau (s : State) : (s.formLoadIndex).cau = s.cau := rfl
@[simp] theorem State.formLoadIndex_frd (s : State) : (s.formLoadIndex).frd = s.frd := rfl
@[simp] theorem State.formLoadIndex_htc (s : State) : (s.formLoadIndex).htc = s.htc := rfl
@[simp] theorem State.formLoadIndex_tbc (s : State) : (s.formLoadIndex).tbc = s.tbc := rfl
@[simp] theorem State.formLoadIndex_rlk (s : State) : (s.formLoadIndex).rlk = s.rlk := rfl
@[simp] theorem State.formLoadIndex_nts (s : State) : (s.formLoadIndex).nts = s.nts := rfl
@[simp] theorem State.formLoadIndex_draws (s : State) : (s.formLoadIndex).draws = s.draws := rfl

/-! ### raiseLatch -/

@[simp] theorem State.raiseLatch_pending (s : State) : (s.raiseLatch).pending = s.pending := rfl
@[simp] theorem State.raiseLatch_heldInReset (s : State) : (s.raiseLatch).heldInReset = s.heldInReset := rfl
@[simp] theorem State.raiseLatch_straps (s : State) : (s.raiseLatch).straps = s.straps := rfl
@[simp] theorem State.raiseLatch_mfe (s : State) : (s.raiseLatch).mfe = s.mfe := rfl
@[simp] theorem State.raiseLatch_cpt (s : State) : (s.raiseLatch).cpt = s.cpt := rfl
@[simp] theorem State.raiseLatch_rmp (s : State) : (s.raiseLatch).rmp = s.rmp := rfl
@[simp] theorem State.raiseLatch_packs (s : State) : (s.raiseLatch).packs = s.packs := rfl
@[simp] theorem State.raiseLatch_fsa (s : State) : (s.raiseLatch).fsa = s.fsa := rfl
@[simp] theorem State.raiseLatch_cau (s : State) : (s.raiseLatch).cau = s.cau := rfl
@[simp] theorem State.raiseLatch_frd (s : State) : (s.raiseLatch).frd = s.frd := rfl
@[simp] theorem State.raiseLatch_tbc (s : State) : (s.raiseLatch).tbc = s.tbc := rfl
@[simp] theorem State.raiseLatch_rlk (s : State) : (s.raiseLatch).rlk = s.rlk := rfl
@[simp] theorem State.raiseLatch_nts (s : State) : (s.raiseLatch).nts = s.nts := rfl
@[simp] theorem State.raiseLatch_draws (s : State) : (s.raiseLatch).draws = s.draws := rfl

/-! ### endCalibration -/

@[simp] theorem State.endCalibration_pending (s : State) : (s.endCalibration).pending = s.pending := rfl
@[simp] theorem State.endCalibration_heldInReset (s : State) : (s.endCalibration).heldInReset = s.heldInReset := rfl
@[simp] theorem State.endCalibration_straps (s : State) : (s.endCalibration).straps = s.straps := rfl
@[simp] theorem State.endCalibration_mfe (s : State) : (s.endCalibration).mfe = s.mfe := rfl
@[simp] theorem State.endCalibration_tre (s : State) : (s.endCalibration).tre = s.tre := rfl
@[simp] theorem State.endCalibration_cpt (s : State) : (s.endCalibration).cpt = s.cpt := rfl
@[simp] theorem State.endCalibration_rmp (s : State) : (s.endCalibration).rmp = s.rmp := rfl
@[simp] theorem State.endCalibration_packs (s : State) : (s.endCalibration).packs = s.packs := rfl
@[simp] theorem State.endCalibration_fsa (s : State) : (s.endCalibration).fsa = s.fsa := rfl
@[simp] theorem State.endCalibration_frd (s : State) : (s.endCalibration).frd = s.frd := rfl
@[simp] theorem State.endCalibration_htc (s : State) : (s.endCalibration).htc = s.htc := rfl
@[simp] theorem State.endCalibration_tbc (s : State) : (s.endCalibration).tbc = s.tbc := rfl
@[simp] theorem State.endCalibration_rlk (s : State) : (s.endCalibration).rlk = s.rlk := rfl
@[simp] theorem State.endCalibration_nts (s : State) : (s.endCalibration).nts = s.nts := rfl
@[simp] theorem State.endCalibration_draws (s : State) : (s.endCalibration).draws = s.draws := rfl

/-! ### settleReply -/

@[simp] theorem State.settleReply_pending (s : State) (n : Nat) : (s.settleReply n).pending = s.pending := rfl
@[simp] theorem State.settleReply_heldInReset (s : State) (n : Nat) : (s.settleReply n).heldInReset = s.heldInReset := rfl
@[simp] theorem State.settleReply_straps (s : State) (n : Nat) : (s.settleReply n).straps = s.straps := rfl
@[simp] theorem State.settleReply_mfe (s : State) (n : Nat) : (s.settleReply n).mfe = s.mfe := rfl
@[simp] theorem State.settleReply_tre (s : State) (n : Nat) : (s.settleReply n).tre = s.tre := rfl
@[simp] theorem State.settleReply_cpt (s : State) (n : Nat) : (s.settleReply n).cpt = s.cpt := rfl
@[simp] theorem State.settleReply_rmp (s : State) (n : Nat) : (s.settleReply n).rmp = s.rmp := rfl
@[simp] theorem State.settleReply_packs (s : State) (n : Nat) : (s.settleReply n).packs = s.packs := rfl
@[simp] theorem State.settleReply_fsa (s : State) (n : Nat) : (s.settleReply n).fsa = s.fsa := rfl
@[simp] theorem State.settleReply_she (s : State) (n : Nat) : (s.settleReply n).she = s.she := rfl
@[simp] theorem State.settleReply_cau (s : State) (n : Nat) : (s.settleReply n).cau = s.cau := rfl
@[simp] theorem State.settleReply_frd (s : State) (n : Nat) : (s.settleReply n).frd = s.frd := rfl
@[simp] theorem State.settleReply_htc (s : State) (n : Nat) : (s.settleReply n).htc = s.htc := rfl
@[simp] theorem State.settleReply_tbc (s : State) (n : Nat) : (s.settleReply n).tbc = s.tbc := rfl
@[simp] theorem State.settleReply_nts (s : State) (n : Nat) : (s.settleReply n).nts = s.nts := rfl
@[simp] theorem State.settleReply_draws (s : State) (n : Nat) : (s.settleReply n).draws = s.draws := rfl

/-! ### windowShift -/

@[simp] theorem State.windowShift_pending (s : State) (n : Nat) : (s.windowShift n).pending = s.pending := rfl
@[simp] theorem State.windowShift_heldInReset (s : State) (n : Nat) : (s.windowShift n).heldInReset = s.heldInReset := rfl
@[simp] theorem State.windowShift_straps (s : State) (n : Nat) : (s.windowShift n).straps = s.straps := rfl
@[simp] theorem State.windowShift_mfe (s : State) (n : Nat) : (s.windowShift n).mfe = s.mfe := rfl
@[simp] theorem State.windowShift_tre (s : State) (n : Nat) : (s.windowShift n).tre = s.tre := rfl
@[simp] theorem State.windowShift_cpt (s : State) (n : Nat) : (s.windowShift n).cpt = s.cpt := rfl
@[simp] theorem State.windowShift_rmp (s : State) (n : Nat) : (s.windowShift n).rmp = s.rmp := rfl
@[simp] theorem State.windowShift_packs (s : State) (n : Nat) : (s.windowShift n).packs = s.packs := rfl
@[simp] theorem State.windowShift_fsa (s : State) (n : Nat) : (s.windowShift n).fsa = s.fsa := rfl
@[simp] theorem State.windowShift_she (s : State) (n : Nat) : (s.windowShift n).she = s.she := rfl
@[simp] theorem State.windowShift_cau (s : State) (n : Nat) : (s.windowShift n).cau = s.cau := rfl
@[simp] theorem State.windowShift_frd (s : State) (n : Nat) : (s.windowShift n).frd = s.frd := rfl
@[simp] theorem State.windowShift_htc (s : State) (n : Nat) : (s.windowShift n).htc = s.htc := rfl
@[simp] theorem State.windowShift_tbc (s : State) (n : Nat) : (s.windowShift n).tbc = s.tbc := rfl
@[simp] theorem State.windowShift_nts (s : State) (n : Nat) : (s.windowShift n).nts = s.nts := rfl
@[simp] theorem State.windowShift_draws (s : State) (n : Nat) : (s.windowShift n).draws = s.draws := rfl

/-! ### closeWindow -/

@[simp] theorem State.closeWindow_pending (s : State) : (s.closeWindow).pending = s.pending := rfl
@[simp] theorem State.closeWindow_heldInReset (s : State) : (s.closeWindow).heldInReset = s.heldInReset := rfl
@[simp] theorem State.closeWindow_straps (s : State) : (s.closeWindow).straps = s.straps := rfl
@[simp] theorem State.closeWindow_mfe (s : State) : (s.closeWindow).mfe = s.mfe := rfl
@[simp] theorem State.closeWindow_tre (s : State) : (s.closeWindow).tre = s.tre := rfl
@[simp] theorem State.closeWindow_cpt (s : State) : (s.closeWindow).cpt = s.cpt := rfl
@[simp] theorem State.closeWindow_rmp (s : State) : (s.closeWindow).rmp = s.rmp := rfl
@[simp] theorem State.closeWindow_packs (s : State) : (s.closeWindow).packs = s.packs := rfl
@[simp] theorem State.closeWindow_fsa (s : State) : (s.closeWindow).fsa = s.fsa := rfl
@[simp] theorem State.closeWindow_she (s : State) : (s.closeWindow).she = s.she := rfl
@[simp] theorem State.closeWindow_cau (s : State) : (s.closeWindow).cau = s.cau := rfl
@[simp] theorem State.closeWindow_frd (s : State) : (s.closeWindow).frd = s.frd := rfl
@[simp] theorem State.closeWindow_htc (s : State) : (s.closeWindow).htc = s.htc := rfl
@[simp] theorem State.closeWindow_tbc (s : State) : (s.closeWindow).tbc = s.tbc := rfl
@[simp] theorem State.closeWindow_nts (s : State) : (s.closeWindow).nts = s.nts := rfl
@[simp] theorem State.closeWindow_draws (s : State) : (s.closeWindow).draws = s.draws := rfl

/-! ### settleInput -/

@[simp] theorem State.settleInput_pending (s : State) (i : DInput) (b : Bool) : (s.settleInput i b).pending = s.pending := rfl
@[simp] theorem State.settleInput_heldInReset (s : State) (i : DInput) (b : Bool) : (s.settleInput i b).heldInReset = s.heldInReset := rfl
@[simp] theorem State.settleInput_straps (s : State) (i : DInput) (b : Bool) : (s.settleInput i b).straps = s.straps := rfl
@[simp] theorem State.settleInput_tre (s : State) (i : DInput) (b : Bool) : (s.settleInput i b).tre = s.tre := rfl
@[simp] theorem State.settleInput_cpt (s : State) (i : DInput) (b : Bool) : (s.settleInput i b).cpt = s.cpt := rfl
@[simp] theorem State.settleInput_rmp (s : State) (i : DInput) (b : Bool) : (s.settleInput i b).rmp = s.rmp := rfl
@[simp] theorem State.settleInput_packs (s : State) (i : DInput) (b : Bool) : (s.settleInput i b).packs = s.packs := rfl
@[simp] theorem State.settleInput_fsa (s : State) (i : DInput) (b : Bool) : (s.settleInput i b).fsa = s.fsa := rfl
@[simp] theorem State.settleInput_she (s : State) (i : DInput) (b : Bool) : (s.settleInput i b).she = s.she := rfl
@[simp] theorem State.settleInput_cau (s : State) (i : DInput) (b : Bool) : (s.settleInput i b).cau = s.cau := rfl
@[simp] theorem State.settleInput_frd (s : State) (i : DInput) (b : Bool) : (s.settleInput i b).frd = s.frd := rfl
@[simp] theorem State.settleInput_htc (s : State) (i : DInput) (b : Bool) : (s.settleInput i b).htc = s.htc := rfl
@[simp] theorem State.settleInput_tbc (s : State) (i : DInput) (b : Bool) : (s.settleInput i b).tbc = s.tbc := rfl
@[simp] theorem State.settleInput_rlk (s : State) (i : DInput) (b : Bool) : (s.settleInput i b).rlk = s.rlk := rfl
@[simp] theorem State.settleInput_nts (s : State) (i : DInput) (b : Bool) : (s.settleInput i b).nts = s.nts := rfl
@[simp] theorem State.settleInput_draws (s : State) (i : DInput) (b : Bool) : (s.settleInput i b).draws = s.draws := rfl

/-! ### roadSet -/

@[simp] theorem State.roadSet_pending (s : State) : (s.roadSet).pending = s.pending := rfl
@[simp] theorem State.roadSet_heldInReset (s : State) : (s.roadSet).heldInReset = s.heldInReset := rfl
@[simp] theorem State.roadSet_straps (s : State) : (s.roadSet).straps = s.straps := rfl
@[simp] theorem State.roadSet_mfe (s : State) : (s.roadSet).mfe = s.mfe := rfl
@[simp] theorem State.roadSet_tre (s : State) : (s.roadSet).tre = s.tre := rfl
@[simp] theorem State.roadSet_cpt (s : State) : (s.roadSet).cpt = s.cpt := rfl
@[simp] theorem State.roadSet_rmp (s : State) : (s.roadSet).rmp = s.rmp := rfl
@[simp] theorem State.roadSet_packs (s : State) : (s.roadSet).packs = s.packs := rfl
@[simp] theorem State.roadSet_fsa (s : State) : (s.roadSet).fsa = s.fsa := rfl
@[simp] theorem State.roadSet_she (s : State) : (s.roadSet).she = s.she := rfl
@[simp] theorem State.roadSet_cau (s : State) : (s.roadSet).cau = s.cau := rfl
@[simp] theorem State.roadSet_frd (s : State) : (s.roadSet).frd = s.frd := rfl
@[simp] theorem State.roadSet_tbc (s : State) : (s.roadSet).tbc = s.tbc := rfl
@[simp] theorem State.roadSet_rlk (s : State) : (s.roadSet).rlk = s.rlk := rfl
@[simp] theorem State.roadSet_nts (s : State) : (s.roadSet).nts = s.nts := rfl
@[simp] theorem State.roadSet_draws (s : State) : (s.roadSet).draws = s.draws := rfl

/-! ### roadCleared -/

@[simp] theorem State.roadCleared_pending (s : State) : (s.roadCleared).pending = s.pending := rfl
@[simp] theorem State.roadCleared_heldInReset (s : State) : (s.roadCleared).heldInReset = s.heldInReset := rfl
@[simp] theorem State.roadCleared_straps (s : State) : (s.roadCleared).straps = s.straps := rfl
@[simp] theorem State.roadCleared_mfe (s : State) : (s.roadCleared).mfe = s.mfe := rfl
@[simp] theorem State.roadCleared_tre (s : State) : (s.roadCleared).tre = s.tre := rfl
@[simp] theorem State.roadCleared_cpt (s : State) : (s.roadCleared).cpt = s.cpt := rfl
@[simp] theorem State.roadCleared_rmp (s : State) : (s.roadCleared).rmp = s.rmp := rfl
@[simp] theorem State.roadCleared_packs (s : State) : (s.roadCleared).packs = s.packs := rfl
@[simp] theorem State.roadCleared_fsa (s : State) : (s.roadCleared).fsa = s.fsa := rfl
@[simp] theorem State.roadCleared_she (s : State) : (s.roadCleared).she = s.she := rfl
@[simp] theorem State.roadCleared_cau (s : State) : (s.roadCleared).cau = s.cau := rfl
@[simp] theorem State.roadCleared_frd (s : State) : (s.roadCleared).frd = s.frd := rfl
@[simp] theorem State.roadCleared_tbc (s : State) : (s.roadCleared).tbc = s.tbc := rfl
@[simp] theorem State.roadCleared_rlk (s : State) : (s.roadCleared).rlk = s.rlk := rfl
@[simp] theorem State.roadCleared_nts (s : State) : (s.roadCleared).nts = s.nts := rfl
@[simp] theorem State.roadCleared_draws (s : State) : (s.roadCleared).draws = s.draws := rfl

/-! ### answered -/

@[simp] theorem State.answered_pending (s : State) (n : Nat) (r : Reply) : (s.answered n r).pending = s.pending := rfl
@[simp] theorem State.answered_heldInReset (s : State) (n : Nat) (r : Reply) : (s.answered n r).heldInReset = s.heldInReset := rfl
@[simp] theorem State.answered_straps (s : State) (n : Nat) (r : Reply) : (s.answered n r).straps = s.straps := rfl
@[simp] theorem State.answered_mfe (s : State) (n : Nat) (r : Reply) : (s.answered n r).mfe = s.mfe := rfl
@[simp] theorem State.answered_tre (s : State) (n : Nat) (r : Reply) : (s.answered n r).tre = s.tre := rfl
@[simp] theorem State.answered_cpt (s : State) (n : Nat) (r : Reply) : (s.answered n r).cpt = s.cpt := rfl
@[simp] theorem State.answered_rmp (s : State) (n : Nat) (r : Reply) : (s.answered n r).rmp = s.rmp := rfl
@[simp] theorem State.answered_packs (s : State) (n : Nat) (r : Reply) : (s.answered n r).packs = s.packs := rfl
@[simp] theorem State.answered_fsa (s : State) (n : Nat) (r : Reply) : (s.answered n r).fsa = s.fsa := rfl
@[simp] theorem State.answered_she (s : State) (n : Nat) (r : Reply) : (s.answered n r).she = s.she := rfl
@[simp] theorem State.answered_cau (s : State) (n : Nat) (r : Reply) : (s.answered n r).cau = s.cau := rfl
@[simp] theorem State.answered_frd (s : State) (n : Nat) (r : Reply) : (s.answered n r).frd = s.frd := rfl
@[simp] theorem State.answered_htc (s : State) (n : Nat) (r : Reply) : (s.answered n r).htc = s.htc := rfl
@[simp] theorem State.answered_tbc (s : State) (n : Nat) (r : Reply) : (s.answered n r).tbc = s.tbc := rfl
@[simp] theorem State.answered_nts (s : State) (n : Nat) (r : Reply) : (s.answered n r).nts = s.nts := rfl
@[simp] theorem State.answered_draws (s : State) (n : Nat) (r : Reply) : (s.answered n r).draws = s.draws := rfl

/-! ### What an offer does to the Notice Set -/

@[simp] theorem State.offer_nts (s : State) (r : Report) (d : List Byte) : (s.offer r d).nts = s.nts.offer r d := rfl

/-! ### The settled link -/

@[simp] theorem State.settleReply_window (s : State) (n : Nat) : (s.settleReply n).rlk.window = s.rlk.window := rfl
@[simp] theorem State.settleReply_road (s : State) (n : Nat) : (s.settleReply n).rlk.road = s.rlk.road := rfl
@[simp] theorem State.settleReply_shiftHold (s : State) (n : Nat) :
    (s.settleReply n).rlk.shiftHold = s.rlk.shiftHold := rfl
@[simp] theorem State.settleReply_receiver (s : State) (n : Nat) :
    (s.settleReply n).rlk.receiver = s.rlk.receiver := rfl
@[simp] theorem State.settleReply_pending_reply (s : State) (n : Nat) : (s.settleReply n).rlk.pending = none := rfl

end Sys2Proof.Machine
end

