-- ==== Sys2Proof/Laws/Link.lean ====
section
/-! SUPPORT. What a transaction and an event can do, said once for every command: a request answers
with its block's answer and reply, an event with its effect, where the event appends at most one
notice. -/

namespace Sys2Proof.Machine

/-! ## The order of an event's notices -/

/-- An event that appends at most one notice leaves the order as the offers made it. -/
theorem State.orderNotices_short {n : Nat} {s : State} (h : s.nts.notices.length ≤ n + 1) : s.orderNotices n = s := by
  unfold State.orderNotices
  have : (s.nts.notices.drop n).length ≤ 1 := by rw [List.length_drop]; omega
  exact if_pos this

/-- An offer lengthens the list of notices by at most one. -/
theorem NoticeSet.offer_length (n : NoticeSet) (r : Report) (d : List Byte) :
    (n.offer r d).notices.length ≤ n.notices.length + 1 := by
  unfold NoticeSet.offer
  split
  · split <;> simp
  · simp

/-- `insertAt` adds its notice and keeps the others. -/
theorem insertAt_perm (k : Nat) (x : Notice) (l : List Notice) : (insertAt k x l).Perm (x :: l) := by
  induction l generalizing k with
  | nil => cases k <;> simp [insertAt]
  | cons y l ih =>
    cases k with
    | zero => simp [insertAt]
    | succ k => exact ((ih k).cons y).trans (List.Perm.swap x y l)

/-- `shuffle` only reorders. -/
theorem shuffle_perm (rank : Nat → Nat) (l : List Notice) : (shuffle rank l).Perm l := by
  induction l with
  | nil => exact List.Perm.refl _
  | cons x l ih => exact (insertAt_perm _ x _).trans (ih.cons x)

/-- Ordering an event's notices only reorders them. -/
theorem State.orderNotices_perm (n : Nat) (s : State) :
    (s.orderNotices n).nts.notices.Perm s.nts.notices := by
  unfold State.orderNotices
  simp only
  split
  · exact List.Perm.refl _
  · have h := (shuffle_perm (Config.freeRank s.draws) (s.nts.notices.drop n)).append_left (s.nts.notices.take n)
    rwa [List.take_append_drop] at h

/-- Ordering an event's notices touches the list of notices and the draw counter alone. -/
theorem State.orderNotices_frame (n : Nat) (s : State) :
    ∃ l k, s.orderNotices n = { s with nts := { s.nts with notices := l }, draws := k } := by
  unfold State.orderNotices
  simp only
  split
  · exact ⟨s.nts.notices, s.draws, rfl⟩
  · exact ⟨_, _, rfl⟩

/-- Ordering an event's notices is exactly what `sameButOrder` says. -/
theorem State.orderNotices_sameButOrder (n : Nat) (s : State) : State.sameButOrder n s (s.orderNotices n) := by
  unfold State.orderNotices
  simp only
  split
  · refine ⟨s.nts.notices.drop n, s.draws, List.Perm.refl _, ?_⟩
    rw [List.take_append_drop]
  · exact ⟨_, _, shuffle_perm _ _, rfl⟩

/-! ## Either order -/

/-- Two blocks that take an event in either order come about in one of the two, up to the draw
counter. -/
theorem eitherOrder_cases (f g : State → State) (s : State) :
    ∃ k, eitherOrder f g s = { g (f s) with draws := k } ∨ eitherOrder f g s = { f (g s) with draws := k } := by
  unfold eitherOrder
  simp only
  split
  · exact ⟨(g (f s)).draws, Or.inl rfl⟩
  · split
    · exact ⟨s.draws + 1, Or.inl rfl⟩
    · exact ⟨s.draws + 1, Or.inr rfl⟩

/-- Where the two orders agree, that is what comes about. -/
theorem eitherOrder_same {f g : State → State} {s : State} (h : g (f s) = f (g s)) :
    eitherOrder f g s = g (f s) := by
  unfold eitherOrder; simp [h]

/-! ## Events -/

/-- An event while the part is held in reset changes nothing. -/
theorem event_held {f : State → State} {s : State} (h : s.heldInReset = true) : event f s = .next s := by
  simp [event, h]

/-- An event that appends at most one notice answers its effect. -/
theorem event_short {f : State → State} {s : State} (h : s.heldInReset = false)
    (hn : (f s).nts.notices.length ≤ s.nts.notices.length + 1) : event f s = .next (f s) := by
  simp [event, h, State.ordered, State.orderNotices_short hn]

/-- Every event answers a next state, its effect with its notices in some order. -/
theorem event_next (f : State → State) (s : State) : ∃ t, event f s = .next t := ⟨_, rfl⟩

/-- An event answers its effect, up to the order of its notices and the draw counter. -/
theorem event_effect (f : State → State) {s : State} (h : s.heldInReset = false) :
    ∃ l k, event f s = .next { f s with nts := { (f s).nts with notices := l }, draws := k } := by
  obtain ⟨l, k, e⟩ := State.orderNotices_frame s.nts.notices.length (f s)
  refine ⟨l, k, ?_⟩
  simp only [event, h, State.ordered, e]
  rfl

/-- An event answers its effect, up to the order of the notices it appended. -/
theorem event_sameButOrder (f : State → State) {s : State} (h : s.heldInReset = false) :
    ∃ t, event f s = .next t ∧ State.sameButOrder s.nts.notices.length (f s) t := by
  refine ⟨(f s).orderNotices s.nts.notices.length, by simp [event, h, State.ordered], ?_⟩
  exact State.orderNotices_sameButOrder _ _

/-! ## Transactions -/

theorem Link.shifts_eq (l : Link) (k : Nat) : clockOut l.pendingFrame k = l.shifts k := by
  unfold Link.shifts Link.pendingFrame clockOut
  cases l.pending <;> simp

theorem Link.settles_eq (l : Link) (k : Nat) : l.fate k = l.settles k := by
  unfold Link.settles Link.fate
  cases l.pending with
  | none => rfl
  | some r =>
    by_cases h : k < r.frame.length
    · have : ¬ r.frame.length ≤ k := by omega
      simp [h, this]
    · have : r.frame.length ≤ k := by omega
      simp [h, this]

/-- Settling the reply that was pending is what `settled` says. -/
theorem State.settleReply_eq (s : State) (k : Nat) : s.settleReply k = s.settled k := by
  simp [State.settleReply, State.settled, Link.shifts_eq, Link.settles_eq]

/-- Settling the old reply and putting a new one in the buffer is an answered transaction. -/
theorem State.settle_answer (s : State) (k : Nat) (r : Reply) :
    ({ s.settleReply k with rlk := { (s.settleReply k).rlk with pending := some r } } : State) = s.answered k r := by
  simp [State.settleReply, State.answered, Link.shifts_eq, Link.settles_eq]

/-- While the part is held in reset a transaction is not received. -/
theorem transaction_held {k : Nat} {take : State → State × Reply} {s : State} (h : s.heldInReset = true) :
    transaction k take s = .next s := by
  simp [transaction, h]

/-- While the start-up window runs a transaction only shifts out the pending reply. -/
theorem transaction_window {k : Nat} {take : State → State × Reply} {s : State} (h : s.heldInReset = false)
    (hw : s.rlk.window.isSome = true) : transaction k take s = .next (s.windowShift k) := by
  simp [transaction, h, hw]

/-- Every transaction answers a next state. -/
theorem transaction_next (k : Nat) (take : State → State × Reply) (s : State) :
    ∃ t, transaction k take s = .next t := ⟨_, rfl⟩

/-- A request carried out that appends at most one notice. -/
theorem request_ok {code : Byte} {n extra : Nat} {act : State → Answer} {s t : State} {p : List Byte}
    (h : s.listens) (ha : act (s.settleReply (n + 3 + extra)) = .ok t p)
    (hn : t.nts.notices.length ≤ s.nts.notices.length + 1) :
    request code n extra act s = .next { t with rlk := { t.rlk with pending := some ⟨code, .ok, p⟩ } } := by
  obtain ⟨h1, h2⟩ := h
  simp [request, transaction, h1, h2, ha, Answer.reply, State.orderNotices_short hn]

/-- A request carried out, up to the order of the notices it appended. -/
theorem request_sameButOrder {code : Byte} {n extra : Nat} {act : State → Answer} {s t : State} {p : List Byte}
    (h : s.listens) (ha : act (s.settleReply (n + 3 + extra)) = .ok t p) :
    ∃ u, request code n extra act s = .next u ∧
      State.sameButOrder s.nts.notices.length (t.pend ⟨code, .ok, p⟩) u := by
  obtain ⟨h1, h2⟩ := h
  obtain ⟨fresh, k, hp, e⟩ := State.orderNotices_sameButOrder s.nts.notices.length t
  refine ⟨{ t.orderNotices s.nts.notices.length with
      rlk := { (t.orderNotices s.nts.notices.length).rlk with pending := some ⟨code, .ok, p⟩ } }, ?_, ?_⟩
  · simp [request, transaction, h1, h2, ha, Answer.reply]
  · exact ⟨fresh, k, hp, by rw [e]; rfl⟩

/-- A refused request changes nothing but the link's reply. -/
theorem request_refused {code : Byte} {n extra : Nat} {act : State → Answer} {s : State} {status : Status}
    (h : s.listens) (ha : act (s.settleReply (n + 3 + extra)) = .refused status) :
    request code n extra act s = .next (s.answered (n + 3 + extra) ⟨code, status, []⟩) := by
  obtain ⟨h1, h2⟩ := h
  have hn : (s.settleReply (n + 3 + extra)).nts.notices.length ≤ s.nts.notices.length + 1 := by simp
  simp only [request, transaction, h1, h2, ha, Answer.reply, State.orderNotices_short hn]
  exact congrArg Host.Outcome.next (State.settle_answer s _ _)

/-- A request that reads: the state is unchanged but for the reply. -/
theorem request_reads {code : Byte} {n extra : Nat} {act : State → Answer} {s : State} {p : List Byte}
    (h : s.listens) (ha : act (s.settleReply (n + 3 + extra)) = .ok (s.settleReply (n + 3 + extra)) p) :
    request code n extra act s = .next (s.answered (n + 3 + extra) ⟨code, .ok, p⟩) := by
  rw [request_ok h ha (by simp)]
  exact congrArg Host.Outcome.next (State.settle_answer s _ _)

/-- Whatever a request answers, its reply is pending, its echo is its code, and a reply that is not OK
carries no payload. -/
theorem request_replies {code : Byte} {n extra : Nat} {act : State → Answer} {s : State} (h : s.listens) :
    ∃ t r, request code n extra act s = .next t ∧ t.rlk.pending = some r ∧ r.echo = code ∧
      (r.status ≠ .ok → r.payload = []) := by
  obtain ⟨h1, h2⟩ := h
  simp only [request, transaction, h1, h2]
  refine ⟨_, _, rfl, rfl, ?_, ?_⟩
  · cases ha : act (s.settleReply (n + 3 + extra)) <;> simp [Answer.reply]
  · cases ha : act (s.settleReply (n + 3 + extra)) <;> simp [Answer.reply]

end Sys2Proof.Machine
end

