-- ==== Sys2Proof/Laws/Commands.lean ====
section
/-! SUPPORT. The form of each command, true by definition: a request with its code, its payload length
and the block that carries it out, or an event with its effect; and the form of all requests at once. -/

namespace Sys2Proof.Machine

/-! ## Command by command -/

theorem exec_nop (extra : Nat) (s : State) :
    exec (.nop extra) s = request 0x01 0 extra actNop s := rfl

theorem exec_takeNotice (extra : Nat) (s : State) :
    exec (.takeNotice extra) s = request 0x02 0 extra actTakeNotice s := rfl

theorem exec_status (extra : Nat) (s : State) :
    exec (.status extra) s = request 0x03 0 extra actStatus s := rfl

theorem exec_setCondition (extra : Nat) (mask : Byte) (s : State) :
    exec (.setCondition extra mask) s = request 0x04 1 extra (actSetCondition mask) s := rfl

theorem exec_clearCondition (extra : Nat) (mask : Byte) (s : State) :
    exec (.clearCondition extra mask) s = request 0x05 1 extra (actClearCondition mask) s := rfl

theorem exec_enableNotice (extra : Nat) (mask : Tri) (s : State) :
    exec (.enableNotice extra mask) s = request 0x06 3 extra (actEnableNotice mask) s := rfl

theorem exec_disableNotice (extra : Nat) (mask : Tri) (s : State) :
    exec (.disableNotice extra mask) s = request 0x07 3 extra (actDisableNotice mask) s := rfl

theorem exec_softReset (extra : Nat) (s : State) :
    exec (.softReset extra) s = request 0x08 0 extra actSoftReset s := rfl

theorem exec_attach (extra : Nat) (point : Byte) (tag : Half) (fields : FieldSet) (s : State) :
    exec (.attach extra point tag fields) s = request 0x10 (3 + fieldSetLength fields) extra (actAttach point tag fields) s := rfl

theorem exec_amend (extra : Nat) (handle : Byte) (fields : FieldSet) (s : State) :
    exec (.amend extra handle fields) s = request 0x11 (1 + fieldSetLength fields) extra (actAmend handle fields) s := rfl

theorem exec_retire (extra : Nat) (handle : Byte) (s : State) :
    exec (.retire extra handle) s = request 0x12 1 extra (actRetire handle) s := rfl

theorem exec_restore (extra : Nat) (handle : Byte) (s : State) :
    exec (.restore extra handle) s = request 0x13 1 extra (actRestore handle) s := rfl

theorem exec_lookup (extra : Nat) (selector : Byte) (key : Half) (s : State) :
    exec (.lookup extra selector key) s = request 0x14 3 extra (actLookup selector key) s := rfl

theorem exec_defineRatio (extra : Nat) (index direction speed range : Byte) (rn : Half) (s : State) :
    exec (.defineRatio extra index direction speed range rn) s = request 0x20 6 extra (actDefineRatio index direction speed range rn) s := rfl

theorem exec_clearRatio (extra : Nat) (index : Byte) (s : State) :
    exec (.clearRatio extra index) s = request 0x21 1 extra (actClearRatio index) s := rfl

theorem exec_readRatio (extra : Nat) (index : Byte) (s : State) :
    exec (.readRatio extra index) s = request 0x22 1 extra (actReadRatio index) s := rfl

theorem exec_withhold (extra : Nat) (mask : Quad) (s : State) :
    exec (.withhold extra mask) s = request 0x23 4 extra (actWithhold mask) s := rfl

theorem exec_unwithhold (extra : Nat) (mask : Quad) (s : State) :
    exec (.unwithhold extra mask) s = request 0x24 4 extra (actUnwithhold mask) s := rfl

theorem exec_readPack (extra : Nat) (pack : Byte) (s : State) :
    exec (.readPack extra pack) s = request 0x30 1 extra (actReadPack pack) s := rfl

theorem exec_amendPack (extra : Nat) (pack pf : Byte) (tf tfMin tfMax : Half) (pl : Byte) (s : State) :
    exec (.amendPack extra pack pf tf tfMin tfMax pl) s = request 0x31 9 extra (actAmendPack pack pf tf tfMin tfMax pl) s := rfl

theorem exec_clearFault (extra : Nat) (pack : Byte) (s : State) :
    exec (.clearFault extra pack) s = request 0x32 1 extra (actClearFault pack) s := rfl

theorem exec_calibrate (extra : Nat) (pack : Byte) (interval : Half) (s : State) :
    exec (.calibrate extra pack interval) s = request 0x33 3 extra (actCalibrate pack interval) s := rfl

theorem exec_select (extra : Nat) (index : Byte) (s : State) :
    exec (.select extra index) s = request 0x40 1 extra (actSelect index) s := rfl

theorem exec_step (extra : Nat) (count : Byte) (s : State) :
    exec (.step extra count) s = request 0x41 1 extra (actStep count) s := rfl

theorem exec_halt (extra : Nat) (s : State) :
    exec (.halt extra) s = request 0x42 0 extra actHalt s := rfl

theorem exec_setShiftProfile (extra : Nat) (profile : ProfileWire) (s : State) :
    exec (.setShiftProfile extra profile) s = request 0x43 18 extra (actSetShiftProfile profile) s := rfl

theorem exec_setFront (extra : Nat) (front : FrontWire) (s : State) :
    exec (.setFront extra front) s = request 0x50 12 extra (actSetFront front) s := rfl

theorem exec_hitchHold (extra : Nat) (s : State) :
    exec (.hitchHold extra) s = request 0x60 0 extra actHitchHold s := rfl

theorem exec_hitchWork (extra : Nat) (s : State) :
    exec (.hitchWork extra) s = request 0x61 0 extra actHitchWork s := rfl

theorem exec_hitchGoto (extra : Nat) (position : Half) (opening : Byte) (s : State) :
    exec (.hitchGoto extra position opening) s = request 0x62 3 extra (actHitchGoto position opening) s := rfl

theorem exec_hitchTransport (extra : Nat) (opening : Byte) (s : State) :
    exec (.hitchTransport extra opening) s = request 0x63 1 extra (actHitchTransport opening) s := rfl

theorem exec_hitchReturn (extra : Nat) (opening : Byte) (s : State) :
    exec (.hitchReturn extra opening) s = request 0x64 1 extra (actHitchReturn opening) s := rfl

theorem exec_setTraction (extra : Nat) (kw vmin bth : Half) (s : State) :
    exec (.setTraction extra kw vmin bth) s = request 0x70 6 extra (actSetTraction kw vmin bth) s := rfl

theorem exec_setSupply (extra : Nat) (pcMin : Byte) (s : State) :
    exec (.setSupply extra pcMin) s = request 0x71 1 extra (actSetSupply pcMin) s := rfl

theorem exec_windowTransaction (clocked : Nat) (s : State) :
    exec (.windowTransaction clocked) s = .next (if s.heldInReset then s else s.windowShift clocked) := rfl

theorem exec_startUpWindowClose (s : State) :
    exec (.startUpWindowClose) s = event State.closeWindow s := rfl

theorem exec_powerOnReset (gearset : GearSet) (fdkind : FdKind) (s : State) :
    exec (.powerOnReset gearset fdkind) s = .next (s.fullReset ⟨gearset, fdkind⟩) := rfl

theorem exec_rstHeldLow (s : State) :
    exec (.rstHeldLow) s = .next s.holdReset := rfl

theorem exec_hardReset (gearset : GearSet) (fdkind : FdKind) (s : State) :
    exec (.hardReset gearset fdkind) s = .next (s.fullReset ⟨gearset, fdkind⟩) := rfl

theorem exec_speedPairArrival (ne no : Sample) (s : State) :
    exec (.speedPairArrival ne no) s = event (State.speedPair ne no) s := rfl

theorem exec_groundSpeedArrival (vg : Sample) (s : State) :
    exec (.groundSpeedArrival vg) s = event (State.groundSpeed vg) s := rfl

theorem exec_hitchSetArrival (p dl dr : Sample) (s : State) :
    exec (.hitchSetArrival p dl dr) s = event (State.hitchSet p dl dr) s := rfl

theorem exec_pedalSetArrival (bl br : Sample) (s : State) :
    exec (.pedalSetArrival bl br) s = event (State.pedalSet bl br) s := rfl

theorem exec_chargeArrival (pc : Sample) (s : State) :
    exec (.chargeArrival pc) s = event (State.chargeSet pc) s := rfl

theorem exec_lineArrival (pt : Sample) (s : State) :
    exec (.lineArrival pt) s = event (State.lineSet pt) s := rfl

theorem exec_rawInputChange (input : DInput) (present : Bool) (s : State) :
    exec (.rawInputChange input present) s = .next (s.rawInput input present) := rfl

theorem exec_debounceTimerExpiry (input : DInput) (s : State) :
    exec (.debounceTimerExpiry input) s = event (State.debounceExpiry input) s := rfl

theorem exec_pendingTimerExpiry (point : Point) (s : State) :
    exec (.pendingTimerExpiry point) s = event (State.pendingExpiry point) s := rfl

theorem exec_seatTimerExpiry (s : State) :
    exec (.seatTimerExpiry) s = event State.seatExpiry s := rfl

theorem exec_supplyWaitTimerExpiry (s : State) :
    exec (.supplyWaitTimerExpiry) s = event (fun s => s.phaseExpiry .supplyWait State.noSupply) s := rfl

theorem exec_fillTimerExpiry (s : State) :
    exec (.fillTimerExpiry) s = event (fun s => s.phaseExpiry .fill State.startHandover) s := rfl

theorem exec_handoverTimerExpiry (s : State) :
    exec (.handoverTimerExpiry) s = event (fun s => s.phaseExpiry .handover State.startConfirm) s := rfl

theorem exec_confirmTimerExpiry (s : State) :
    exec (.confirmTimerExpiry) s = event (fun s => s.phaseExpiry .confirm State.confirmExpired) s := rfl

theorem exec_intervalTimerExpiry (s : State) :
    exec (.intervalTimerExpiry) s = event State.intervalExpiry s := rfl

theorem exec_fillSupplyGrant (s : State) :
    exec (.fillSupplyGrant) s = event State.grantDecision s := rfl

theorem exec_partnerFillTimerExpiry (partner : Partner) (s : State) :
    exec (.partnerFillTimerExpiry partner) s = event (State.partnerExpiry partner) s := rfl

theorem exec_settleTimerExpiry (s : State) :
    exec (.settleTimerExpiry) s = event State.settleExpiry s := rfl

theorem exec_stepTimerExpiry (s : State) :
    exec (.stepTimerExpiry) s = event State.stepExpiry s := rfl

theorem exec_releaseDelayTimerExpiry (s : State) :
    exec (.releaseDelayTimerExpiry) s = event State.releaseExpiry s := rfl

theorem exec_fdpFillTimerExpiry (s : State) :
    exec (.fdpFillTimerExpiry) s = event State.fdpExpiry s := rfl

theorem exec_travelTimerExpiry (s : State) :
    exec (.travelTimerExpiry) s = event State.travelExpiry s := rfl

theorem exec_retireWatch (s : State) :
    exec (.retireWatch) s = event (fun s => if s.mfe.pt.state = .ok then s.retireWatch else s) s := rfl

theorem exec_noByteTransaction (s : State) :
    exec (.noByteTransaction) s = .next s := rfl

/-! ## All requests at once -/

/-- Every request is the transaction of its code and its payload's length, carried out by its block. -/
theorem exec_request {i : Instr} {code : Byte} {payload : List Byte} {extra : Nat}
    (h : requestParts i = some (code, payload, extra)) (s : State) :
    ∃ act, requestAct i = some act ∧ exec i s = request code payload.length extra act s := by
  cases i <;> simp only [requestParts, Option.some.injEq, Prod.mk.injEq, reduceCtorEq] at h
  all_goals obtain ⟨rfl, rfl, rfl⟩ := h
  case attach extra point tag fields =>
    refine ⟨_, rfl, ?_⟩
    rw [exec_attach]
    congr 1
    rcases fields with ⟨_, _, _, _, _, _, _, _ | _⟩ | ⟨_, _, _, _ | _⟩ <;> rfl
  case amend extra handle fields =>
    refine ⟨_, rfl, ?_⟩
    rw [exec_amend]
    congr 1
    rcases fields with ⟨_, _, _, _, _, _, _, _ | _⟩ | ⟨_, _, _, _ | _⟩ <;> rfl
  all_goals exact ⟨_, rfl, rfl⟩

end Sys2Proof.Machine
end

