-- ==== Sys2Proof/Laws/Frames.lean ====
section
/-! SUPPORT. Laws of the frames: multi-byte fields and field sets are read back as they were sent, and
the length and reading of a field set. -/

namespace Sys2Proof

/-- A two-byte field is read back. -/
theorem joinHalf_hi_lo (h : Half) : joinHalf h.hi h.lo = h := by
  apply BitVec.eq_of_toNat_eq
  have := h.isLt
  simp only [joinHalf, Half.hi, Half.lo, BitVec.toNat_ofNat]
  omega

/-- A three-byte mask is read back. -/
theorem joinTri_bytes (m : Tri) :
    joinTri (BitVec.ofNat 8 (m.toNat / 65536)) (BitVec.ofNat 8 (m.toNat / 256)) (BitVec.ofNat 8 m.toNat) = m := by
  apply BitVec.eq_of_toNat_eq
  have := m.isLt
  simp only [joinTri, BitVec.toNat_ofNat]
  omega

/-- A four-byte mask is read back. -/
theorem joinQuad_bytes (m : Quad) :
    joinQuad (BitVec.ofNat 8 (m.toNat / 16777216)) (BitVec.ofNat 8 (m.toNat / 65536))
      (BitVec.ofNat 8 (m.toNat / 256)) (BitVec.ofNat 8 m.toNat) = m := by
  apply BitVec.eq_of_toNat_eq
  have := m.isLt
  simp only [joinQuad, BitVec.toNat_ofNat]
  omega

/-- A field set is read back. -/
theorem readFieldSet_bytes (f : FieldSet) : readFieldSet f.bytes = some f := by
  cases f with
  | implement pmax pmin ps db kq drop sl draft =>
    cases draft <;> simp [FieldSet.bytes, Half.bytes, readFieldSet, joinHalf_hi_lo]
  | trailer m gt pld pas => cases pas <;> simp [FieldSet.bytes, Half.bytes, readFieldSet, joinHalf_hi_lo]

/-- A field set has one of four lengths (R183). -/
theorem FieldSet.bytes_length (f : FieldSet) :
    f.bytes.length = 5 ∨ f.bytes.length = 7 ∨ f.bytes.length = 11 ∨ f.bytes.length = 15 := by
  cases f with
  | implement pmax pmin ps db kq drop sl draft => cases draft <;> simp [FieldSet.bytes, Half.bytes]
  | trailer m gt pld pas => cases pas <;> simp [FieldSet.bytes, Half.bytes]

end Sys2Proof
end

