-- ==== Sys2Proof/Laws/PerInstr.lean ====
section
/-! SUPPORT. The law of request frames, constructor by constructor: the payload a request is encoded
with has a length its code allows, and is read back as the request. -/

namespace Sys2Proof.Laws.RequestFrame

set_option Elab.async false

/-- A request's payload has a length its code allows (R177) and is read back as the request (R183). A
command that is no request has no frame. -/
def Statement (i : Instr) : Prop :=
  ∀ code payload extra, requestParts i = some (code, payload, extra) →
    (∃ lengths, allowedLengths code.toNat = some lengths ∧ payload.length ∈ lengths) ∧
      readRequest code.toNat payload extra = some i

/-- A command with no request frame. -/
theorem of_none {i : Instr} (h : requestParts i = none) : Statement i := by
  intro code payload extra e
  rw [h] at e
  exact nomatch e

/-- A request whose one frame is known. -/
theorem of_parts {i : Instr} {code : Byte} {payload : List Byte} {extra : Nat} {lengths : List Nat}
    (h : requestParts i = some (code, payload, extra)) (hl : allowedLengths code.toNat = some lengths)
    (hm : payload.length ∈ lengths) (hr : readRequest code.toNat payload extra = some i) : Statement i := by
  intro code' payload' extra' e
  rw [h] at e
  obtain ⟨rfl, rfl, rfl⟩ : code = code' ∧ payload = payload' ∧ extra = extra' := by simpa using e
  exact ⟨⟨lengths, hl, hm⟩, hr⟩

theorem nop (extra : Nat) : Statement (.nop extra) := of_parts rfl rfl (by simp) rfl

theorem takeNotice (extra : Nat) : Statement (.takeNotice extra) := of_parts rfl rfl (by simp) rfl

theorem status (extra : Nat) : Statement (.status extra) := of_parts rfl rfl (by simp) rfl

theorem setCondition (extra : Nat) (mask : Byte) : Statement (.setCondition extra mask) := of_parts rfl rfl (by simp) rfl

theorem clearCondition (extra : Nat) (mask : Byte) : Statement (.clearCondition extra mask) := of_parts rfl rfl (by simp) rfl

theorem enableNotice (extra : Nat) (mask : Tri) : Statement (.enableNotice extra mask) := by
  refine of_parts rfl rfl (by simp [Tri.bytes]) ?_
  simp [-BitVec.ofNat_toNat, readRequest, Tri.bytes, readThreeBytes, joinTri_bytes]

theorem disableNotice (extra : Nat) (mask : Tri) : Statement (.disableNotice extra mask) := by
  refine of_parts rfl rfl (by simp [Tri.bytes]) ?_
  simp [-BitVec.ofNat_toNat, readRequest, Tri.bytes, readThreeBytes, joinTri_bytes]

theorem softReset (extra : Nat) : Statement (.softReset extra) := of_parts rfl rfl (by simp) rfl

theorem attach (extra : Nat) (point : Byte) (tag : Half) (fields : FieldSet) : Statement (.attach extra point tag fields) := by
  refine of_parts rfl rfl ?_ ?_
  · simpa [Half.bytes] using FieldSet.bytes_length fields
  · simp [readRequest, readAttach, Half.bytes, joinHalf_hi_lo, readFieldSet_bytes]

theorem amend (extra : Nat) (handle : Byte) (fields : FieldSet) : Statement (.amend extra handle fields) := by
  refine of_parts rfl rfl ?_ ?_
  · simpa using FieldSet.bytes_length fields
  · simp [readRequest, readAmend, readFieldSet_bytes]

theorem retire (extra : Nat) (handle : Byte) : Statement (.retire extra handle) := of_parts rfl rfl (by simp) rfl

theorem restore (extra : Nat) (handle : Byte) : Statement (.restore extra handle) := of_parts rfl rfl (by simp) rfl

theorem lookup (extra : Nat) (selector : Byte) (key : Half) : Statement (.lookup extra selector key) := by
  refine of_parts rfl rfl (by simp [Half.bytes]) ?_
  simp [readRequest, readThreeBytes, Half.bytes, joinHalf_hi_lo]

theorem defineRatio (extra : Nat) (index direction speed range : Byte) (rn : Half) : Statement (.defineRatio extra index direction speed range rn) := by
  refine of_parts rfl rfl (by simp [Half.bytes]) ?_
  simp [readRequest, Half.bytes, joinHalf_hi_lo]

theorem clearRatio (extra : Nat) (index : Byte) : Statement (.clearRatio extra index) := of_parts rfl rfl (by simp) rfl

theorem readRatio (extra : Nat) (index : Byte) : Statement (.readRatio extra index) := of_parts rfl rfl (by simp) rfl

theorem withhold (extra : Nat) (mask : Quad) : Statement (.withhold extra mask) := by
  refine of_parts rfl rfl (by simp [Quad.bytes]) ?_
  simp [-BitVec.ofNat_toNat, readRequest, Quad.bytes, joinQuad_bytes]

theorem unwithhold (extra : Nat) (mask : Quad) : Statement (.unwithhold extra mask) := by
  refine of_parts rfl rfl (by simp [Quad.bytes]) ?_
  simp [-BitVec.ofNat_toNat, readRequest, Quad.bytes, joinQuad_bytes]

theorem readPack (extra : Nat) (pack : Byte) : Statement (.readPack extra pack) := of_parts rfl rfl (by simp) rfl

theorem amendPack (extra : Nat) (pack pf : Byte) (tf tfMin tfMax : Half) (pl : Byte) : Statement (.amendPack extra pack pf tf tfMin tfMax pl) := by
  refine of_parts rfl rfl (by simp [Half.bytes]) ?_
  simp [readRequest, Half.bytes, joinHalf_hi_lo]

theorem clearFault (extra : Nat) (pack : Byte) : Statement (.clearFault extra pack) := of_parts rfl rfl (by simp) rfl

theorem calibrate (extra : Nat) (pack : Byte) (interval : Half) : Statement (.calibrate extra pack interval) := by
  refine of_parts rfl rfl (by simp [Half.bytes]) ?_
  simp [readRequest, readThreeBytes, Half.bytes, joinHalf_hi_lo]

theorem select (extra : Nat) (index : Byte) : Statement (.select extra index) := of_parts rfl rfl (by simp) rfl

theorem step (extra : Nat) (count : Byte) : Statement (.step extra count) := of_parts rfl rfl (by simp) rfl

theorem halt (extra : Nat) : Statement (.halt extra) := of_parts rfl rfl (by simp) rfl

theorem setShiftProfile (extra : Nat) (profile : ProfileWire) : Statement (.setShiftProfile extra profile) := by
  refine of_parts rfl rfl (by simp [Half.bytes]) ?_
  simp [readRequest, readProfile, Half.bytes, joinHalf_hi_lo]

theorem setFront (extra : Nat) (front : FrontWire) : Statement (.setFront extra front) := by
  refine of_parts rfl rfl (by simp [Half.bytes]) ?_
  simp [readRequest, readFront, Half.bytes, joinHalf_hi_lo]

theorem hitchHold (extra : Nat) : Statement (.hitchHold extra) := of_parts rfl rfl (by simp) rfl

theorem hitchWork (extra : Nat) : Statement (.hitchWork extra) := of_parts rfl rfl (by simp) rfl

theorem hitchGoto (extra : Nat) (position : Half) (opening : Byte) : Statement (.hitchGoto extra position opening) := by
  refine of_parts rfl rfl (by simp [Half.bytes]) ?_
  simp [readRequest, readThreeBytes, Half.bytes, joinHalf_hi_lo]

theorem hitchTransport (extra : Nat) (opening : Byte) : Statement (.hitchTransport extra opening) := of_parts rfl rfl (by simp) rfl

theorem hitchReturn (extra : Nat) (opening : Byte) : Statement (.hitchReturn extra opening) := of_parts rfl rfl (by simp) rfl

theorem setTraction (extra : Nat) (kw vmin bth : Half) : Statement (.setTraction extra kw vmin bth) := by
  refine of_parts rfl rfl (by simp [Half.bytes]) ?_
  simp [readRequest, Half.bytes, joinHalf_hi_lo]

theorem setSupply (extra : Nat) (pcMin : Byte) : Statement (.setSupply extra pcMin) := of_parts rfl rfl (by simp) rfl

theorem frameRejected (bytes : List Byte) : Statement (.frameRejected bytes) := of_none rfl

theorem windowTransaction (clocked : Nat) : Statement (.windowTransaction clocked) := of_none rfl

theorem startUpWindowClose : Statement (.startUpWindowClose) := of_none rfl

theorem powerOnReset (gearset : GearSet) (fdkind : FdKind) : Statement (.powerOnReset gearset fdkind) := of_none rfl

theorem rstHeldLow : Statement (.rstHeldLow) := of_none rfl

theorem hardReset (gearset : GearSet) (fdkind : FdKind) : Statement (.hardReset gearset fdkind) := of_none rfl

theorem speedPairArrival (ne no : Sample) : Statement (.speedPairArrival ne no) := of_none rfl

theorem groundSpeedArrival (vg : Sample) : Statement (.groundSpeedArrival vg) := of_none rfl

theorem hitchSetArrival (p dl dr : Sample) : Statement (.hitchSetArrival p dl dr) := of_none rfl

theorem pedalSetArrival (bl br : Sample) : Statement (.pedalSetArrival bl br) := of_none rfl

theorem chargeArrival (pc : Sample) : Statement (.chargeArrival pc) := of_none rfl

theorem lineArrival (pt : Sample) : Statement (.lineArrival pt) := of_none rfl

theorem rawInputChange (input : DInput) (present : Bool) : Statement (.rawInputChange input present) := of_none rfl

theorem debounceTimerExpiry (input : DInput) : Statement (.debounceTimerExpiry input) := of_none rfl

theorem pendingTimerExpiry (point : Point) : Statement (.pendingTimerExpiry point) := of_none rfl

theorem seatTimerExpiry : Statement (.seatTimerExpiry) := of_none rfl

theorem supplyWaitTimerExpiry : Statement (.supplyWaitTimerExpiry) := of_none rfl

theorem fillTimerExpiry : Statement (.fillTimerExpiry) := of_none rfl

theorem handoverTimerExpiry : Statement (.handoverTimerExpiry) := of_none rfl

theorem confirmTimerExpiry : Statement (.confirmTimerExpiry) := of_none rfl

theorem intervalTimerExpiry : Statement (.intervalTimerExpiry) := of_none rfl

theorem fillSupplyGrant : Statement (.fillSupplyGrant) := of_none rfl

theorem partnerFillTimerExpiry (partner : Partner) : Statement (.partnerFillTimerExpiry partner) := of_none rfl

theorem settleTimerExpiry : Statement (.settleTimerExpiry) := of_none rfl

theorem stepTimerExpiry : Statement (.stepTimerExpiry) := of_none rfl

theorem releaseDelayTimerExpiry : Statement (.releaseDelayTimerExpiry) := of_none rfl

theorem fdpFillTimerExpiry : Statement (.fdpFillTimerExpiry) := of_none rfl

theorem travelTimerExpiry : Statement (.travelTimerExpiry) := of_none rfl

theorem retireWatch : Statement (.retireWatch) := of_none rfl

theorem noByteTransaction : Statement (.noByteTransaction) := of_none rfl

end Sys2Proof.Laws.RequestFrame
end

