-- ==== Sys2Proof/WellFormed.lean ====
section
/-! DEFINITION. Which commands can reach the part: what a constructor's operands must satisfy
beyond their types. -/

namespace Sys2Proof

/-- The bytes of a rejected frame: at least one, or the transaction is no request at all (R174),
and failing a check of R175. -/
def rejectedBytes (bytes : List Byte) : Bool :=
  match bytes with
  | [] => false
  | _ :: _ =>
    match judge bytes with
    | .accepted _ => false
    | .badFrame => true
    | .unknown => true

/-- A coupling point whose record can run a pending timer: a TOWTHRU record never does (R10). -/
def hasPendingTimer (p : Point) : Bool :=
  match p with
  | .hitch => true
  | .drawbar => true
  | .towthru => false

/-- A command that can reach the part. Every request is one: its operands are the fields of its
payload, and a field out of range is the owning block's to clamp or refuse (R183). -/
def Instr.wellFormed (i : Instr) : Bool :=
  match i with
  | .frameRejected bytes => rejectedBytes bytes
  | .pendingTimerExpiry point => hasPendingTimer point
  | _ => true

end Sys2Proof
end

