-- ==== Sys2Proof/Tests/Slice0.lean ====
section
/-! SUPPORT. The tests: ill-formed commands, the manual's worked figures, and for each obligation a
concrete state and operands that meet its hypotheses. -/

namespace Sys2Proof.Tests

set_option maxRecDepth 20000
set_option Elab.async false

open Sys2Proof Sys2Proof.Machine

/-! ## Small states -/

/-- The part after reset with the start-up window closed. -/
def listening : State := { State.reset with rlk := { State.reset.rlk with window := none } }

/-- The state a command leaves. -/
def after (c : Instr) (s : State) : State :=
  match exec c s with
  | .next t => t
  | .fault _ => s
  | .refused _ => s

/-- The status and payload of the reply a request leaves pending. -/
def reply (c : Instr) (s : State) : Option (Status × List Byte) :=
  (after c s).rlk.pending.map fun r => (r.status, r.payload)

/-- A channel holding a valid reading. -/
def ok (x : Nat) : Chan := ⟨x, .ok, 0⟩

/-- A debounced input at a level, its timer stopped. -/
def steady (level : Bool) : Contact := ⟨level, level, none⟩

/-- An input whose timer has run out on the opposite level. -/
def edge (level : Bool) : Contact := ⟨level, !level, some ⟨level, 0⟩⟩

/-- An input written. -/
def withInput (s : State) (i : DInput) (c : Contact) : State :=
  { s with mfe := { s.mfe with inputs := s.mfe.inputs.set i c } }

/-- The lead cart of 1.11. -/
def lead (st : TrailerState) : TrailerRecord := ⟨1, 501, st, ⟨180, 140, 20, some 60⟩, none⟩

/-- The second cart of 1.11. -/
def second (st : TrailerState) : TrailerRecord := ⟨2, 502, st, ⟨120, 100, 0, none⟩, none⟩

/-- The train of 1.11, with what it hands on in force. -/
def train : State :=
  { listening with
    cpt := ⟨none, some (lead .active), some (second .active), 3, 300⟩
    tre := { listening.tre with loadIndex := 60 }
    tbc := { listening.tbc with case := .weighted }
    mfe := { listening.mfe with inputs :=
      { listening.mfe.inputs with detA := steady true, detB := steady true } } }

/-- The cultivator of 8.6. -/
def cultivator : ImplementRecord := ⟨7, 9, .active, ⟨800, 100, 400, 5, 32, 40, 150, some ⟨1200, 64, 60⟩⟩, none⟩

/-- A hitch with the cultivator, at a position and a mode. -/
def hitched (m : HitchMode) (p : Nat) : State :=
  { listening with
    cpt := { listening.cpt with hitch := some cultivator, counter := 8 }
    mfe := { listening.mfe with p := ok p, vg := ok 0, inputs := { listening.mfe.inputs with seat := steady true } }
    htc := { listening.htc with mode := m } }

/-- Three entries of the forward map of 3.4, and a reverse one. -/
def ratios : List RatioEntry :=
  [⟨6, .fwd, .sp2, .rngB, 146, true⟩, ⟨7, .fwd, .sp3, .rngB, 181, true⟩, ⟨8, .fwd, .sp4, .rngB, 225, true⟩,
   ⟨20, .rev, .sp1, .rngA, 60, true⟩]

/-- A gearbox pack in a state. -/
def pack (st : PackState) : PackRecord := { PackRecord.gearboxDefault with state := st }

/-- The gearbox SETTLED in 6 as in 5.11, the engine at 1800, the operator seated. -/
def inSix : State :=
  { listening with
    rmp := { entries := ratios, withheld := 0#32 }
    packs := { listening.packs with fwd := pack .locked, sp2 := pack .locked, rngB := pack .locked }
    she := { listening.she with pr := 6, nr := 6 }
    mfe := { listening.mfe with ne := ok 1800, no := ok 263, vg := ok 800,
                                inputs := { listening.mfe.inputs with seat := steady true } } }

/-- The record of the upshift from 6 to 7. -/
def sixToSeven : ShiftRecord :=
  { origin := 6, dest := 7, kind := .upshift, offGoing := [.sp2], onComing := [.sp3], common := [.fwd, .rngB]
    neRef := 1800, loadIndex := 0, handover := 0, sinceHandover := 0, confirmRun := 0, onset := none }

/-- That upshift in a phase, with its two speed packs, its timer and its latch. -/
def upshift (phase : EngineState) (timer : Option Nat) (sp2 sp3 : PackState) (latched : Bool) : State :=
  { inSix with
    packs := { inSix.packs with sp2 := pack sp2, sp3 := pack sp3 }
    she := { inSix.she with nr := 8, state := phase, timer := timer, record := some sixToSeven, latchSignal := latched }
    htc := { inSix.htc with latch := if latched then some ⟨0, true⟩ else none } }

/-- The upshift waiting for the supply under a LOW charge state. -/
def waitingShift : State :=
  { upshift .supplyWait (some 2000) .locked .released false with
    fsa := { inSix.fsa with charge := .low, waiting := ⟨true, false, false⟩ } }

/-- The upshift in FILL. -/
def fillingShift : State :=
  { upshift .fill (some 120) .locked .fill true with
    fsa := { inSix.fsa with holder := some .shift, fillList := [.sp3] } }

/-- The upshift in HANDOVER. -/
def handoverShift : State := upshift .handover (some 500) (.falling 180 250 0) (.rising 500 0) true

/-- The upshift in CONFIRM. -/
def confirmShift : State := upshift .confirm (some 400) .released .locked true

/-- A parked tractor in neutral with the engine at 1100, as in 6.10. -/
def parked : State :=
  { listening with
    mfe := { listening.mfe with ne := ok 1100, no := ok 0, vg := ok 0,
                                inputs := { listening.mfe.inputs with park := steady true } } }

/-- The calibration of SP3 in a phase, its partners FWD and RNG-A in their states. -/
def calibrating (j : CalPhase) (fwd rngA sp3 : PackState) : State :=
  { parked with
    packs := { parked.packs with fwd := pack fwd, rngA := pack rngA, sp3 := pack sp3 }
    she := { parked.she with state := .calHold }
    cau := { job := some { phase := j, pack := .sp3, partner1 := .fwd, partner2 := .rngA, fill1 := none, fill2 := none
                           settle := none, step := none }
             interval := 100, neRef := 1100, stepCount := 14 } }

/-- The job of a calibration changed. -/
def withJob (s : State) (f : CalJob → CalJob) : State := { s with cau := { s.cau with job := s.cau.job.map f } }

/-- That calibration filling its partners. -/
def fillingCal : State :=
  withJob
    { calibrating .filling .fill .fill .released with
      fsa := { parked.fsa with holder := some .cal, fillList := [.fwd, .rngA] } }
    fun j => { j with fill1 := some 120, fill2 := some 140 }

/-- That calibration with one partner locked. -/
def halfFilledCal : State :=
  withJob
    { calibrating .filling .locked .fill .released with
      fsa := { parked.fsa with holder := some .cal, fillList := [.rngA] } }
    fun j => { j with fill2 := some 20 }

/-- That calibration settling. -/
def settlingCal : State :=
  withJob (calibrating .settling .locked .locked .released) fun j => { j with settle := some 500 }

/-- That calibration stepping. -/
def steppingCal : State :=
  withJob (calibrating .stepping .locked .locked .calStep) fun j => { j with step := some 100 }

/-- That calibration at its last step. -/
def lastStepCal : State := { steppingCal with cau := { steppingCal.cau with stepCount := 60 } }

/-- That calibration waiting behind a front-drive fill. -/
def waitingCal : State :=
  { calibrating .waiting .released .released .released with
    packs := { parked.packs with fdp := { PackRecord.fdpDefault with state := .fill } }
    fsa := { parked.fsa with holder := some .front, fillList := [.fdp], waiting := ⟨false, false, true⟩ }
    frd := { parked.frd with phase := .filling, fillTimer := some 150 } }

/-- The front drive released by a locked FDP, under SPRING. -/
def holding : State :=
  { listening with
    packs := { listening.packs with fdp := { PackRecord.fdpDefault with state := .locked } }
    frd := { listening.frd with phase := .holding } }

/-- The front drive filling FDP, under SPRING. -/
def fillingFront : State :=
  { listening with
    packs := { listening.packs with fdp := { PackRecord.fdpDefault with state := .fill } }
    fsa := { listening.fsa with holder := some .front, fillList := [.fdp] }
    frd := { listening.frd with phase := .filling, fillTimer := some 0 } }

/-- The front drive waiting for the supply under a LOW charge state. -/
def waitingFront : State :=
  { listening with
    fsa := { listening.fsa with charge := .low, waiting := ⟨false, true, false⟩ }
    frd := { listening.frd with phase := .waiting } }

/-! ## Ill-formed commands, one for each check -/

theorem test_a_frame_with_no_byte_is_ill_formed : (Instr.frameRejected []).wellFormed = false := by decide +kernel

theorem test_a_frame_that_passes_is_no_rejected_frame :
    (Instr.frameRejected [0x01, 0x00, 0x51]).wellFormed = false := by decide +kernel

theorem test_towthru_has_no_pending_timer : (Instr.pendingTimerExpiry .towthru).wellFormed = false := by decide +kernel

theorem test_well_formed_commands :
    (Instr.frameRejected [0x01, 0x00, 0x50]).wellFormed = true ∧
      (Instr.pendingTimerExpiry .drawbar).wellFormed = true ∧ (Instr.nop 0).wellFormed = true := by decide +kernel

/-! ## The link and the Notice Set -/

theorem test_nop_frame : encode (.nop 1) = [0x01, 0x00, 0x51, 0x00] ∧ judge [0x01, 0x00, 0x51] = .accepted (.nop 0) := by
  decide

theorem test_nop_fetches_not_ready :
    reply (.nop 1) listening = some (.ok, []) ∧
      (after (.nop 1) listening).rlk.shiftedOut = (Reply.frame ⟨0, .notReady, []⟩) ∧
      (after (.nop 0) listening).rlk.lastFate = some .lost ∧
      (after (.nop 1) listening).rlk.lastFate = some .delivered := by decide +kernel

theorem test_take_notice :
    reply (.takeNotice 0) listening = some (.none, []) ∧
      reply (.takeNotice 0) { listening with nts :=
        { listening.nts with notices := [⟨.input .seat false, [2], true⟩], attnLow := true } } =
          some (.ok, [11, 2, 1, 0, 1, 2]) := by decide +kernel

theorem test_status : reply (.status 0) listening =
    some (.ok, [0, 0, 0, 1, 0, 0, 0, 0, 0, 0, 0, 0, 0, 0, 1]) := by decide +kernel

theorem test_conditions :
    reply (.setCondition 0 3) listening = some (.ok, [3]) ∧
      (after (.setCondition 0 1) listening).htc.mode = .locked ∧
      (after (.clearCondition 0 1) (after (.setCondition 0 3) listening)).htc.mode = .hold ∧
      reply (.clearCondition 0 1) (after (.setCondition 0 3) listening) = some (.ok, [2]) ∧
      reply (.setCondition 0 4) listening = some (.range, []) := by decide +kernel

theorem test_enables :
    reply (.enableNotice 0 0x000800) listening = some (.ok, [0x00, 0x0F, 0xFF]) ∧
      reply (.disableNotice 0 0x000001) listening = some (.ok, [0x00, 0x07, 0xFE]) := by decide +kernel

theorem test_soft_reset :
    reply (.softReset 0) inSix = some (.ok, []) ∧ (after (.softReset 0) inSix).she.pr = 0 ∧
      (after (.softReset 0) inSix).rmp = inSix.rmp := by decide +kernel

theorem test_frames_discarded :
    reply (.frameRejected [0x40, 0x01, 0x03, 0xFF]) listening = some (.badFrame, []) ∧
      reply (.frameRejected (frameOf 0x99 [])) listening = some (.unknown, []) ∧
      after .noByteTransaction listening = listening := by decide +kernel

theorem test_start_up_window :
    (after (.windowTransaction 4) State.reset).rlk.pending = some .notReady ∧
      (after (.windowTransaction 6) State.reset).rlk.shiftedOut = Reply.notReady.frame ++ [0, 0] ∧
      (after .startUpWindowClose State.reset).rlk.window = none ∧
      (after .startUpWindowClose State.reset).rlk.pending = some .notReady := by decide +kernel

theorem test_resets :
    (after (.powerOnReset .four .pressure) inSix).straps = ⟨.four, .pressure⟩ ∧
      (after (.powerOnReset .four .pressure) inSix).rmp.entries = [] ∧
      (after (.hardReset .six .spring) (withInput inSix .park (edge true))).mfe.inputs.park = ⟨true, false, some ⟨true, 20⟩⟩ ∧
      (after .rstHeldLow inSix).heldInReset = true ∧ (after .rstHeldLow inSix).packValve .fwd = 0 := by decide +kernel

/-! ## The Coupling Table -/

theorem test_attach_trailers :
    reply (.attach 0 2 501 (.trailer 180 140 20 (some 60))) listening = some (.ok, [1, 1]) ∧
      reply (.attach 0 3 502 (.trailer 120 100 0 none)) listening = some (.noLead, []) ∧
      (after (.attach 0 3 502 (.trailer 120 100 0 none))
        { train with cpt := ⟨none, some (lead .active), none, 2, 180⟩ }).cpt = train.cpt := by decide +kernel

theorem test_attach_implement :
    reply (.attach 0 1 9 (.implement 800 100 400 5 32 40 150 (some ⟨1200, 64, 60⟩))) listening = some (.ok, [1, 1]) ∧
      reply (.attach 0 1 0 (.trailer 180 140 20 none)) listening = some (.range, []) := by decide +kernel

theorem test_amend :
    reply (.amend 0 1 (.trailer 220 140 20 (some 60))) train = some (.ok, [1, 0, 220, 140, 0, 20, 0, 60]) ∧
      (after (.amend 0 1 (.trailer 220 140 20 (some 60))) train).cpt.mtow = 300 := by decide +kernel

theorem test_retire :
    reply (.retire 0 1) train = some (.dependent, []) ∧ reply (.retire 0 2) train = some (.ok, [2, 0]) ∧
      reply (.retire 0 2) { train with mfe := { train.mfe with pt := ok 410 } } = some (.ok, [2, 5]) ∧
      (after (.retire 0 2) train).cpt.mtow = 180 := by decide +kernel

theorem test_restore :
    reply (.restore 0 2) { train with cpt := { train.cpt with towthru := some (second (.retiring .active)) } } =
        some (.ok, [2, 2]) ∧
      reply (.restore 0 2) train = some (.notFound, []) := by decide +kernel

theorem test_lookup :
    reply (.lookup 0 3 501) train = some (.ok, [1, 2, 1, 245, 2, 2, 0, 0, 180, 140, 0, 20, 0, 60]) ∧
      reply (.lookup 0 2 1) train = some (.notFound, []) := by decide +kernel

theorem test_pending_timer :
    (after (.pendingTimerExpiry .drawbar)
      { train with cpt := ⟨none, some (lead (.pending 0)), none, 2, 0⟩ }).nts.notices =
        [⟨.coupling .drawbar .timeout, [1, 1, 245, 0, 0, 0], false⟩] := by decide +kernel

theorem test_retire_watch :
    (after .retireWatch
      { train with cpt := { train.cpt with towthru := some (second (.retiring .active)) }
                   mfe := { train.mfe with pt := ok 45 } }).nts.notices =
        [⟨.coupling .towthru .retired, [2, 1, 246, 0, 0, 180], false⟩] := by decide +kernel

/-! ## The maps and the packs -/

theorem test_define_ratio :
    reply (.defineRatio 0 9 1 7 10 300) inSix = some (.ok, [9, 1, 7, 10, 1, 44, 1]) ∧
      reply (.defineRatio 0 9 1 3 10 200) inSix = some (.order, []) ∧
      reply (.defineRatio 0 6 1 4 10 146) inSix = some (.busy, []) := by decide +kernel

theorem test_clear_and_read_ratio :
    reply (.clearRatio 0 8) inSix = some (.ok, [8]) ∧ reply (.clearRatio 0 6) inSix = some (.busy, []) ∧
      reply (.readRatio 0 7) inSix = some (.ok, [7, 5, 1, 5, 10, 0, 181, 0]) ∧
      reply (.readRatio 0 9) inSix = some (.ok, [9, 0, 0, 0, 0, 0, 0, 1]) := by decide +kernel

theorem test_withhold :
    reply (.withhold 0 0x40) inSix = some (.ok, [0, 0, 0, 0x40]) ∧
      reply (.readRatio 0 7) (after (.withhold 0 0x40) inSix) = some (.ok, [7, 3, 1, 5, 10, 0, 181, 2]) ∧
      (after (.unwithhold 0 0x40) (after (.withhold 0 0x40) inSix)).rmp = inSix.rmp := by decide +kernel

theorem test_read_pack :
    reply (.readPack 0 4) inSix = some (.ok, [4, 30, 0, 120, 0, 40, 1, 44, 180, 0, 3, 180, 0, 0]) ∧
      reply (.readPack 0 13) inSix = some (.range, []) := by decide +kernel

theorem test_amend_pack :
    reply (.amendPack 0 12 90 10 40 160 160) inSix = some (.ok, [12, 80, 0, 40, 0, 40, 0, 160, 160]) ∧
      reply (.amendPack 0 12 30 120 300 40 160) inSix = some (.range, []) := by decide +kernel

theorem test_clear_fault :
    reply (.clearFault 0 5) { inSix with packs := { inSix.packs with sp3 := { pack .fault with cause := .cal } } } =
        some (.ok, [5, 0]) ∧
      reply (.clearFault 0 5) inSix = some (.busy, []) := by decide +kernel

theorem test_set_supply :
    reply (.setSupply 0 255) inSix = some (.ok, [200]) := by decide +kernel

theorem test_charge_arrival :
    (after (.chargeArrival ⟨118, true⟩) inSix).nts.notices = [⟨.supply .low, [1, 0, 118, 0], false⟩] ∧
      (after (.chargeArrival ⟨130, true⟩) waitingShift).she.state = .fill := by decide +kernel

/-! ## The Shift Engine -/

theorem test_select :
    reply (.select 0 8) inSix = some (.ok, [6, 8, 3]) ∧
      (after (.select 0 8) inSix).she.record.map (fun r => (r.dest, r.onComing, r.offGoing, r.neRef)) =
        some (7, [.sp3], [.sp2], 1800) ∧
      reply (.select 0 9) inSix = some (.range, []) ∧ reply (.select 0 20) inSix = some (.ok, [6, 20, 3]) := by
  decide +kernel

theorem test_step :
    reply (.step 0 2) inSix = some (.ok, [6, 8, 3]) ∧ reply (.step 0 0) inSix = some (.range, []) ∧
      reply (.step 0 0xFF) { inSix with she := { inSix.she with pr := 8, nr := 8 } } = some (.ok, [8, 7, 3]) := by
  decide +kernel

theorem test_halt :
    reply (.halt 0) inSix = some (.ok, [6, 6, 0]) ∧ reply (.halt 0) handoverShift = some (.ok, [6, 8, 4]) ∧
      (after (.halt 0) handoverShift).she.halt = true := by decide +kernel

theorem test_set_shift_profile :
    reply (.setShiftProfile 0 ⟨0, 0, 0, 900, 0, 0, 0, 0, 0, 0⟩) inSix =
      some (.ok, [1, 0, 100, 0, 200, 0, 200, 1, 44, 0, 100, 1, 244, 0, 100, 0, 1, 20]) := by decide +kernel

theorem test_fill_timer :
    let t := after .fillTimerExpiry { fillingShift with tre := { fillingShift.tre with loadIndex := 135 } }
    t.she.state = .handover ∧ t.she.timer = some 536 ∧ t.packs.sp3.state = .rising 536 0 ∧
      t.packs.sp2.state = .falling 180 268 0 ∧ t.fsa.holder = none := by decide +kernel

theorem test_handover_timer :
    let t := after .handoverTimerExpiry handoverShift
    t.she.state = .confirm ∧ t.she.timer = some 400 ∧ t.packs.sp3.state = .locked ∧
      t.packs.sp2.state = .released := by decide +kernel

theorem test_confirming_pairs :
    (after (.speedPairArrival ⟨1800, true⟩ ⟨342, true⟩) confirmShift).she.record.map (·.confirmRun) = some 0 ∧
      (after (.speedPairArrival ⟨1776, true⟩ ⟨327, true⟩) confirmShift).she.record.map
        (fun r => (r.confirmRun, r.onset)) = some (1, some .good) := by decide +kernel

theorem test_completion :
    let t := after (.speedPairArrival ⟨1800, true⟩ ⟨326, true⟩)
      { confirmShift with she := { confirmShift.she with record := some { sixToSeven with confirmRun := 2 } } }
    t.she.pr = 7 ∧ t.she.state = .interval ∧ t.she.timer = some 300 ∧ t.packs.sp3.active.tf = 124 ∧
      t.htc.latch = none := by decide +kernel

theorem test_confirm_timer :
    let t := after .confirmTimerExpiry confirmShift
    t.nts.notices = [⟨.shift .fault, [0, 0, 7, 5, 0, 0], false⟩] ∧ t.packs.sp3.cause = .confirm ∧
      t.packs.fwd.state = .released ∧ t.rmp.entries.map (·.usable) = [true, false, true, true] := by decide +kernel

theorem test_supply_wait_and_interval_timers :
    (after .supplyWaitTimerExpiry waitingShift).nts.notices = [⟨.shift .noSupply, [6, 6, 7, 0, 0, 0], false⟩] ∧
      (after .intervalTimerExpiry { inSix with she := { inSix.she with nr := 8, state := .interval, timer := some 0 } }).she.state =
        .fill := by decide +kernel

theorem test_seat_timer :
    (after .seatTimerExpiry { handoverShift with she := { handoverShift.she with seatTimer := some 0 } }).nts.notices =
      [⟨.shift .forcedNeutral, [0, 0, 7, 1, 0, 0], false⟩] := by decide +kernel

theorem test_grant :
    (after .fillSupplyGrant { waitingShift with fsa := { waitingShift.fsa with charge := .ok } }).packs.sp3.state = .fill ∧
      (after .fillSupplyGrant waitingShift) = waitingShift := by decide +kernel

/-! ## The Calibration Unit -/

theorem test_calibrate :
    reply (.calibrate 0 5 100) parked = some (.ok, [5, 1, 9, 0, 100, 2]) ∧
      reply (.calibrate 0 12 100) parked = some (.range, []) ∧
      reply (.calibrate 0 5 100) inSix = some (.busy, []) := by decide +kernel

theorem test_partner_fill_timers :
    (after (.partnerFillTimerExpiry .first) fillingCal).packs.fwd.state = .locked ∧
      (after (.partnerFillTimerExpiry .first) fillingCal).fsa.holder = some .cal ∧
      (after (.partnerFillTimerExpiry .second) halfFilledCal).fsa.holder = none ∧
      (after (.partnerFillTimerExpiry .second) halfFilledCal).cau.job.map (fun j => (j.phase, j.settle)) =
        some (.settling, some 500) := by decide +kernel

theorem test_low_charge_ends_a_waiting_calibration :
    let t := after (.chargeArrival ⟨119, true⟩) (after (.disableNotice 0 0x200) waitingCal)
    t.nts.notices = [⟨.cal .aborted, [5, 0, 0, 0, 6, 1], false⟩] ∧ t.cau.job = none ∧ t.fsa.holder = some .front := by
  decide +kernel

theorem test_settle_and_step_timers :
    (after .settleTimerExpiry settlingCal).packCommand .sp3 = 20 ∧
      (after .stepTimerExpiry steppingCal).packCommand .sp3 = 35 ∧
      (after .stepTimerExpiry lastStepCal).nts.notices =
        [⟨.cal .noKiss, [5, 80, 4, 76, 2, 0], false⟩] := by decide +kernel

theorem test_kiss :
    let t := after (.speedPairArrival ⟨1066, true⟩ ⟨0, true⟩) steppingCal
    t.nts.notices = [⟨.cal .done, [5, 34, 4, 76, 30, 32], false⟩] ∧ t.packs.sp3.active.pf = 32 ∧
      t.she.state = .settled ∧ t.cau = ⟨none, 100, 1100, 14⟩ ∧ (after (.softReset 0) t).cau = ⟨none, 50, 0, 0⟩ := by decide +kernel

/-! ## The front drive and the traction estimate -/

theorem test_set_front :
    reply (.setFront 0 ⟨1, 10, 40, 0, 1500, 1000, 100⟩) holding =
      some (.ok, [1, 0, 20, 0, 10, 1, 5, 220, 3, 232, 0, 100, 1, 1]) ∧
      (after (.setFront 0 ⟨1, 10, 40, 0, 1500, 1000, 100⟩) holding).nts.notices =
        [⟨.front .engaged, [1, 1, 1, 0, 0], false⟩] := by decide +kernel

theorem test_release_delay_timer :
    (after .releaseDelayTimerExpiry
      { listening with frd := { listening.frd with releaseTimer := some 0, engage := true } }).packs.fdp.state =
        .fill := by decide +kernel

theorem test_fdp_fill_timer :
    (after .fdpFillTimerExpiry fillingFront).nts.notices = [⟨.front .released, [0, 2, 0, 0, 3], false⟩] ∧
      (after .fdpFillTimerExpiry fillingFront).frd.phase = .holding := by decide +kernel

theorem test_slip_and_latch :
    let s := { holding with
      tre := { holding.tre with vw := 1200 }
      mfe := { holding.mfe with no := ok 600 }
      frd := { holding.frd with onRun := 2, params := ⟨150, 80, 3, 1500, 1000, 100⟩ } }
    (after (.groundSpeedArrival ⟨900, true⟩) s).tre.slip = 250 ∧
      (after (.groundSpeedArrival ⟨900, true⟩) s).frd.latch = true ∧
      (after (.groundSpeedArrival ⟨900, true⟩) s).nts.notices = [⟨.front .engaged, [1, 2, 16, 0, 0], false⟩] := by
  decide +kernel

theorem test_set_traction :
    reply (.setTraction 0 0 0 0xFFFF) listening = some (.ok, [4, 0, 0, 50, 1, 244]) := by decide +kernel

/-! ## The hitch -/

/-- The openings the arrival of 8.6 leaves. -/
def worked (p d slip : Nat) (slipValid : Bool) : Nat × Nat :=
  let s := hitched .work 0
  let t := after (.hitchSetArrival ⟨p, true⟩ ⟨d, true⟩ ⟨0, true⟩)
    { s with htc := { s.htc with latch := some ⟨d, true⟩ }
             tre := { s.tre with slip := slip, slipValid := slipValid } }
  (t.htc.raise, t.htc.lower)

theorem test_control_computation :
    worked 420 1350 180 true = (50, 0) ∧ worked 800 1350 180 true = (0, 0) ∧ worked 420 1350 0 false = (18, 0) ∧
      worked 520 1200 100 true = (0, 40) ∧ worked 403 1200 100 true = (0, 0) := by decide +kernel

theorem test_draft_lost :
    let s := hitched .work 420
    let t := after (.hitchSetArrival ⟨420, true⟩ ⟨0, false⟩ ⟨0, true⟩) { s with mfe := { s.mfe with dl := ⟨0, .failed, 5⟩ } }
    (t.htc.raise, t.htc.lower) = (0, 30) ∧ t.nts.notices.map (·.report) = [.hitch .draftLost] := by decide +kernel

theorem test_hitch_requests :
    reply (.hitchHold 0) (hitched .work 420) = some (.ok, [0, 0, 0, 0, 60, 0, 0]) ∧
      reply (.hitchWork 0) (hitched .hold 420) = some (.ok, [1, 0, 0, 0, 60, 0, 0]) ∧
      reply (.hitchWork 0) listening = some (.noImplement, []) ∧
      reply (.hitchGoto 0 900 0) (hitched .hold 420) = some (.ok, [2, 1, 3, 32, 60, 0, 0]) ∧
      reply (.hitchTransport 0 5) (hitched .hold 420) = some (.ok, [2, 2, 3, 32, 10, 0, 0]) ∧
      reply (.hitchReturn 0 0) (hitched .hold 420) = some (.ok, [2, 3, 1, 144, 60, 0, 0]) := by decide +kernel

theorem test_travel :
    (after (.hitchSetArrival ⟨500, true⟩ ⟨0, true⟩ ⟨0, true⟩) (hitched (.travel .return 400 9000) 420)).htc.lower = 40 ∧
      (after (.hitchSetArrival ⟨410, true⟩ ⟨0, true⟩ ⟨0, true⟩) (hitched (.travel .return 400 9000) 420)).htc.mode = .work ∧
      (after .travelTimerExpiry (hitched (.travel .transport 800 0) 420)).nts.notices =
        [⟨.hitch .stalled, [16, 0x69, 0x32, 0x0C, 0x80, 0x64], false⟩] := by decide +kernel

theorem test_buttons :
    (after (.debounceTimerExpiry .extUp) (withInput (hitched .hold 420) .extUp (edge true))).htc.raise = 30 ∧
      (after (.debounceTimerExpiry .extDown) (withInput (hitched (.manual .up) 420) .extDown (edge true))).htc.mode =
        .hold := by decide +kernel

/-! ## The other arrivals and the inputs -/

theorem test_pedal_set :
    (after (.pedalSetArrival ⟨420, true⟩ ⟨400, true⟩) train).tbc.demand = 418 ∧
      (after (.pedalSetArrival ⟨200, true⟩ ⟨200, true⟩) train).tbc.demand = 205 ∧
      (after (.pedalSetArrival ⟨420, true⟩ ⟨150, true⟩) train).tbc.demand = 0 := by decide +kernel

theorem test_line_fault :
    (after (.lineArrival ⟨240, true⟩)
      { train with tbc := { train.tbc with demand := 418, faultRun := 49 } }).nts.notices =
        [⟨.trailer .lineFault, [1, 162, 0, 240, 0, 2], false⟩] := by decide +kernel

theorem test_debounce :
    (after (.rawInputChange .seat true) listening).mfe.inputs.seat = ⟨true, false, some ⟨true, 20⟩⟩ ∧
      (after (.debounceTimerExpiry .seat) (withInput listening .seat (edge true))).present .seat = true ∧
      (after (.debounceTimerExpiry .seat) (withInput inSix .seat (edge false))).she.seatTimer = some 2000 := by
  decide +kernel

theorem test_channel_failure :
    (after (.speedPairArrival ⟨0, false⟩ ⟨-3, true⟩) { listening with mfe := { listening.mfe with ne := ⟨900, .stale, 4⟩ } }).mfe.ne =
        ⟨900, .failed, 5⟩ ∧
      (after (.speedPairArrival ⟨9999, true⟩ ⟨-3, true⟩) listening).mfe.ne = ok 3500 ∧
      (after (.speedPairArrival ⟨9999, true⟩ ⟨-3, true⟩) listening).mfe.no = ok 0 := by decide +kernel

/-! ## The step -/

theorem test_step_and_tick :
    step { listening with pending := [.nop 1, .halt 0] } =
        .next { after (.nop 1) listening with pending := [.halt 0] } ∧
      step State.reset = .next { State.reset with rlk := { State.reset.rlk with window := some 19 } } := by
  constructor <;> rfl

/-! ## Deciding the driveline law -/

/-- A property of every pack, decided pack by pack. -/
def decidePacks (P : PackId → Prop) [DecidablePred P] : Decidable (∀ p, P p) :=
  decidable_of_iff (∀ p ∈ gearboxPacks ++ [.fdp], P p) ⟨fun h p => h p (by cases p <;> decide), fun h p _ => h p⟩

/-- A property of what an option holds, decided. -/
def decideAll {α : Type} (o : Option α) (P : α → Prop) [DecidablePred P] : Decidable (∀ x, o = some x → P x) :=
  match o with
  | none => .isTrue fun _ h => nomatch h
  | some y => decidable_of_iff (P y) ⟨fun h _ e => Option.some.inj e ▸ h, fun h => h y rfl⟩

/-- The existence of what an option holds with a property, decided. -/
def decideAny {α : Type} (o : Option α) (P : α → Prop) [DecidablePred P] : Decidable (∃ x, o = some x ∧ P x) :=
  match o with
  | none => .isFalse fun ⟨_, h, _⟩ => nomatch h
  | some y => decidable_of_iff (P y) ⟨fun h => ⟨y, rfl, h⟩, fun ⟨_, e, h⟩ => Option.some.inj e ▸ h⟩

/-- Whether a pack is in RISING, decided. -/
def decideRising (st : PackState) : Decidable (∃ d t, st = .rising d t) :=
  match st with
  | .rising d t => .isTrue ⟨d, t, rfl⟩
  | .released => .isFalse nofun
  | .fill => .isFalse nofun
  | .locked => .isFalse nofun
  | .falling _ _ _ => .isFalse nofun
  | .calStep => .isFalse nofun
  | .fault => .isFalse nofun

/-- Whether a pack is in FALLING, decided. -/
def decideFalling (st : PackState) : Decidable (∃ c d t, st = .falling c d t) :=
  match st with
  | .falling c d t => .isTrue ⟨c, d, t, rfl⟩
  | .released => .isFalse nofun
  | .fill => .isFalse nofun
  | .locked => .isFalse nofun
  | .rising _ _ => .isFalse nofun
  | .calStep => .isFalse nofun
  | .fault => .isFalse nofun

/-- Where a calibration has a pack, decided. -/
def decidePlaces (j : CalJob) (id : PackId) (p : PackRecord) : Decidable (j.places id p) := by
  unfold CalJob.places PackRecord.resting
  cases j.phase <;> infer_instance

/-- Where a shift has a pack, decided. -/
def decideShift (s : State) (r : ShiftRecord) (id : PackId) (p : PackRecord) : Decidable (s.shiftPlaces r id p) := by
  unfold State.shiftPlaces PackRecord.resting
  letI := decideRising
  letI := decideFalling
  cases s.she.state <;> infer_instance

/-- The front law, decided. -/
def decideFront (s : State) : Decidable s.frontLaw := by
  unfold State.frontLaw
  cases s.frd.phase <;> infer_instance

/-- The driveline law, decided. -/
def decideDriveline (s : State) : Decidable s.drivelineLaw := by
  letI packs : ∀ (P : PackId → Prop) [DecidablePred P], Decidable (∀ p, P p) := fun P _ => decidePacks P
  letI every : ∀ {α : Type} (o : Option α) (P : α → Prop) [DecidablePred P], Decidable (∀ x, o = some x → P x) :=
    fun o P _ => decideAll o P
  letI some' : ∀ {α : Type} (o : Option α) (P : α → Prop) [DecidablePred P], Decidable (∃ x, o = some x ∧ P x) :=
    fun o P _ => decideAny o P
  letI places := decidePlaces
  letI shifts := decideShift
  letI a : Decidable s.ratioLaw := by unfold State.ratioLaw; infer_instance
  letI b : Decidable s.presentLaw := by unfold State.presentLaw; infer_instance
  letI c : Decidable s.recordLaw := by unfold State.recordLaw; infer_instance
  letI d : Decidable s.calLaw := by unfold State.calLaw; infer_instance
  letI e : Decidable s.gearLaw := by unfold State.gearLaw PackRecord.resting; infer_instance
  letI f : Decidable s.supplyLaw := by unfold State.supplyLaw; infer_instance
  letI g := decideFront s
  letI h : Decidable s.signalLaw := by unfold State.signalLaw; infer_instance
  letI i : Decidable s.brakingLaw := by unfold State.brakingLaw; infer_instance
  unfold State.drivelineLaw
  infer_instance

/-- Whether a state meets the driveline law. -/
def lawful (s : State) : Bool := @decide _ (decideDriveline s)

/-- The laws of the pack records, decided. -/
def decidePackLaw (s : State) : Decidable s.packLaw := by
  letI packs : ∀ (P : PackId → Prop) [DecidablePred P], Decidable (∀ p, P p) := fun P _ => decidePacks P
  letI every : ∀ {α : Type} (o : Option α) (P : α → Prop) [DecidablePred P], Decidable (∀ x, o = some x → P x) :=
    fun o P _ => decideAll o P
  letI fields : ∀ f : PackFields, Decidable f.inRange := fun f => by unfold PackFields.inRange; infer_instance
  unfold State.packLaw
  infer_instance

theorem packLaw_of_all (l : List State) (h : l.all (fun s => @decide _ (decidePackLaw s)) = true) :
    ∀ s ∈ l, s.packLaw :=
  fun s hs => @of_decide_eq_true _ (decidePackLaw s) (List.all_eq_true.mp h s hs)

theorem lawful_of_all (l : List State) (h : l.all lawful = true) : ∀ s ∈ l, s.drivelineLaw :=
  fun s hs => @of_decide_eq_true _ (decideDriveline s) (List.all_eq_true.mp h s hs)

theorem test_lawful_gearbox_states :
    ∀ s ∈ [listening, inSix, waitingShift, fillingShift, handoverShift, confirmShift], s.drivelineLaw :=
  lawful_of_all _ (by decide +kernel)

theorem test_lawful_calibration_and_front_states :
    ∀ s ∈ [parked, fillingCal, halfFilledCal, settlingCal, steppingCal, waitingCal, holding, fillingFront, waitingFront],
      s.drivelineLaw :=
  lawful_of_all _ (by decide +kernel)

theorem test_lawful_packs : ∀ s ∈ [inSix, waitingShift, confirmShift], s.packLaw :=
  packLaw_of_all _ (by decide +kernel)

/-! ## Witnesses: for each obligation, states and operands that meet its hypotheses -/

theorem test_listening_states :
    ∀ s ∈ [listening, train, inSix, waitingShift, fillingShift, handoverShift, confirmShift, parked, steppingCal,
           holding, hitched .hold 420, hitched .work 420, hitched .locked 420], s.listens := by
  unfold State.listens
  decide +kernel

theorem test_labelled_tables :
    ∀ s ∈ [listening, train, hitched .hold 420], s.cpt.labelLaw := by
  unfold Coupling.labelLaw
  decide +kernel

theorem witness_NopAndStatusOnlyRead :
    inSix.listens ∧ (∀ s ∈ [listening, fillingFront, holding], s.drivelineLaw) ∧
      [listening, fillingFront, holding].map (fun s => s.packs.fdp.state.code) = [0, 1, 3] ∧
      [listening, fillingFront, holding].map (fun s => s.packCommand .fdp) = [0, 30, 160] :=
  ⟨test_listening_states _ (by simp), lawful_of_all _ (by decide +kernel), by decide +kernel⟩

theorem witness_EveryResetLeaves : train.listens ∧ train.cpt ≠ listening.cpt :=
  ⟨test_listening_states _ (by simp), by decide +kernel⟩

theorem witness_WhatEachResetKindKeeps : inSix.listens ∧ inSix.rmp.entries ≠ [] ∧ PackId.fdp ≠ .fwd :=
  ⟨test_listening_states _ (by simp), by decide +kernel⟩

theorem witness_WithholdChangesUsability : inSix.listens ∧ inSix.rmp.entries ≠ [] :=
  ⟨test_listening_states _ (by simp), by decide +kernel⟩

theorem witness_EmptyQueueIsTheClock :
    State.reset.pending = [] ∧ State.reset.heldInReset = false ∧ State.reset.firstDue = none ∧
      fillingFront.pending = [] ∧ fillingFront.firstDue = some .fdpFillTimerExpiry ∧
      (after .rstHeldLow State.reset).pending = [] ∧ (after .rstHeldLow State.reset).heldInReset = true := by
  decide +kernel

theorem witness_EveryCommandIsAnswered :
    requestParts (.select 0 9) = some (0x40, [9], 0) ∧ reply (.select 0 9) listening = some (.range, []) ∧
      reply (.nop 0) listening = some (.ok, []) := by decide +kernel

theorem witness_RequestFramesRoundTrip : requestParts (.lookup 2 3 501) = some (0x14, [3, 1, 245], 2) := by
  decide +kernel

theorem witness_CrcEndsEveryFrame : judge [0x01, 0x00, 0x51] = .accepted (.nop 0) := by decide +kernel

theorem witness_DiscardedBytesTouchNoBlock :
    frameFault [0x01] = some .badFrame ∧ frameFault [0x40, 31] = some .badFrame ∧
      frameFault [0x40, 1, 3] = some .badFrame ∧ frameFault [0x40, 1, 3, 0xFF] = some .badFrame ∧
      frameFault (frameOf 0x99 []) = some .unknown ∧ frameFault (frameOf 0x01 [0]) = some .badFrame ∧
      State.reset.heldInReset = false ∧ State.reset.rlk.window.isSome = true ∧
      requestParts (.nop 0) = some (0x01, [], 0) := by decide +kernel

theorem witness_ConditionsReachTheirBlocks : 4 ≤ (4 : Byte).toNat ∧ (3 : Byte).toNat < 4 := by decide

theorem witness_NoticeEntry :
    let n := listening.nts
    let m := n.offer (.supply .ok) []
    n.enabled (.input .park true) = false ∧ n.enabled (.supply .low) = true ∧
      (∃ x ∈ m.notices, x.report.source = (Report.supply .low).source) ∧
      (∀ x ∈ m.notices, x.report.source ≠ (Report.adaptLimit).source) ∧ n.enabled .adaptLimit = true := by decide +kernel

theorem witness_TakeNoticeRemovesTheOldest :
    let m := listening.nts.offer (.supply .ok) []
    listening.nts.notices = [] ∧ m.notices = [⟨.supply .ok, [], false⟩] ∧ m.attnLow = !m.notices.isEmpty ∧
      (m.notices.map fun x => x.report.source).Nodup ∧ m.enabled (.supply .low) = true := by decide +kernel

theorem witness_EnablesActOnLaterOffers :
    (0x800000 : Tri).getLsbD 23 = true ∧ (0x7FFFFF : Tri).getLsbD 23 = false := by decide

theorem witness_HeldInResetNothingHappens :
    (after .rstHeldLow inSix).heldInReset = true ∧ heldIgnores (.nop 0) = true := by decide +kernel

theorem witness_TableChangesAreHandedOn :
    let lost : Coupling := ⟨none, some (lead .lost), some (second .lost), 3, 300⟩
    let t := train.commit lost [⟨.drawbar, .lost, 1, 501, 4⟩]
    t.cpt.mtow ≠ train.cpt.mtow ∧ t.cpt.anyLost ≠ train.cpt.anyLost ∧ t.cpt.members ≠ train.cpt.members ∧
      t.cpt.anyLost = true ∧ train.cpt.anyLost = false ∧ train.nts.enabled (.coupling .drawbar .lost) = true := by
  decide +kernel

theorem witness_HandlesMoveForward :
    let full : Coupling := ⟨none, some { lead .active with handle := 255 }, some { second .active with handle := 1 }, 255, 300⟩
    1 ≤ full.counter ∧ full.counter ≤ 255 ∧ full.hitch = none ∧ full.freeHandle = 2 ∧
      reply (.attach 0 2 0 (.trailer 180 140 20 none)) listening = some (.ok, [1, 1]) ∧
      reply (.attach 0 0 0 (.trailer 180 140 20 none)) listening = some (.range, []) := by decide +kernel

/-- An implement field set. -/
def implementSet : FieldSet := .implement 800 100 400 5 32 40 150 none

/-- A trailer field set. -/
def trailerSet : FieldSet := .trailer 180 140 20 none

theorem witness_AttachRefusesByTheFirstFailedCheck :
    (implementOf trailerSet).isSome = false ∧ (trailerOf trailerSet).isSome = true ∧
      (implementOf implementSet).isSome = true ∧ train.cpt.drawbar ≠ none ∧ train.cpt.towthru ≠ none ∧
      listening.cpt.towthru = none ∧ listening.cpt.drawbar = none ∧ (hitched .locked 420).cpt.drawbar = none ∧
      ({ listening with htc := { listening.htc with mode := .locked } } : State).cpt.hitch = none ∧
      train.cpt.hitch = none ∧ train.htc.mode ≠ .locked ∧ (501 : Half) ≠ 0#16 ∧
      (∃ x ∈ train.cpt.labels, x.2 = (501 : Half).toNat) := by decide +kernel

theorem witness_AttachPutsTheEntryInUse :
    (implementOf implementSet).isSome = true ∧ (trailerOf trailerSet).isSome = true ∧ listening.cpt.hitch = none ∧
      listening.htc.mode ≠ .locked ∧ listening.cpt.drawbar = none ∧
      (∀ x ∈ listening.cpt.labels, x.2 ≠ (9 : Half).toNat) ∧
      ({ train.cpt with towthru := none } : Coupling).drawbar = some (lead .active) ∧ (lead .active).state = .active := by
  decide +kernel

theorem witness_AmendStagesACopy :
    (∀ x ∈ train.cpt.labels, x.1 ≠ (9 : Byte).toNat) ∧ (hitched .hold 420).cpt.hitch = some cultivator ∧
      cultivator.handle = (7 : Byte).toNat ∧ implementOf trailerSet = none ∧ (implementOf implementSet).isSome = true ∧
      train.cpt.trailer .drawbar = some (lead .active) ∧ (lead .active).handle = (1 : Byte).toNat ∧
      trailerOf implementSet = none ∧ (trailerOf trailerSet).isSome = true ∧ (lead .lost).state = .lost ∧
      (lead (.retiring .active)).state = .retiring .active := by decide +kernel

theorem witness_RetireRemovesOrWaitsAndRestoreReturns :
    (∀ x ∈ train.cpt.labels, x.1 ≠ (9 : Byte).toNat) ∧ (hitched .work 420).cpt.hitch = some cultivator ∧
      train.cpt.trailer .drawbar = some (lead .active) ∧ train.cpt.towthru ≠ none ∧
      train.cpt.trailer .towthru = some (second .active) ∧ train.tbc.demand = 0 ∧ train.mfe.pt.state ≠ .failed ∧
      train.mfe.pt.held ≤ 50 ∧ ¬ (ok 51).held ≤ 50 ∧ (second .active).state ≠ .lost ∧ (second .lost).state = .lost ∧
      (second (.retiring .active)).state = .retiring .active ∧ (second .active).handle = (2 : Byte).toNat := by
  decide +kernel

theorem witness_LookupReadsTheRecord :
    ((0 : Byte) ≠ 1#8 ∧ (0 : Byte) ≠ 2#8 ∧ (0 : Byte) ≠ 3#8) ∧ (4 : Half).toNat ≠ 3 ∧
      train.cpt.hitch = none ∧ (9 : Half).toNat ≠ (lead .active).handle ∧ (9 : Half).toNat ≠ (second .active).handle ∧
      (1 : Half).toNat = (lead .active).handle ∧ (2 : Half).toNat = pointCode .drawbar ∧
      (501 : Half).toNat = (lead .active).tag ∧ (hitched .hold 420).cpt.hitch = some cultivator ∧
      (7 : Half).toNat = cultivator.handle := by decide +kernel

theorem witness_PendingTimeoutRemovesTheRecord :
    listening.heldInReset = false ∧ ({ cultivator with state := .pending 0 } : ImplementRecord).state = .pending 0 ∧
      (lead (.pending 0)).state = .pending 0 ∧ listening.cpt.hitch = none ∧ listening.cpt.drawbar = none := by
  decide +kernel

theorem witness_ContactsMoveTheTrailerRecords :
    ((withInput train .detA (edge false)).mfe.inputs.get .detA).candidate = some ⟨false, 0⟩ ∧
      train.heldInReset = false ∧ train.cpt.drawbar = some (lead .active) ∧ listening.cpt.drawbar = none ∧
      ((withInput listening .detB (edge true)).mfe.inputs.get .detB).candidate = some ⟨true, 0⟩ := by decide +kernel

theorem witness_HitchArrivalAcceptsTheImplement :
    listening.cpt.hitch = none ∧ (hitched .hold 420).cpt.hitch = some cultivator ∧
      listening.nts.enabled (.coupling .hitch .accepted) = true ∧ listening.nts.enabled (.coupling .hitch .applied) = true ∧
      ({ cultivator with state := .pending 1, staged := some cultivator.fields } : ImplementRecord).staged ≠ none ∧
      cultivator.state = .active := by decide +kernel

theorem witness_LineArrivalSupervisesAndRetires :
    train.heldInReset = false ∧ (⟨50, true⟩ : Sample).valid = true ∧ (ok 50).held ≤ 50 ∧ train.tbc.demand = 0 ∧
      (ok 50).state = .ok ∧ train.mfe.pt.state ≠ .ok ∧ 50 < (ok 51).held ∧ (ok 51).state = .ok := by decide +kernel

theorem witness_ArrivalsUpdateTheirChannels : listening.heldInReset = false ∧ train.heldInReset = false := by decide +kernel

theorem witness_InputsAreDebounced :
    listening.heldInReset = false ∧ (listening.mfe.inputs.get .park).raw = false ∧
      (listening.mfe.inputs.get .park).level ≠ true ∧ ((edge true).raw ≠ false ∧ (edge true).level = false) ∧
      (listening.mfe.inputs.get .seat).candidate = none ∧ (edge true).candidate = some ⟨true, 0⟩ ∧
      (listening.nts.enabled (.input .park true) = true ∨
        (after (.enableNotice 0 0x000800) listening).nts.enabled (.input .park true) = true) := by decide +kernel

theorem witness_TractionFollowsItsArrivalsAndParameters :
    listening.heldInReset = false ∧ listening.nts.enabled (.trailer .sensor) = true ∧
      ({ listening.tre with slipValid := true } : Traction).slipValid = true := by decide +kernel

theorem witness_DefineRatioWritesTheEntry :
    inSix.ratioLaw ∧ ¬ (1 ≤ (0 : Byte).toNat) ∧ ¬ ((33 : Byte).toNat ≤ 32) ∧ (8 : Byte).toNat ≤ 8 ∧
      ({ inSix with straps := ⟨.four, .spring⟩ } : State).straps.gearset ≠ .six ∧ ¬ (7 : Byte).toNat ≤ 6 ∧
      (6 : Byte).toNat = inSix.she.pr ∧ reply (.defineRatio 0 9 1 6 10 300) inSix = some (.duplicate, []) ∧
      reply (.defineRatio 0 9 1 7 10 225) inSix = some (.order, []) ∧
      reply (.defineRatio 0 9 1 7 10 226) inSix = some (.ok, [9, 1, 7, 10, 0, 226, 1]) ∧
      reply (.defineRatio 0 32 2 8 11 1500) inSix = some (.ok, [32, 2, 8, 11, 5, 220, 1]) := by
  refine ⟨(test_lawful_gearbox_states inSix (by simp)).1, ?_⟩
  decide +kernel

theorem witness_ClearAndReadRatioActOnTheEntry :
    ¬ (1 ≤ (0 : Byte).toNat) ∧ (33 : Byte).toNat > 32 ∧ (∀ e ∈ inSix.rmp.entries, e.index ≠ (32 : Byte).toNat) ∧
      (∃ e ∈ inSix.rmp.entries, e.index = (6 : Byte).toNat) ∧ (6 : Byte).toNat = inSix.she.pr ∧
      (∃ e ∈ inSix.rmp.entries, e.index = (8 : Byte).toNat) ∧ (8 : Byte).toNat ≠ inSix.she.pr ∧
      (8 : Byte).toNat ≠ inSix.she.nr ∧ inSix.she.record = none := by decide +kernel

theorem witness_PackCommandsFollowTheStateAndAreRead :
    steppingCal.packs.sp3.state = .calStep ∧ steppingCal.cau.job.isSome = true ∧
      (pack (.rising 500 499)).state = .rising 500 499 ∧ (pack (.falling 180 250 250)).state = .falling 180 250 250 ∧
      PackId.code .fdp = (12 : Byte).toNat ∧ (13 : Byte).toNat > 12 ∧ (0 : Byte).toNat = 0 ∧
      PackId.code .sp6 = (8 : Byte).toNat := by decide +kernel

theorem witness_AmendPackStagesAndClearFaultReleases :
    max 10 (min 400 (41 : Half).toNat) > max 10 (min 400 (40 : Half).toNat) ∧
      max 10 (min 400 (40 : Half).toNat) ≤ max 10 (min 400 (40 : Half).toNat) ∧ PackId.code .fwd = (1 : Byte).toNat ∧
      (inSix.packs.get .fwd).state ≠ .fault ∧ (pack .fault).state = .fault := by decide +kernel

theorem witness_ChargeStateFollowsPressureAndThreshold :
    inSix.heldInReset = false ∧ waitingShift.fsa.waiting.shift = true ∧ waitingShift.she.state = .supplyWait ∧
      waitingCal.fsa.waiting.cal = true ∧ (119 : Nat) < inSix.fsa.pcMin ∧ inSix.fsa.pcMin + 10 ≤ 130 := by decide +kernel

/-- The upshift waiting with the supply free. -/
def grantableShift : State := { waitingShift with fsa := { waitingShift.fsa with charge := .ok } }

/-- The front drive waiting with the supply free. -/
def grantableFront : State := { waitingFront with fsa := { waitingFront.fsa with charge := .ok } }

/-- The calibration waiting with the supply free. -/
def grantableCal : State :=
  { calibrating .waiting .released .released .released with
    fsa := { parked.fsa with waiting := ⟨false, false, true⟩ } }

theorem witness_TheGrantGoesToTheFirstWaiter :
    (∀ s ∈ [grantableShift, grantableFront, grantableCal], s.drivelineLaw) ∧
      (∀ s ∈ [grantableShift, grantableFront, grantableCal],
        s.heldInReset = false ∧ s.fsa.holder = none ∧ s.fsa.charge = .ok) ∧
      grantableShift.fsa.waiting = ⟨true, false, false⟩ ∧ grantableShift.she.record = some sixToSeven ∧
      grantableFront.fsa.waiting = ⟨false, true, false⟩ ∧ grantableCal.fsa.waiting = ⟨false, false, true⟩ ∧
      grantableCal.cau.job.isSome = true ∧ waitingShift.fsa.charge ≠ .ok ∧ listening.fsa.waiting = ⟨false, false, false⟩ ∧
      fillingShift.fsa.holder = some .shift :=
  ⟨lawful_of_all _ (by decide +kernel), by decide +kernel⟩

/-- In neutral over the map, with a target. -/
def inNeutral (nr vg : Nat) : State :=
  { inSix with
    packs := listening.packs
    she := { inSix.she with pr := 0, nr := nr }
    mfe := { inSix.mfe with vg := ok vg } }

theorem witness_StepDecisionChoosesTheDestination :
    (∀ s ∈ [inSix, inNeutral 8 299, inNeutral 8 300], s.drivelineLaw) ∧
      (∀ i ∈ [0, 7, 20], ({ inSix with she := { inSix.she with nr := i } } : State).she.pr ≠ i) ∧
      inSix.rmp.entry 8 = some ⟨8, .fwd, .sp4, .rngB, 225, true⟩ ∧ (inNeutral 8 299).mfe.vg.held < 300 ∧
      ¬ (inNeutral 8 300).mfe.vg.held < 300 ∧
      (State.stepDecision { inSix with she := { inSix.she with nr := 20 } }).she.record.map (·.kind) =
        some .directionChange ∧
      (State.stepDecision (inNeutral 8 299)).she.record.map (fun r => (r.kind, r.dest)) = some (.startOff, 8) ∧
      (State.stepDecision (inNeutral 8 300)).she.record.map (·.kind) = some .rolling :=
  ⟨lawful_of_all _ (by decide +kernel), by decide +kernel⟩

theorem witness_SelectAndStepSetTheTarget :
    inSix.present .park = false ∧ inSix.present .seat = true ∧ listening.present .seat = false ∧
      steppingCal.she.state = .calHold ∧ (33 : Byte).toNat > 32 ∧ (inSix.rmp.entry 9).isSome = false ∧
      reply (.select 0 20) { inSix with mfe := { inSix.mfe with vg := ok 1001 } } = some (.speed, []) ∧
      reply (.select 0 20) { inSix with mfe := { inSix.mfe with vg := ok 1000 } } = some (.ok, [6, 20, 3]) ∧
      reply (.step 0 9) inSix = some (.range, []) ∧ reply (.step 0 0xF7) inSix = some (.range, []) ∧
      reply (.step 0 1) { inNeutral 0 0 with rmp := listening.rmp } = some (.notFound, []) := by decide +kernel

theorem witness_HaltAndSetShiftProfile :
    steppingCal.she.state = .calHold ∧ inSix.she.state = .settled ∧ handoverShift.she.state = .handover := by decide +kernel

theorem witness_PhaseTimersCarryTheShift :
    fillingShift.heldInReset = false ∧ fillingShift.she.record = some sixToSeven ∧ fillingShift.she.state = .fill ∧
      fillingShift.she.timer.isSome = true ∧ handoverShift.she.record = some sixToSeven ∧
      handoverShift.she.state = .handover ∧ handoverShift.she.timer.isSome = true ∧ sixToSeven.kind ≠ .downshift := by
  decide +kernel

/-- A start-off into 6 in CONFIRM. -/
def confirmStartOff : State :=
  { confirmShift with
    packs := { confirmShift.packs with sp2 := pack .locked, sp3 := pack .released }
    she := { confirmShift.she with pr := 0, nr := 6, record := some { sixToSeven with
      origin := 0, dest := 6, kind := .startOff, offGoing := [], onComing := [.fwd, .sp2, .rngB], common := [] } } }

/-- The downshift from 7 to 6 in a phase. -/
def downshift (phase : EngineState) (sp2 sp3 : PackState) (flag : Bool) : State :=
  let s := upshift phase (some 120) sp2 sp3 true
  { s with
    she := { s.she with pr := 7, nr := 6, downshift := flag, record := some { sixToSeven with
      origin := 7, dest := 6, kind := .downshift, offGoing := [.sp3], onComing := [.sp2] } }
    fsa := if phase = .fill then { s.fsa with holder := some .shift, fillList := [.sp2] } else s.fsa }

/-- In INTERVAL after the upshift's origin, with a target. -/
def inInterval (nr : Nat) : State :=
  { inSix with she := { inSix.she with nr := nr, state := .interval, timer := some 0 } }

theorem witness_TimersEndTheShift :
    (∀ s ∈ [downshift .fill .fill .locked false, downshift .handover (.rising 500 0) (.falling 180 500 0) true,
        confirmStartOff, inInterval 6, inInterval 8], s.drivelineLaw) ∧
      confirmStartOff.she.record.map (·.kind) = some .startOff ∧ confirmShift.she.record.map (·.kind) = some .upshift ∧
      confirmShift.she.timer.isSome = true ∧ waitingShift.she.timer.isSome = true ∧ inSix.she.timer = none ∧
      (inInterval 6).she.pr = (inInterval 6).she.nr ∧ (inInterval 8).she.pr ≠ (inInterval 8).she.nr ∧
      (inInterval 8).rlk.shiftHold = false :=
  ⟨lawful_of_all _ (by decide +kernel), by decide +kernel⟩

theorem witness_ForcedNeutralGivesUpTheShift :
    inSix.she.seatTimer = none ∧ (inNeutral 0 0).she.state = .settled ∧ (inNeutral 0 0).she.pr = 0 ∧
      handoverShift.she.state ≠ .calHold ∧ handoverShift.she.pr ≠ 0 ∧
      ((withInput handoverShift .park (edge true)).mfe.inputs.get .park).candidate = some ⟨true, 0⟩ ∧
      ((withInput parked .park (edge false)).mfe.inputs.get .park).candidate = some ⟨false, 0⟩ ∧
      parked.cau.job = none ∧
      (∀ s ∈ [{ handoverShift with she := { handoverShift.she with seatTimer := some 0 } },
          withInput handoverShift .park (edge true), withInput parked .park (edge false)], s.drivelineLaw) ∧
      handoverShift.nts.enabled (.shift .forcedNeutral) = true :=
  ⟨by decide +kernel, by decide +kernel, by decide +kernel, by decide +kernel, by decide +kernel, by decide +kernel,
   by decide +kernel, by decide +kernel, lawful_of_all _ (by decide +kernel), by decide +kernel⟩

theorem witness_PairsConfirmAndAdapt :
    (∀ s ∈ [waitingShift, confirmShift,
        { confirmShift with she := { confirmShift.she with record := some { sixToSeven with confirmRun := 2 } } }],
      s.drivelineLaw) ∧
      waitingShift.packLaw ∧ confirmShift.packLaw ∧ waitingShift.she.state = .supplyWait ∧
      waitingShift.she.record = some sixToSeven ∧ confirmShift.she.state = .confirm ∧ fillingShift.she.state = .fill ∧
      sixToSeven.kind = .upshift ∧ sixToSeven.onComing = [.sp3] ∧ 1200 ≤ sixToSeven.neRef ∧
      confirmShift.nts.enabled (.shift .halted) = true ∧ confirmShift.nts.enabled .adaptLimit = true :=
  ⟨lawful_of_all _ (by decide +kernel), test_lawful_packs _ (by simp), test_lawful_packs _ (by simp),
   by decide +kernel⟩

theorem witness_CalibrateStartsACalibration :
    (0 : Byte).toNat = 0 ∧ (12 : Byte).toNat > 11 ∧ inSix.she.pr ≠ 0 ∧ parked.cau.job = none ∧
      parked.she.state = .settled ∧ parked.she.pr = 0 ∧ parked.calInterlock = true ∧ listening.calInterlock = false ∧
      PackId.code .sp3 = (5 : Byte).toNat ∧ (parked.packs.get .sp3).state ≠ .fault ∧ parked.fsa.charge = .ok ∧
      reply (.calibrate 0 5 100) { parked with fsa := { parked.fsa with charge := .low } } =
        some (.ok, [5, 1, 9, 0, 100, 0]) ∧
      reply (.calibrate 0 5 100) { parked with packs := { parked.packs with fwd := { pack .fault with cause := .confirm } } } =
        some (.fault, []) := by decide +kernel

theorem witness_CalibrationTimersRaiseThePressure :
    fillingCal.cau.job.map (fun j => (j.phase, j.fill1.isSome, j.fill2.isSome)) = some (.filling, true, true) ∧
      halfFilledCal.cau.job.map (fun j => (j.phase, j.fill1.isSome, j.fill2.isSome)) = some (.filling, false, true) ∧
      settlingCal.cau.job.map (fun j => (j.phase, j.settle.isSome)) = some (.settling, true) ∧
      steppingCal.cau.job.map (fun j => (j.phase, j.step.isSome)) = some (.stepping, true) ∧ steppingCal.cau.stepCount < 60 ∧
      lastStepCal.cau.stepCount = 60 ∧
      steppingCal.heldInReset = false ∧
      lawful lastStepCal = true := by decide +kernel

theorem witness_CalibrationEndsAtAKissOrAnAbort :
    steppingCal.heldInReset = false ∧ steppingCal.cau.job.isSome = true ∧
      ((withInput steppingCal .park (edge false)).mfe.inputs.get .park).candidate = some ⟨false, 0⟩ ∧
      lawful (withInput steppingCal .park (edge false)) = true ∧ waitingCal.cau.job.map (·.phase) = some .waiting ∧
      waitingCal.heldInReset = false ∧ lawful waitingCal = true ∧ waitingCal.fsa.charge = .ok ∧
      (after (.chargeArrival ⟨119, true⟩) waitingCal).mfe.pc.held < waitingCal.fsa.pcMin ∧
      steppingCal.nts.enabled (.cal .done) = true ∧ steppingCal.nts.enabled (.cal .aborted) = true := by decide +kernel

theorem witness_AnEvaluationActsOnFdp :
    listening.frd.phase = .rest ∧ waitingFront.frd.phase = .waiting ∧ fillingFront.frd.phase = .filling ∧
      fillingFront.packs.fdp.state = .fill ∧ fillingFront.fsa.fillList = [.fdp] ∧ holding.frd.phase = .holding ∧
      holding.packs.fdp.state = .locked ∧ (State.evaluateFront listening).frd.engage = false ∧
      (State.evaluateFront { holding with tre := { holding.tre with braking := true } }).frd.engage = true := by
  decide +kernel

theorem witness_FrontDriveTakesItsEvents :
    2 < (3 : Byte).toNat ∧ FrontMode.code .auto = (2 : Byte).toNat ∧ listening.frd.releaseTimer = none ∧
      fillingFront.frd.fillTimer.isSome = true ∧ fillingFront.frd.phase = .filling ∧ listening.frd.phase ≠ .filling ∧
      ({ listening.frd with releaseTimer := some 0 } : FrontDrive).releaseTimer.isSome = true := by decide +kernel

theorem witness_SlipLatchFollowsItsTable :
    holding.heldInReset = false ∧
      (let s : State := { holding with tre := { holding.tre with slipValid := true, vw := 200 } }
       (after (.speedPairArrival ⟨1000, true⟩ ⟨0, true⟩) s).tre.slipValid ≠ s.tre.slipValid ∧
        (after (.speedPairArrival ⟨1000, true⟩ ⟨100, true⟩) s).tre.slipValid = s.tre.slipValid ∧
        (after (.setTraction 0 8192 100 200) s).tre.slipValid ≠ s.tre.slipValid) := by decide +kernel

/-- A hitch with no implement. -/
def unhitched (m : HitchMode) (p : Nat) : State :=
  let s := hitched m p
  { s with cpt := { s.cpt with hitch := none } }

/-- A hitch whose implement has not been seen in time. -/
def awaited (m : HitchMode) (p : Nat) : State :=
  let s := hitched m p
  { s with cpt := { s.cpt with hitch := some { cultivator with state := .pending 0 } } }

/-- ATTACH, RETIRE and the pending timer change the limits under a mode (R144, R145, R152, R155, R157). -/
theorem test_changed_limits :
    let parts (t : State) := (t.htc.mode, t.htc.raise, t.nts.notices.map (·.report))
    let quiet (s : State) := after (.disableNotice 0 0x40) s
    parts (after (.attach 0 1 9 implementSet) (unhitched (.travel .transport 1000 9000) 420)) =
        (.travel .transport 800 9000, 0, []) ∧
      parts (after (.attach 0 1 9 implementSet) (unhitched (.manual .up) 800)) = (.hold, 0, [.hitch .limit]) ∧
      parts (after (.attach 0 1 9 implementSet) (unhitched (.manual .up) 799)) = (.manual .up, 0, []) ∧
      parts (after (.retire 0 7) (quiet (hitched .work 420))) = (.hold, 0, [.hitch .retired]) ∧
      parts (after (.retire 0 7) (quiet (hitched (.travel (.goto 900) 800 9000) 420))) =
        (.travel (.goto 900) 900 9000, 0, []) ∧
      (after (.pendingTimerExpiry .hitch) (awaited (.travel .transport 800 9000) 420)).htc.mode =
        .travel .transport 1000 9000 := by decide +kernel

theorem witness_HitchRequestsChangeTheMode :
    (hitched .locked 420).htc.mode = .locked ∧ (hitched .hold 420).htc.mode ≠ .locked ∧
      (hitched .hold 420).cpt.hitch = some cultivator ∧ cultivator.state = .active ∧
      (hitched .hold 420).present .seat = true ∧ (hitched .hold 420).mfe.p.state ≠ .failed ∧
      listening.present .seat = false ∧ listening.cpt.hitch = none ∧ (⟨0, .failed, 5⟩ : Chan).state = .failed ∧
      (∀ m ∈ [.work, .travel .return 400 9000, .travel (.goto 900) 800 9000, .manual .up],
        (hitched m 420).listens ∧ (hitched m 420).htc.mode = m ∧ cultivator.handle = (7 : Byte).toNat) ∧
      (hitched .work 420).cpt.labelLaw ∧ (unhitched (.manual .up) 800).listens ∧
      (unhitched (.manual .up) 800).cpt.hitch = none ∧ (unhitched (.manual .up) 800).htc.mode = .manual .up ∧
      (implementOf implementSet).map (·.pmax) = some 800 ∧ (unhitched (.manual .up) 799).mfe.p.held < 800 ∧
      (awaited .work 420).cpt.hitch.map (·.state) = some (.pending 0) ∧ (awaited .work 420).heldInReset = false := by
  unfold State.listens Coupling.labelLaw
  decide +kernel

theorem witness_HitchArrivalWorksTheMode :
    (hitched .work 420).heldInReset = false ∧ (hitched .work 420).htc.mode = .work ∧
      (hitched (.travel .return 400 9) 410).htc.mode = .travel .return 400 9 ∧
      (hitched (.manual .up) 800).htc.mode = .manual .up ∧
      (after (.hitchSetArrival ⟨0, false⟩ ⟨0, true⟩ ⟨0, true⟩)
        { hitched .work 420 with mfe := { (hitched .work 420).mfe with p := ⟨420, .stale, 4⟩ } }).mfe.p.state = .failed ∧
      (after (.hitchSetArrival ⟨800, true⟩ ⟨0, true⟩ ⟨0, true⟩) (hitched (.manual .up) 700)).nts.notices.map (·.report) =
        [.hitch .limit] ∧
      listening.nts.enabled (.hitch .sensor) = true := by decide +kernel

theorem witness_EdgesAndTheTravelTimerEndAMode :
    ((withInput (hitched .work 420) .seat (edge false)).mfe.inputs.get .seat).candidate = some ⟨false, 0⟩ ∧
      ((withInput (hitched .hold 420) .extUp (edge true)).mfe.inputs.get .extUp).candidate = some ⟨true, 0⟩ ∧
      (hitched .hold 799).mfe.p.held < (hitched .hold 799).liftLimit ∧
      ¬ (hitched .hold 800).mfe.p.held < (hitched .hold 800).liftLimit ∧
      (hitched (.manual .up) 420).htc.mode = .manual .up ∧
      (hitched (.travel .transport 800 0) 420).htc.mode = .travel .transport 800 0 ∧
      (hitched .hold 420).heldInReset = false := by decide +kernel

theorem witness_DemandFollowsTheRecords :
    train.cpt.anyLost = false ∧ train.present .park = false ∧ train.cpt.weighted ≠ [] ∧ listening.cpt.weighted = [] ∧
      ({ train.cpt with drawbar := some (lead .lost) } : Coupling).anyLost = true ∧
      (withInput train .park (steady true)).present .park = true ∧
      ({ lead .active with staged := some (lead .active).fields } : TrailerRecord).staged.isSome = true ∧
      train.cpt.trailer .drawbar = some (lead .active) ∧ train.nts.enabled (.coupling .drawbar .applied) = true := by
  decide +kernel

theorem witness_EveryStepKeepsTheNoticeLaw : train.nts.law ∧ ∃ t, step train = .next t := by
  refine ⟨?_, _, rfl⟩
  unfold NoticeSet.law
  decide +kernel

theorem witness_EveryStepKeepsTheTrailerLaw :
    train.trailerLaw ∧ train.cpt.labelLaw ∧ ∃ t, step train = .next t := by
  refine ⟨⟨by decide +kernel, by decide +kernel, by decide +kernel, ?_, ?_, ?_⟩, test_labelled_tables _ (by simp),
    _, rfl⟩
  · intro t h
    obtain rfl : second .active = t := Option.some.inj h
    exact ⟨⟨_, rfl, .inl rfl⟩, .inl rfl⟩
  · intro x h
    obtain rfl : lead .active = x := Option.some.inj h
    exact ⟨by unfold TrailerFields.inRange; decide, nofun⟩
  · intro x h
    obtain rfl : second .active = x := Option.some.inj h
    exact ⟨by unfold TrailerFields.inRange; decide, nofun⟩

theorem witness_EveryStepKeepsTheLoadLaw : train.loadLaw ∧ ∃ t, step train = .next t := by
  refine ⟨?_, _, rfl⟩
  unfold State.loadLaw
  decide +kernel

theorem witness_EveryStepKeepsTheHitchLaw :
    (hitched .hold 420).hitchLaw ∧ ∃ t, step (hitched .hold 420) = .next t := by
  refine ⟨⟨by decide +kernel, by decide +kernel, by decide +kernel, ?_, nofun, by decide +kernel, by decide +kernel⟩,
    _, rfl⟩
  intro r h
  obtain rfl : cultivator = r := Option.some.inj h
  exact ⟨by unfold ImplementFields.inRange; decide, nofun⟩

theorem witness_EveryStepKeepsTheDrivelineLaw :
    confirmShift.drivelineLaw ∧ confirmShift.packLaw ∧ ∃ t, step confirmShift = .next t :=
  ⟨test_lawful_gearbox_states _ (by simp), test_lawful_packs _ (by simp), _, rfl⟩

theorem witness_ResetMeetsTheLaws : confirmShift.ratioLaw ∧ confirmShift.packLaw ∧ confirmShift.listens :=
  ⟨(test_lawful_gearbox_states _ (by simp)).1, test_lawful_packs _ (by simp), test_listening_states _ (by simp)⟩

theorem witness_TheDrivelineLawBoundsThePressures :
    lawful handoverShift = true ∧ handoverShift.pressed [.sp1, .sp2, .sp3, .sp4, .sp5, .sp6] = 2 ∧
      handoverShift.she.pr ≠ 0 ∧ (fillingShift.packs.get .sp3).state = .fill ∧
      fillingShift.fsa.holder = some .shift ∧ fillingFront.fsa.holder = some .front ∧ fillingCal.fsa.holder = some .cal ∧
      lawful { listening with tre := { listening.tre with braking := true } } = true := by decide +kernel

end Sys2Proof.Tests
end

namespace Sys2Proof.Machine

/-! ## The frame of the blocks' operations: the queue and the link

No block's operation touches the queue or the Request Link. One rule per operation, in the order of the
model's files; as a simp rule each gives both equations. -/

/-! ### Ops -/

@[simp] theorem State.orderNotices_pending_rlk (n : Nat) (s : State) :
    (s.orderNotices n).pending = s.pending ∧ (s.orderNotices n).rlk = s.rlk := by
  obtain ⟨l, k, h⟩ := State.orderNotices_frame n s
  simp [h]

/-- Two blocks that each leave the queue and the link alone do so in either order. -/
theorem eitherOrder_pending_rlk {f g : State → State}
    (hf : ∀ s, (f s).pending = s.pending ∧ (f s).rlk = s.rlk)
    (hg : ∀ s, (g s).pending = s.pending ∧ (g s).rlk = s.rlk) (s : State) :
    (eitherOrder f g s).pending = s.pending ∧ (eitherOrder f g s).rlk = s.rlk := by
  obtain ⟨k, h | h⟩ := eitherOrder_cases f g s <;> simp [h, hf, hg]

@[simp] theorem State.dropLatch_pending_rlk (s : State) :
    s.dropLatch.pending = s.pending ∧ s.dropLatch.rlk = s.rlk := by
  unfold State.dropLatch
  split <;> simp

/-! ### Fill supply -/

@[simp] theorem State.grantShift_pending_rlk (s : State) :
    s.grantShift.pending = s.pending ∧ s.grantShift.rlk = s.rlk := by
  unfold State.grantShift
  split <;> simp

@[simp] theorem State.grantFront_pending_rlk (s : State) :
    s.grantFront.pending = s.pending ∧ s.grantFront.rlk = s.rlk := by
  simp [State.grantFront]

@[simp] theorem State.grantCal_pending_rlk (s : State) :
    s.grantCal.pending = s.pending ∧ s.grantCal.rlk = s.rlk := by
  unfold State.grantCal
  split <;> simp

@[simp] theorem State.grantTo_pending_rlk (s : State) (r : Requester) :
    (s.grantTo r).pending = s.pending ∧ (s.grantTo r).rlk = s.rlk := by
  cases r <;> simp [State.grantTo]

@[simp] theorem State.grantRounds_pending_rlk (n : Nat) (s : State) :
    (s.grantRounds n).pending = s.pending ∧ (s.grantRounds n).rlk = s.rlk := by
  induction n generalizing s with
  | zero => exact ⟨rfl, rfl⟩
  | succ n ih =>
    unfold State.grantRounds
    split
    · exact ⟨rfl, rfl⟩
    · simp only
      split <;> simp [ih]

@[simp] theorem State.grantDecision_pending_rlk (s : State) :
    s.grantDecision.pending = s.pending ∧ s.grantDecision.rlk = s.rlk :=
  State.grantRounds_pending_rlk 3 s

@[simp] theorem State.requestSupply_pending_rlk (s : State) (r : Requester) :
    (s.requestSupply r).pending = s.pending ∧ (s.requestSupply r).rlk = s.rlk := by
  unfold State.requestSupply
  split <;> simp

@[simp] theorem State.leaveFill_pending_rlk (s : State) (ps : List PackId) :
    (s.leaveFill ps).pending = s.pending ∧ (s.leaveFill ps).rlk = s.rlk := by
  unfold State.leaveFill
  simp only
  split <;> simp

/-! ### Front drive -/

@[simp] theorem State.actOnFdp_pending_rlk (s : State) :
    s.actOnFdp.pending = s.pending ∧ s.actOnFdp.rlk = s.rlk := by
  unfold State.actOnFdp
  split <;> simp

@[simp] theorem State.evaluateFront_pending_rlk (s : State) :
    s.evaluateFront.pending = s.pending ∧ s.evaluateFront.rlk = s.rlk := by
  simp [State.evaluateFront]

@[simp] theorem State.slipUpdate_pending_rlk (s : State) :
    s.slipUpdate.pending = s.pending ∧ s.slipUpdate.rlk = s.rlk := by
  simp [State.slipUpdate]

@[simp] theorem State.withdrawSlip_pending_rlk (s : State) :
    s.withdrawSlip.pending = s.pending ∧ s.withdrawSlip.rlk = s.rlk := by
  unfold State.withdrawSlip
  split <;> simp

/-! ### Trailer brake -/

@[simp] theorem State.computeDemand_pending_rlk (s : State) :
    s.computeDemand.pending = s.pending ∧ s.computeDemand.rlk = s.rlk := by
  unfold State.computeDemand
  simp only
  split <;> simp

@[simp] theorem State.setDownshift_pending_rlk (s : State) (b : Bool) :
    (s.setDownshift b).pending = s.pending ∧ (s.setDownshift b).rlk = s.rlk := by
  unfold State.setDownshift
  split <;> simp

@[simp] theorem State.superviseLine_pending_rlk (s : State) :
    s.superviseLine.pending = s.pending ∧ s.superviseLine.rlk = s.rlk := by
  unfold State.superviseLine
  simp only
  split_ifs <;> simp

/-! ### Hitch -/

@[simp] theorem State.holdWith_pending_rlk (s : State) (o : HitchOutcome) :
    (s.holdWith o).pending = s.pending ∧ (s.holdWith o).rlk = s.rlk := by
  simp [State.holdWith]

@[simp] theorem State.seatFallingHitch_pending_rlk (s : State) :
    s.seatFallingHitch.pending = s.pending ∧ s.seatFallingHitch.rlk = s.rlk := by
  unfold State.seatFallingHitch
  split <;> simp

@[simp] theorem State.reformTarget_pending_rlk (s : State) :
    s.reformTarget.pending = s.pending ∧ s.reformTarget.rlk = s.rlk := by
  unfold State.reformTarget
  split <;> simp

@[simp] theorem State.checkLift_pending_rlk (s : State) :
    s.checkLift.pending = s.pending ∧ s.checkLift.rlk = s.rlk := by
  unfold State.checkLift
  split
  · split <;> simp
  · exact ⟨rfl, rfl⟩

@[simp] theorem State.limitsChanged_pending_rlk (s : State) :
    s.limitsChanged.pending = s.pending ∧ s.limitsChanged.rlk = s.rlk := by
  simp [State.limitsChanged]

@[simp] theorem State.travelArrival_pending_rlk (s : State) (p : Purpose) (target timer : Nat) :
    (s.travelArrival p target timer).pending = s.pending ∧ (s.travelArrival p target timer).rlk = s.rlk := by
  unfold State.travelArrival
  simp only
  split_ifs <;> simp

@[simp] theorem State.manualArrival_pending_rlk (s : State) (d : ManualDir) :
    (s.manualArrival d).pending = s.pending ∧ (s.manualArrival d).rlk = s.rlk := by
  unfold State.manualArrival
  split
  · simp
  · cases d <;> simp only <;> split <;> simp

@[simp] theorem State.enterManual_pending_rlk (s : State) (d : ManualDir) :
    (s.enterManual d).pending = s.pending ∧ (s.enterManual d).rlk = s.rlk := by
  simp [State.enterManual]

@[simp] theorem State.buttonRising_pending_rlk (s : State) (d : ManualDir) :
    (s.buttonRising d).pending = s.pending ∧ (s.buttonRising d).rlk = s.rlk := by
  unfold State.buttonRising
  split
  · exact ⟨rfl, rfl⟩
  all_goals split <;> simp

@[simp] theorem State.buttonFalling_pending_rlk (s : State) (d : ManualDir) :
    (s.buttonFalling d).pending = s.pending ∧ (s.buttonFalling d).rlk = s.rlk := by
  unfold State.buttonFalling
  split
  · split <;> simp
  all_goals exact ⟨rfl, rfl⟩

@[simp] theorem State.workArrival_pending_rlk (s : State) :
    s.workArrival.pending = s.pending ∧ s.workArrival.rlk = s.rlk := by
  unfold State.workArrival
  split
  · exact ⟨rfl, rfl⟩
  · simp only
    split <;> simp

@[simp] theorem State.hitchArrival_pending_rlk (s : State) :
    s.hitchArrival.pending = s.pending ∧ s.hitchArrival.rlk = s.rlk := by
  unfold State.hitchArrival
  simp only
  split
  · simp
  · split <;> simp

/-! ### Coupling table -/

@[simp] theorem State.handOver_pending_rlk (s : State) (old : Coupling) :
    (s.handOver old).pending = s.pending ∧ (s.handOver old).rlk = s.rlk := by
  have both := eitherOrder_pending_rlk State.computeDemand_pending_rlk State.evaluateFront_pending_rlk
  unfold State.handOver
  simp only
  split_ifs <;> simp [both]

@[simp] theorem State.offerCouplings_pending_rlk (s : State) (reports : List CplReport) :
    (reports.foldl State.offerCoupling s).pending = s.pending ∧
      (reports.foldl State.offerCoupling s).rlk = s.rlk := by
  induction reports generalizing s with
  | nil => exact ⟨rfl, rfl⟩
  | cons r rest ih => simp [ih]

@[simp] theorem State.commit_pending_rlk (s : State) (c : Coupling) (reports : List CplReport) :
    (s.commit c reports).pending = s.pending ∧ (s.commit c reports).rlk = s.rlk := by
  simp [State.commit]

@[simp] theorem State.applyImplementCopy_pending_rlk (s : State) :
    s.applyImplementCopy.pending = s.pending ∧ s.applyImplementCopy.rlk = s.rlk := by
  unfold State.applyImplementCopy
  split
  · exact ⟨rfl, rfl⟩
  · split <;> simp

@[simp] theorem State.acceptImplement_pending_rlk (s : State) (valid : Bool) :
    (s.acceptImplement valid).pending = s.pending ∧ (s.acceptImplement valid).rlk = s.rlk := by
  unfold State.acceptImplement
  split
  · exact ⟨rfl, rfl⟩
  · split
    · exact ⟨rfl, rfl⟩
    · split <;> simp

@[simp] theorem State.applyTrailerCopies_pending_rlk (s : State) :
    s.applyTrailerCopies.pending = s.pending ∧ s.applyTrailerCopies.rlk = s.rlk :=
  State.commit_pending_rlk s _ _

@[simp] theorem State.detectEdge_pending_rlk (s : State) :
    s.detectEdge.pending = s.pending ∧ s.detectEdge.rlk = s.rlk := by
  unfold State.detectEdge
  split <;> simp

@[simp] theorem State.retireWatch_pending_rlk (s : State) :
    s.retireWatch.pending = s.pending ∧ s.retireWatch.rlk = s.rlk := by
  unfold State.retireWatch
  split <;> simp

@[simp] theorem State.removeImplement_pending_rlk (s : State) (r : ImplementRecord) (o : CplOutcome) :
    (s.removeImplement r o).pending = s.pending ∧ (s.removeImplement r o).rlk = s.rlk :=
  State.commit_pending_rlk s _ _

@[simp] theorem State.retiredHitch_pending_rlk (s : State) :
    s.retiredHitch.pending = s.pending ∧ s.retiredHitch.rlk = s.rlk := by
  unfold State.retiredHitch
  split <;> simp

/-! ### Shift engine -/

@[simp] theorem State.beginShift_pending_rlk (s : State) (dest : RatioEntry) (kind : ShiftKind) :
    (s.beginShift dest kind).pending = s.pending ∧ (s.beginShift dest kind).rlk = s.rlk := by
  simp [State.beginShift]

@[simp] theorem State.blocked_pending_rlk (s : State) :
    s.blocked.pending = s.pending ∧ s.blocked.rlk = s.rlk := by
  simp [State.blocked]

@[simp] theorem State.shiftTo_pending_rlk (s : State) (dest : Option RatioEntry) (kind : RatioEntry → ShiftKind) :
    (s.shiftTo dest kind).pending = s.pending ∧ (s.shiftTo dest kind).rlk = s.rlk := by
  cases dest <;> simp [State.shiftTo]

@[simp] theorem State.neutralShift_pending_rlk (s : State) :
    s.neutralShift.pending = s.pending ∧ s.neutralShift.rlk = s.rlk := by
  simp [State.neutralShift]

@[simp] theorem State.stepDecision_pending_rlk (s : State) :
    s.stepDecision.pending = s.pending ∧ s.stepDecision.rlk = s.rlk := by
  unfold State.stepDecision
  split
  · simp
  · split
    · simp
    · split
      · split_ifs <;> simp
      · split
        · simp
        · split_ifs <;> simp

@[simp] theorem State.acceptTarget_pending_rlk (s : State) (nr : Nat) :
    (s.acceptTarget nr).pending = s.pending ∧ (s.acceptTarget nr).rlk = s.rlk := by
  unfold State.acceptTarget
  simp only
  split <;> simp

@[simp] theorem State.shiftHoldCleared_pending_rlk (s : State) :
    s.shiftHoldCleared.pending = s.pending ∧ s.shiftHoldCleared.rlk = s.rlk := by
  unfold State.shiftHoldCleared
  split <;> simp

@[simp] theorem State.chargeAtShift_pending_rlk (s : State) :
    s.chargeAtShift.pending = s.pending ∧ s.chargeAtShift.rlk = s.rlk := by
  unfold State.chargeAtShift
  split <;> simp

@[simp] theorem State.startHandover_pending_rlk (s : State) (r : ShiftRecord) :
    (s.startHandover r).pending = s.pending ∧ (s.startHandover r).rlk = s.rlk := by
  unfold State.startHandover
  simp only
  split <;> simp

@[simp] theorem State.startConfirm_pending_rlk (s : State) (r : ShiftRecord) :
    (s.startConfirm r).pending = s.pending ∧ (s.startConfirm r).rlk = s.rlk := by
  simp [State.startConfirm]

@[simp] theorem State.failConfirm_pending_rlk (s : State) (r : ShiftRecord) :
    (s.failConfirm r).pending = s.pending ∧ (s.failConfirm r).rlk = s.rlk := by
  simp [State.failConfirm]

@[simp] theorem State.stall_pending_rlk (s : State) (r : ShiftRecord) :
    (s.stall r).pending = s.pending ∧ (s.stall r).rlk = s.rlk := by
  simp [State.stall]

@[simp] theorem State.noSupply_pending_rlk (s : State) (r : ShiftRecord) :
    (s.noSupply r).pending = s.pending ∧ (s.noSupply r).rlk = s.rlk := by
  simp [State.noSupply]

@[simp] theorem State.examineOnset_pending_rlk (s : State) (neValid : Bool) :
    (s.examineOnset neValid).pending = s.pending ∧ (s.examineOnset neValid).rlk = s.rlk := by
  unfold State.examineOnset
  split
  · exact ⟨rfl, rfl⟩
  · split <;> simp

@[simp] theorem State.adjustFill_pending_rlk (s : State) (p : PackId) (c : OnsetClass) :
    (s.adjustFill p c).pending = s.pending ∧ (s.adjustFill p c).rlk = s.rlk := by
  unfold State.adjustFill
  simp only
  split <;> simp

@[simp] theorem State.adapt_pending_rlk (s : State) (r : ShiftRecord) :
    (s.adapt r).pending = s.pending ∧ (s.adapt r).rlk = s.rlk := by
  unfold State.adapt
  split
  · split <;> simp
  · exact ⟨rfl, rfl⟩

@[simp] theorem State.afterShift_pending_rlk (s : State) (dest : Nat) :
    (s.afterShift dest).pending = s.pending ∧ (s.afterShift dest).rlk = s.rlk := by
  unfold State.afterShift
  split_ifs <;> simp

@[simp] theorem State.complete_pending_rlk (s : State) (r : ShiftRecord) :
    (s.complete r).pending = s.pending ∧ (s.complete r).rlk = s.rlk := by
  simp [State.complete]

@[simp] theorem State.confirmPair_pending_rlk (s : State) :
    s.confirmPair.pending = s.pending ∧ s.confirmPair.rlk = s.rlk := by
  unfold State.confirmPair
  split
  · split
    · split <;> simp
    · exact ⟨rfl, rfl⟩
  · exact ⟨rfl, rfl⟩

@[simp] theorem State.shiftPair_pending_rlk (s : State) (neValid : Bool) :
    (s.shiftPair neValid).pending = s.pending ∧ (s.shiftPair neValid).rlk = s.rlk := by
  simp [State.shiftPair]

@[simp] theorem State.forcedNeutral_pending_rlk (s : State) (c : NeutralCause) :
    (s.forcedNeutral c).pending = s.pending ∧ (s.forcedNeutral c).rlk = s.rlk := by
  unfold State.forcedNeutral
  simp only
  split_ifs <;> simp

/-! ### Calibration -/

@[simp] theorem State.abortCal_pending_rlk (s : State) (c : AbortCause) :
    (s.abortCal c).pending = s.pending ∧ (s.abortCal c).rlk = s.rlk := by
  unfold State.abortCal
  split
  · exact ⟨rfl, rfl⟩
  · simp only [State.endCalibration_pending, State.endCalibration_rlk, State.offerCal_pending, State.offerCal_rlk]
    split_ifs <;> simp

@[simp] theorem State.kiss_pending_rlk (s : State) (j : CalJob) :
    (s.kiss j).pending = s.pending ∧ (s.kiss j).rlk = s.rlk := by
  simp [State.kiss]

@[simp] theorem State.noKiss_pending_rlk (s : State) (j : CalJob) :
    (s.noKiss j).pending = s.pending ∧ (s.noKiss j).rlk = s.rlk := by
  simp [State.noKiss]

@[simp] theorem State.calPair_pending_rlk (s : State) (neValid : Bool) :
    (s.calPair neValid).pending = s.pending ∧ (s.calPair neValid).rlk = s.rlk := by
  unfold State.calPair
  split
  · exact ⟨rfl, rfl⟩
  · split_ifs <;> simp

@[simp] theorem State.calGround_pending_rlk (s : State) :
    s.calGround.pending = s.pending ∧ s.calGround.rlk = s.rlk := by
  unfold State.calGround
  split
  · exact ⟨rfl, rfl⟩
  · split_ifs <;> simp

@[simp] theorem State.chargeAtCal_pending_rlk (s : State) :
    s.chargeAtCal.pending = s.pending ∧ s.chargeAtCal.rlk = s.rlk := by
  unfold State.chargeAtCal
  split <;> simp

@[simp] theorem State.startCal_pending_rlk (s : State) (pack p1 p2 : PackId) (interval : Nat) :
    (s.startCal pack p1 p2 interval).pending = s.pending ∧ (s.startCal pack p1 p2 interval).rlk = s.rlk := by
  unfold State.startCal
  simp only
  split <;> simp

@[simp] theorem State.partnerFilled_pending_rlk (s : State) (j : CalJob) (partner : Partner) :
    (s.partnerFilled j partner).pending = s.pending ∧ (s.partnerFilled j partner).rlk = s.rlk := by
  simp [State.partnerFilled]

@[simp] theorem State.startStepping_pending_rlk (s : State) (j : CalJob) :
    (s.startStepping j).pending = s.pending ∧ (s.startStepping j).rlk = s.rlk := by
  simp [State.startStepping]

@[simp] theorem State.nextStep_pending_rlk (s : State) (j : CalJob) :
    (s.nextStep j).pending = s.pending ∧ (s.nextStep j).rlk = s.rlk := by
  unfold State.nextStep
  split <;> simp

/-! ### Resets -/

@[simp] theorem State.softReset_pending (s : State) : s.softReset.pending = s.pending := rfl
@[simp] theorem State.softReset_shiftedOut (s : State) : s.softReset.rlk.shiftedOut = s.rlk.shiftedOut := rfl
@[simp] theorem State.softReset_lastFate (s : State) : s.softReset.rlk.lastFate = s.rlk.lastFate := rfl
@[simp] theorem State.fullReset_pending (s : State) (straps : Straps) :
    (s.fullReset straps).pending = s.pending := rfl
@[simp] theorem State.holdReset_pending (s : State) : s.holdReset.pending = s.pending := rfl

/-! ### Arrivals -/

@[simp] theorem State.tractionPair_pending_rlk (s : State) (neValid noValid : Bool) :
    (s.tractionPair neValid noValid).pending = s.pending ∧ (s.tractionPair neValid noValid).rlk = s.rlk := by
  simp [State.tractionPair]

@[simp] theorem State.speedPair_pending_rlk (ne no : Sample) (s : State) :
    (State.speedPair ne no s).pending = s.pending ∧ (State.speedPair ne no s).rlk = s.rlk := by
  simp [State.speedPair, State.sampleSpeeds]

@[simp] theorem State.groundSpeed_pending_rlk (vg : Sample) (s : State) :
    (State.groundSpeed vg s).pending = s.pending ∧ (State.groundSpeed vg s).rlk = s.rlk := by
  simp [State.groundSpeed, State.groundSlip]

@[simp] theorem State.hitchSet_pending_rlk (p dl dr : Sample) (s : State) :
    (State.hitchSet p dl dr s).pending = s.pending ∧ (State.hitchSet p dl dr s).rlk = s.rlk := by
  simp [State.hitchSet, State.sampleHitch]

@[simp] theorem State.pedalEpisode_pending_rlk (s : State) :
    s.pedalEpisode.pending = s.pending ∧ s.pedalEpisode.rlk = s.rlk := by
  unfold State.pedalEpisode
  simp only
  split <;> simp

@[simp] theorem State.pedalSet_pending_rlk (bl br : Sample) (s : State) :
    (State.pedalSet bl br s).pending = s.pending ∧ (State.pedalSet bl br s).rlk = s.rlk := by
  have both := eitherOrder_pending_rlk State.computeDemand_pending_rlk State.evaluateFront_pending_rlk
  simp [State.pedalSet, State.tractionPedals, both]

@[simp] theorem State.chargeSet_pending_rlk (pc : Sample) (s : State) :
    (State.chargeSet pc s).pending = s.pending ∧ (State.chargeSet pc s).rlk = s.rlk := by
  unfold State.chargeSet
  simp only
  split
  · exact ⟨rfl, rfl⟩
  · unfold State.chargeChanged
    simp only
    split <;> simp

@[simp] theorem State.lineSet_pending_rlk (pt : Sample) (s : State) :
    (State.lineSet pt s).pending = s.pending ∧ (State.lineSet pt s).rlk = s.rlk := by
  unfold State.lineSet
  simp only
  split <;> simp

/-! ### Discrete inputs -/

@[simp] theorem State.parkEdge_pending_rlk (s : State) (rising : Bool) :
    (s.parkEdge rising).pending = s.pending ∧ (s.parkEdge rising).rlk = s.rlk := by
  unfold State.parkEdge
  split
  · exact eitherOrder_pending_rlk (fun s => s.forcedNeutral_pending_rlk .park) State.computeDemand_pending_rlk s
  · exact eitherOrder_pending_rlk (fun s => s.abortCal_pending_rlk .park) State.computeDemand_pending_rlk s

@[simp] theorem State.seatEdge_pending_rlk (s : State) (rising : Bool) :
    (s.seatEdge rising).pending = s.pending ∧ (s.seatEdge rising).rlk = s.rlk := by
  unfold State.seatEdge
  split <;> simp

@[simp] theorem State.buttonEdge_pending_rlk (s : State) (d : ManualDir) (rising : Bool) :
    (s.buttonEdge d rising).pending = s.pending ∧ (s.buttonEdge d rising).rlk = s.rlk := by
  unfold State.buttonEdge
  split <;> simp

@[simp] theorem State.deliverEdge_pending_rlk (s : State) (i : DInput) (rising : Bool) :
    (s.deliverEdge i rising).pending = s.pending ∧ (s.deliverEdge i rising).rlk = s.rlk := by
  cases i <;> simp [State.deliverEdge]

@[simp] theorem State.debounceExpiry_pending_rlk (i : DInput) (s : State) :
    (State.debounceExpiry i s).pending = s.pending ∧ (State.debounceExpiry i s).rlk = s.rlk := by
  unfold State.debounceExpiry
  split <;> simp [State.debouncedEdge]

/-! ### Timers -/

@[simp] theorem State.pendingExpiry_pending_rlk (p : Point) (s : State) :
    (State.pendingExpiry p s).pending = s.pending ∧ (State.pendingExpiry p s).rlk = s.rlk := by
  cases p with
  | hitch =>
    simp only [State.pendingExpiry, State.hitchTimeout]
    split
    · exact ⟨rfl, rfl⟩
    · split <;> simp
  | drawbar =>
    simp only [State.pendingExpiry, State.drawbarTimeout]
    split
    · exact ⟨rfl, rfl⟩
    · split <;> simp
  | towthru => exact ⟨rfl, rfl⟩

@[simp] theorem State.seatExpiry_pending_rlk (s : State) :
    s.seatExpiry.pending = s.pending ∧ s.seatExpiry.rlk = s.rlk := by
  unfold State.seatExpiry
  split <;> simp

/-- The expiry of the engine's timer leaves the queue and the link alone where what it starts does. -/
theorem State.phaseExpiry_pending_rlk {act : State → ShiftRecord → State}
    (h : ∀ s r, (act s r).pending = s.pending ∧ (act s r).rlk = s.rlk) (s : State) (e : EngineState) :
    (s.phaseExpiry e act).pending = s.pending ∧ (s.phaseExpiry e act).rlk = s.rlk := by
  unfold State.phaseExpiry
  split
  · split <;> simp [h]
  · exact ⟨rfl, rfl⟩

@[simp] theorem State.confirmExpired_pending_rlk (s : State) (r : ShiftRecord) :
    (s.confirmExpired r).pending = s.pending ∧ (s.confirmExpired r).rlk = s.rlk := by
  unfold State.confirmExpired
  split <;> simp

@[simp] theorem State.intervalExpired_pending_rlk (s : State) :
    s.intervalExpired.pending = s.pending ∧ s.intervalExpired.rlk = s.rlk := by
  unfold State.intervalExpired
  split_ifs <;> simp

@[simp] theorem State.intervalExpiry_pending_rlk (s : State) :
    s.intervalExpiry.pending = s.pending ∧ s.intervalExpiry.rlk = s.rlk := by
  unfold State.intervalExpiry
  split
  · exact ⟨rfl, rfl⟩
  · split <;> simp

@[simp] theorem State.partnerExpiry_pending_rlk (p : Partner) (s : State) :
    (State.partnerExpiry p s).pending = s.pending ∧ (State.partnerExpiry p s).rlk = s.rlk := by
  unfold State.partnerExpiry
  split
  · exact ⟨rfl, rfl⟩
  · split <;> simp

@[simp] theorem State.settleExpiry_pending_rlk (s : State) :
    s.settleExpiry.pending = s.pending ∧ s.settleExpiry.rlk = s.rlk := by
  unfold State.settleExpiry
  split
  · exact ⟨rfl, rfl⟩
  · split <;> simp

@[simp] theorem State.stepExpiry_pending_rlk (s : State) :
    s.stepExpiry.pending = s.pending ∧ s.stepExpiry.rlk = s.rlk := by
  unfold State.stepExpiry
  split
  · exact ⟨rfl, rfl⟩
  · split <;> simp

@[simp] theorem State.releaseExpiry_pending_rlk (s : State) :
    s.releaseExpiry.pending = s.pending ∧ s.releaseExpiry.rlk = s.rlk := by
  unfold State.releaseExpiry
  split <;> simp

@[simp] theorem State.fdpExpiry_pending_rlk (s : State) :
    s.fdpExpiry.pending = s.pending ∧ s.fdpExpiry.rlk = s.rlk := by
  unfold State.fdpExpiry
  split <;> simp [State.fdpFilled]

@[simp] theorem State.travelExpiry_pending_rlk (s : State) :
    s.travelExpiry.pending = s.pending ∧ s.travelExpiry.rlk = s.rlk := by
  unfold State.travelExpiry
  split <;> simp

/-! ## What a request's answer keeps -/

/-- A block's answer keeps the queue and the link's record of the last transaction: what was shifted out
and the fate of the reply it settled. A refusal has no state of its own. -/
def Answer.keepsRecord (s : State) : Answer → Prop
  | .ok t _ => t.pending = s.pending ∧ t.rlk.shiftedOut = s.rlk.shiftedOut ∧ t.rlk.lastFate = s.rlk.lastFate
  | .refused _ => True

@[simp] theorem Answer.keepsRecord_ok (s t : State) (p : List Byte) :
    (Answer.ok t p).keepsRecord s ↔
      t.pending = s.pending ∧ t.rlk.shiftedOut = s.rlk.shiftedOut ∧ t.rlk.lastFate = s.rlk.lastFate := Iff.rfl

@[simp] theorem Answer.keepsRecord_refused (s : State) (status : Status) :
    (Answer.refused status).keepsRecord s := trivial

/-! ### Link and Notice Set -/

@[simp] theorem State.putRoad_record (s : State) (b : Bool) :
    (s.putRoad b).pending = s.pending ∧ (s.putRoad b).rlk.shiftedOut = s.rlk.shiftedOut ∧
      (s.putRoad b).rlk.lastFate = s.rlk.lastFate := by
  unfold State.putRoad
  split
  · exact ⟨rfl, rfl, rfl⟩
  · cases b <;> simp

@[simp] theorem State.putShiftHold_record (s : State) (b : Bool) :
    (s.putShiftHold b).pending = s.pending ∧ (s.putShiftHold b).rlk.shiftedOut = s.rlk.shiftedOut ∧
      (s.putShiftHold b).rlk.lastFate = s.rlk.lastFate := by
  unfold State.putShiftHold
  split
  · exact ⟨rfl, rfl, rfl⟩
  · cases b <;> simp

@[simp] theorem State.putConditions_record (s : State) (mask : Byte) (b : Bool) :
    (s.putConditions mask b).pending = s.pending ∧
      (s.putConditions mask b).rlk.shiftedOut = s.rlk.shiftedOut ∧
      (s.putConditions mask b).rlk.lastFate = s.rlk.lastFate := by
  unfold State.putConditions
  simp only
  split_ifs <;> simp

theorem actTakeNotice_keepsRecord (s : State) : (actTakeNotice s).keepsRecord s := by
  unfold actTakeNotice
  split <;> simp

theorem actSetCondition_keepsRecord (mask : Byte) (s : State) : (actSetCondition mask s).keepsRecord s := by
  unfold actSetCondition
  split <;> simp

theorem actClearCondition_keepsRecord (mask : Byte) (s : State) : (actClearCondition mask s).keepsRecord s := by
  unfold actClearCondition
  split <;> simp

theorem actEnableNotice_keepsRecord (mask : Tri) (s : State) : (actEnableNotice mask s).keepsRecord s := by
  unfold actEnableNotice
  split <;> simp

theorem actDisableNotice_keepsRecord (mask : Tri) (s : State) : (actDisableNotice mask s).keepsRecord s := by
  unfold actDisableNotice
  split <;> simp

/-! ### Coupling table -/

/-- ATTACH at a point keeps the record where the steps of its acceptance leave the link alone. -/
theorem attachAt_keepsRecord {steps : State → State}
    (h : ∀ s, (steps s).pending = s.pending ∧ (steps s).rlk = s.rlk) (p : Point) (tag first : Nat) (s : State) :
    (attachAt p tag steps first s).keepsRecord s := by
  unfold attachAt
  split <;> simp [h]

theorem actAttach_keepsRecord (point : Byte) (tag : Half) (fields : FieldSet) (s : State) :
    (actAttach point tag fields s).keepsRecord s := by
  unfold actAttach
  split
  · exact attachAt_keepsRecord (by simp [State.attachImplement]) _ _ _ s
  · exact attachAt_keepsRecord (by simp [State.attachDrawbar]) _ _ _ s
  · exact attachAt_keepsRecord (by simp [State.attachTowthru]) _ _ _ s
  · trivial

theorem amendImplement_keepsRecord (r : ImplementRecord) (fields : FieldSet) (s : State) :
    (amendImplement r fields s).keepsRecord s := by
  unfold amendImplement
  split <;> simp

/-- AMEND of a trailer record keeps the record where the writing of its entry leaves the link alone. -/
theorem amendTrailer_keepsRecord {put : TrailerRecord → State} {s : State}
    (h : ∀ r, (put r).pending = s.pending ∧ (put r).rlk = s.rlk) (r : TrailerRecord) (fields : FieldSet) :
    (amendTrailer r fields put).keepsRecord s := by
  unfold amendTrailer
  split
  · trivial
  · split <;> simp [h]

theorem actAmend_keepsRecord (handle : Byte) (fields : FieldSet) (s : State) :
    (actAmend handle fields s).keepsRecord s := by
  unfold actAmend
  split
  · trivial
  · split
    · trivial
    · exact amendImplement_keepsRecord _ _ s
  all_goals
    split
    · trivial
    · refine amendTrailer_keepsRecord (fun _ => ?_) _ _
      exact ⟨rfl, rfl⟩

theorem retireTrailer_keepsRecord (r : TrailerRecord) (p : Point) (put : Option TrailerRecord → Coupling)
    (s : State) : (retireTrailer r p put s).keepsRecord s := by
  unfold retireTrailer
  split <;> simp

theorem actRetire_keepsRecord (handle : Byte) (s : State) : (actRetire handle s).keepsRecord s := by
  unfold actRetire
  split
  · trivial
  · split <;> simp [retireImplement]
  · split
    · trivial
    · split
      · trivial
      · exact retireTrailer_keepsRecord _ _ _ s
  · split
    · trivial
    · exact retireTrailer_keepsRecord _ _ _ s

theorem restoreTrailer_keepsRecord (r : TrailerRecord) (put : TrailerRecord → Coupling) (s : State) :
    (restoreTrailer r put s).keepsRecord s := by
  unfold restoreTrailer
  split <;> simp

theorem actRestore_keepsRecord (handle : Byte) (s : State) : (actRestore handle s).keepsRecord s := by
  unfold actRestore
  split
  · trivial
  · trivial
  all_goals
    split
    · trivial
    · exact restoreTrailer_keepsRecord _ _ s

theorem actLookup_keepsRecord (selector : Byte) (key : Half) (s : State) :
    (actLookup selector key s).keepsRecord s := by
  unfold actLookup
  split
  · trivial
  · trivial
  · split <;> simp

/-! ### Ratio map -/

theorem actDefineRatio_keepsRecord (index direction speed range : Byte) (rn : Half) (s : State) :
    (actDefineRatio index direction speed range rn s).keepsRecord s := by
  unfold actDefineRatio
  simp only
  split
  · split
    · split <;> simp [State.defineEntry]
    · trivial
  · trivial

theorem actClearRatio_keepsRecord (index : Byte) (s : State) : (actClearRatio index s).keepsRecord s := by
  unfold actClearRatio
  simp only
  split
  · split
    · trivial
    · split <;> simp
  · trivial

theorem actReadRatio_keepsRecord (index : Byte) (s : State) : (actReadRatio index s).keepsRecord s := by
  unfold actReadRatio
  split <;> simp

/-! ### Packs and calibration -/

theorem actReadPack_keepsRecord (pack : Byte) (s : State) : (actReadPack pack s).keepsRecord s := by
  unfold actReadPack
  split <;> simp

theorem actAmendPack_keepsRecord (pack pf : Byte) (tf tfMin tfMax : Half) (pl : Byte) (s : State) :
    (actAmendPack pack pf tf tfMin tfMax pl s).keepsRecord s := by
  unfold actAmendPack
  split <;> simp

theorem actClearFault_keepsRecord (pack : Byte) (s : State) : (actClearFault pack s).keepsRecord s := by
  unfold actClearFault
  split
  · trivial
  · split <;> simp

theorem actCalibrate_keepsRecord (pack : Byte) (interval : Half) (s : State) :
    (actCalibrate pack interval s).keepsRecord s := by
  unfold actCalibrate
  split
  · trivial
  · split <;> simp

/-! ### Shift engine -/

theorem actSelect_keepsRecord (index : Byte) (s : State) : (actSelect index s).keepsRecord s := by
  unfold actSelect
  split <;> simp

theorem actStep_keepsRecord (count : Byte) (s : State) : (actStep count s).keepsRecord s := by
  unfold actStep
  split <;> simp

theorem actHalt_keepsRecord (s : State) : (actHalt s).keepsRecord s := by
  unfold actHalt
  split
  · trivial
  · split <;> simp

/-! ### Front drive, hitch -/

theorem actSetFront_keepsRecord (f : FrontWire) (s : State) : (actSetFront f s).keepsRecord s := by
  unfold actSetFront
  split <;> simp

theorem actHitchHold_keepsRecord (s : State) : (actHitchHold s).keepsRecord s := by
  unfold actHitchHold
  simp only
  split <;> simp

theorem actHitchWork_keepsRecord (s : State) : (actHitchWork s).keepsRecord s := by
  unfold actHitchWork
  split <;> simp

theorem travelRequest_keepsRecord (p : Purpose) (needsRecord : Bool) (opening : Nat) (s : State) :
    (travelRequest p needsRecord opening s).keepsRecord s := by
  unfold travelRequest
  split <;> simp [State.beginTravel]

/-- Every request's answer keeps the queue and the link's record. -/
theorem requestAct_keepsRecord {i : Instr} {act : State → Answer} (h : requestAct i = some act) (s : State) :
    (act s).keepsRecord s := by
  cases i <;> simp only [requestAct, Option.some.injEq, reduceCtorEq] at h <;> subst h
  case nop | status | softReset | setShiftProfile | setSupply => exact ⟨rfl, rfl, rfl⟩
  case takeNotice => exact actTakeNotice_keepsRecord s
  case setCondition => exact actSetCondition_keepsRecord _ s
  case clearCondition => exact actClearCondition_keepsRecord _ s
  case enableNotice => exact actEnableNotice_keepsRecord _ s
  case disableNotice => exact actDisableNotice_keepsRecord _ s
  case attach => exact actAttach_keepsRecord _ _ _ s
  case amend => exact actAmend_keepsRecord _ _ s
  case retire => exact actRetire_keepsRecord _ s
  case restore => exact actRestore_keepsRecord _ s
  case lookup => exact actLookup_keepsRecord _ _ s
  case defineRatio => exact actDefineRatio_keepsRecord _ _ _ _ _ s
  case clearRatio => exact actClearRatio_keepsRecord _ s
  case readRatio => exact actReadRatio_keepsRecord _ s
  case withhold => simp [actWithhold, State.setWithheld]
  case unwithhold => simp [actUnwithhold, State.setWithheld]
  case readPack => exact actReadPack_keepsRecord _ s
  case amendPack => exact actAmendPack_keepsRecord _ _ _ _ _ _ s
  case clearFault => exact actClearFault_keepsRecord _ s
  case calibrate => exact actCalibrate_keepsRecord _ _ s
  case select => exact actSelect_keepsRecord _ s
  case step => exact actStep_keepsRecord _ s
  case halt => exact actHalt_keepsRecord s
  case setFront => exact actSetFront_keepsRecord _ s
  case hitchHold => exact actHitchHold_keepsRecord s
  case hitchWork => exact actHitchWork_keepsRecord s
  case hitchGoto | hitchTransport | hitchReturn => exact travelRequest_keepsRecord _ _ _ s
  case setTraction => simp [actSetTraction]

/-! ## What every command keeps -/

/-- An event keeps the queue where its effect does. -/
theorem event_keeps_queue {f : State → State} (h : ∀ s, (f s).pending = s.pending) (s : State) :
    ∃ t, event f s = .next t ∧ t.pending = s.pending := by
  refine ⟨_, rfl, ?_⟩
  split
  · rfl
  · simp [State.ordered, h]

/-- A transaction keeps the queue where the taking of its bytes does. -/
theorem transaction_keeps_queue {take : State → State × Reply} (h : ∀ s, (take s).1.pending = s.pending)
    (k : Nat) (s : State) : ∃ t, transaction k take s = .next t ∧ t.pending = s.pending := by
  refine ⟨_, rfl, ?_⟩
  split
  · rfl
  · split <;> simp [h]

/-- An answer that keeps the record makes a reply over a state with the same queue. -/
theorem Answer.keepsRecord.reply_pending {s : State} {a : Answer} (h : a.keepsRecord s) (code : Byte) :
    (a.reply code s).1.pending = s.pending := by
  cases a with
  | ok t p => exact h.1
  | refused status => rfl

theorem takeFrame_pending (code : Byte) (bytes : List Byte) (s : State) :
    (takeFrame code bytes s).1.pending = s.pending := by
  unfold takeFrame
  simp only
  split
  · rfl
  · rfl
  · split
    · rfl
    next act h => exact (requestAct_keepsRecord h _).reply_pending code

/-- A request answers a next state with the queue as it was. -/
theorem exec_request_keeps_queue {i : Instr} {code : Byte} {payload : List Byte} {extra : Nat}
    (h : requestParts i = some (code, payload, extra)) (s : State) :
    ∃ t, exec i s = .next t ∧ t.pending = s.pending := by
  obtain ⟨act, hact, he⟩ := exec_request h s
  rw [he]
  exact transaction_keeps_queue (fun s => (requestAct_keepsRecord hact s).reply_pending code) _ s

/-- A command that is no request answers a next state with the queue as it was. -/
theorem exec_event_keeps_queue {i : Instr} (h : requestParts i = none) (s : State) :
    ∃ t, exec i s = .next t ∧ t.pending = s.pending := by
  cases i <;> simp only [requestParts, reduceCtorEq] at h
  case frameRejected bytes =>
    cases bytes with
    | nil => exact ⟨s, rfl, rfl⟩
    | cons code rest => exact transaction_keeps_queue (takeFrame_pending code _) _ s
  case windowTransaction clocked =>
    refine ⟨_, rfl, ?_⟩
    split <;> rfl
  case powerOnReset | rstHeldLow | hardReset | rawInputChange | noByteTransaction => exact ⟨_, rfl, rfl⟩
  case startUpWindowClose => exact event_keeps_queue State.closeWindow_pending s
  case supplyWaitTimerExpiry =>
    exact event_keeps_queue (fun s => (s.phaseExpiry_pending_rlk State.noSupply_pending_rlk _).1) s
  case fillTimerExpiry =>
    exact event_keeps_queue (fun s => (s.phaseExpiry_pending_rlk State.startHandover_pending_rlk _).1) s
  case handoverTimerExpiry =>
    exact event_keeps_queue (fun s => (s.phaseExpiry_pending_rlk State.startConfirm_pending_rlk _).1) s
  case confirmTimerExpiry =>
    exact event_keeps_queue (fun s => (s.phaseExpiry_pending_rlk State.confirmExpired_pending_rlk _).1) s
  case retireWatch =>
    refine event_keeps_queue (fun s => ?_) s
    split <;> simp
  all_goals exact event_keeps_queue (fun s => by simp) s

/-- A request that is taken settles the reply that was pending and leaves its own; a reply that is not OK
carries nothing, and nothing but the link moves. -/
theorem exec_request_answered {i : Instr} {code : Byte} {payload : List Byte} {extra : Nat}
    (h : requestParts i = some (code, payload, extra)) {s : State} (hs : s.listens) :
    ∃ t r, exec i s = .next t ∧ t.rlk.pending = some r ∧ r.echo = code ∧
      t.rlk.shiftedOut = s.rlk.shifts (payload.length + 3 + extra) ∧
      t.rlk.lastFate = s.rlk.settles (payload.length + 3 + extra) ∧
      (r.status ≠ .ok → r.payload = [] ∧ t = s.answered (payload.length + 3 + extra) r) := by
  obtain ⟨act, hact, he⟩ := exec_request h s
  have keeps := requestAct_keepsRecord hact (s.settleReply (payload.length + 3 + extra))
  rw [he]
  cases ha : act (s.settleReply (payload.length + 3 + extra)) with
  | refused status =>
    exact ⟨_, _, request_refused hs ha, rfl, rfl, rfl, rfl, fun _ => ⟨rfl, rfl⟩⟩
  | ok t p =>
    obtain ⟨u, hu, fresh, k, -, rfl⟩ := request_sameButOrder hs ha
    rw [ha, State.settleReply_eq] at keeps
    obtain ⟨-, hout, hfate⟩ := keeps
    exact ⟨_, ⟨code, .ok, p⟩, hu, rfl, rfl, hout, hfate, fun hne => absurd rfl hne⟩

/-- The step on a queue that holds a command. -/
theorem step_of_pending_cons {s : State} {c : Instr} {rest : List Instr} (h : s.pending = c :: rest) :
    step s = exec c { s with pending := rest } := by
  simp [step, h]

/-- Settles O1: the step's branch for a queue that holds a command. -/
theorem stepTakesTheFrontCommand : Obligations.StepTakesTheFrontCommand := by
  intro c rest s
  exact step_of_pending_cons rfl

/-- Settles O3: every command by its form, a request or an event; every request by its block's answer. -/
theorem everyCommandIsAnswered : Obligations.EveryCommandIsAnswered := by
  refine ⟨fun c s => ?_, fun i code payload extra s h hs => exec_request_answered h hs⟩
  cases h : requestParts c with
  | none => exact exec_event_keeps_queue h s
  | some parts => exact exec_request_keeps_queue h s

end Sys2Proof.Machine

namespace Sys2Proof.Machine

/-! ## What the Notice Set shows

A notice that has been entered stands until a later report of its own source replaces it. -/

/-- The set holds a notice with this report and this detail. -/
def NoticeSet.shows (n : NoticeSet) (r : Report) (detail : List Byte) : Prop :=
  ∃ x ∈ n.notices, x.report = r ∧ x.detail = detail

@[simp] theorem NoticeSet.offer_enables (n : NoticeSet) (r : Report) (d : List Byte) :
    (n.offer r d).enables = n.enables := by
  unfold NoticeSet.offer
  split_ifs <;> rfl

@[simp] theorem NoticeSet.enabled_offer (n : NoticeSet) (r : Report) (d : List Byte) (r' : Report) :
    (n.offer r d).enabled r' = n.enabled r' := by
  simp [NoticeSet.enabled]

/-- An enabled report is shown once it is offered. -/
theorem NoticeSet.offer_shows {n : NoticeSet} {r : Report} (h : n.enabled r = true) (d : List Byte) :
    (n.offer r d).shows r d := by
  unfold NoticeSet.offer NoticeSet.shows
  rw [if_pos h]
  split
  next hany =>
    obtain ⟨x, hx, hsrc⟩ := List.any_eq_true.mp hany
    exact ⟨x.replace r d, List.mem_map_of_mem hx, by simp_all [Notice.replace]⟩
  · exact ⟨⟨r, d, false⟩, by simp, rfl, rfl⟩

/-- An offer leaves the notices of other sources standing. -/
theorem NoticeSet.shows.offer {n : NoticeSet} {r r' : Report} {d : List Byte} (h : n.shows r d)
    (hne : r.source ≠ r'.source) (d' : List Byte) : (n.offer r' d').shows r d := by
  obtain ⟨x, hx, rfl, rfl⟩ := h
  unfold NoticeSet.offer NoticeSet.shows
  split
  · split
    · exact ⟨x.replace r' d', List.mem_map_of_mem hx, by simp [Notice.replace, hne]⟩
    · exact ⟨x, List.mem_append_left _ hx, rfl, rfl⟩
  · exact ⟨x, hx, rfl, rfl⟩

/-- The order of an event's notices does not matter to what the set shows. -/
theorem NoticeSet.shows.orderNotices {s : State} {r : Report} {d : List Byte} (h : s.nts.shows r d) (n : Nat) :
    (s.orderNotices n).nts.shows r d := by
  obtain ⟨x, hx, hr⟩ := h
  exact ⟨x, (State.orderNotices_perm n s).mem_iff.mpr hx, hr⟩

/-! ## What acting on the fill supply and on FDP leaves alone

A grant may start a shift's fill, which latches the draft and forms the load index again; an action on FDP
may raise a FRONT notice. Beyond that the records, the channels, the brake and the hitch mode stand. -/

/-- The load index is the one the held Mtow and draft give (R44). -/
def State.loadFormed (s : State) : Prop := s.tre.loadIndex = loadIndexOf s.cpt.mtow s.htc.draft.value

@[simp] theorem State.formLoadIndex_loadFormed (s : State) : s.formLoadIndex.loadFormed := rfl
@[simp] theorem State.raiseLatch_loadFormed (s : State) : s.raiseLatch.loadFormed := rfl

/-- What a state `t` still has of a state `s` after the trailer demand was computed and the front drive
evaluated, any number of times: the hand-overs of a change of the table touch nothing else. -/
structure State.HandOverFrame (s t : State) : Prop where
  cpt : t.cpt = s.cpt
  mfe : t.mfe = s.mfe
  brake : t.tbc = { s.tbc with demand := t.tbc.demand, case := t.tbc.case }
  tre : t.tre = { s.tre with loadIndex := t.tre.loadIndex }
  downshift : t.she.downshift = s.she.downshift
  htc : t.htc = { s.htc with latch := t.htc.latch }
  params : t.frd.params = s.frd.params
  shows : ∀ {r d}, r.source ≠ .front → s.nts.shows r d → t.nts.shows r d
  enables : t.nts.enables = s.nts.enables
  load : s.loadFormed → t.loadFormed

namespace State.HandOverFrame

variable {s t u : State}

theorem refl (s : State) : s.HandOverFrame s := ⟨rfl, rfl, rfl, rfl, rfl, rfl, rfl, fun _ h => h, rfl, id⟩

theorem trans (h : s.HandOverFrame t) (k : t.HandOverFrame u) : s.HandOverFrame u where
  cpt := k.cpt.trans h.cpt
  mfe := k.mfe.trans h.mfe
  brake := by rw [k.brake, h.brake]
  tre := by rw [k.tre, h.tre]
  downshift := k.downshift.trans h.downshift
  htc := by rw [k.htc, h.htc]
  params := k.params.trans h.params
  shows hr hs := k.shows hr (h.shows hr hs)
  enables := k.enables.trans h.enables
  load hs := k.load (h.load hs)

theorem bt (h : s.HandOverFrame t) : t.tre.bt = s.tre.bt := by rw [h.tre]

theorem braking (h : s.HandOverFrame t) : t.tre.braking = s.tre.braking := by rw [h.tre]

theorem mode (h : s.HandOverFrame t) : t.htc.mode = s.htc.mode := by rw [h.htc]

theorem formLoadIndex (s : State) : s.HandOverFrame s.formLoadIndex :=
  ⟨rfl, rfl, rfl, rfl, rfl, rfl, rfl, fun _ h => h, rfl, fun _ => s.formLoadIndex_loadFormed⟩

/-- The demand and the front drive's own record, the draw counter too, are no part of the frame. -/
theorem of_own (s : State) (demand : Nat) (case : DemandCase) (frd : FrontDrive) (draws : Nat)
    (h : frd.params = s.frd.params) :
    s.HandOverFrame
      { s with tbc := { s.tbc with demand := demand, case := case }, frd := frd, draws := draws } :=
  ⟨rfl, rfl, rfl, rfl, rfl, rfl, h, fun _ h => h, rfl, id⟩

end State.HandOverFrame

/-- What a state `t` still has of a state `s` after the arbiter granted or released the fill supply, or
the Front Drive Controller acted on FDP: the demands of the brake and of the front drive stand too. -/
structure State.SupplyFrame (s t : State) : Prop extends s.HandOverFrame t where
  tbc : t.tbc = s.tbc
  frd : t.frd = { s.frd with phase := t.frd.phase, fillTimer := t.frd.fillTimer }

namespace State.SupplyFrame

variable {s t u : State}

theorem refl (s : State) : s.SupplyFrame s := ⟨.refl s, rfl, rfl⟩

theorem trans (h : s.SupplyFrame t) (k : t.SupplyFrame u) : s.SupplyFrame u where
  toHandOverFrame := h.toHandOverFrame.trans k.toHandOverFrame
  tbc := k.tbc.trans h.tbc
  frd := by rw [k.frd, h.frd]

theorem engage (h : s.SupplyFrame t) : t.frd.engage = s.frd.engage := by rw [h.frd]

theorem brakingRecord (h : s.SupplyFrame t) : t.frd.brakingRecord = s.frd.brakingRecord := by rw [h.frd]

/-- A state that differs in the arbiter, the packs, the engine's timer and record, the calibration and the
front drive's phase alone. -/
theorem of_parts (fsa : Supply) (packs : PackFile) (she : Engine) (cau : CalUnit) (phase : FrontPhase)
    (fill : Option Nat) (h : she.downshift = s.she.downshift) :
    s.SupplyFrame { s with fsa := fsa, packs := packs, she := she, cau := cau
                           frd := { s.frd with phase := phase, fillTimer := fill } } :=
  ⟨⟨rfl, rfl, rfl, rfl, h, rfl, rfl, fun _ h => h, rfl, id⟩, rfl, rfl⟩

/-- Raising the draft latch forms the load index of the draft it latches (R108, R147). -/
theorem raiseLatch (s : State) : s.SupplyFrame s.raiseLatch :=
  ⟨⟨rfl, rfl, rfl, rfl, rfl, rfl, rfl, fun _ h => h, rfl, fun _ => s.raiseLatch_loadFormed⟩, rfl, rfl⟩

theorem grantShift (s : State) : s.SupplyFrame s.grantShift := by
  unfold State.grantShift
  split
  · exact refl s
  · refine trans ?_ (raiseLatch _)
    exact of_parts _ _ _ _ _ _ rfl

theorem grantFront (s : State) : s.SupplyFrame s.grantFront := of_parts _ _ _ _ _ _ rfl

theorem grantCal (s : State) : s.SupplyFrame s.grantCal := by
  unfold State.grantCal
  split
  · exact refl s
  · exact of_parts _ _ _ _ _ _ rfl

theorem grantTo (s : State) (r : Requester) : s.SupplyFrame (s.grantTo r) := by
  refine (of_parts { s.fsa with holder := some r, fillList := [], waiting := s.fsa.waiting.put r false }
    s.packs s.she s.cau s.frd.phase s.frd.fillTimer rfl).trans ?_
  cases r
  · exact grantShift _
  · exact grantFront _
  · exact grantCal _

theorem fsa (s : State) (f : Supply) : s.SupplyFrame { s with fsa := f } := of_parts _ _ _ _ _ _ rfl

theorem grantRounds (n : Nat) (s : State) : s.SupplyFrame (s.grantRounds n) := by
  induction n generalizing s with
  | zero => exact refl s
  | succ n ih =>
    unfold State.grantRounds
    split
    · exact refl s
    next r _ =>
      have granted := grantTo s r
      simp only
      split
      · exact (granted.trans (fsa _ _)).trans (ih _)
      · exact granted

theorem grantDecision (s : State) : s.SupplyFrame s.grantDecision := grantRounds 3 s

theorem requestSupply (s : State) (r : Requester) : s.SupplyFrame (s.requestSupply r) := by
  unfold State.requestSupply
  split
  · exact refl s
  · exact (fsa s _).trans (grantDecision _)

theorem cancelSupply (s : State) (r : Requester) : s.SupplyFrame (s.cancelSupply r) := fsa s _

theorem leaveFill (s : State) (ps : List PackId) : s.SupplyFrame (s.leaveFill ps) := by
  unfold State.leaveFill
  simp only
  split
  · exact (fsa s _).trans (grantDecision _)
  · exact fsa s _

/-- A FRONT notice replaces none but one of its own source. -/
theorem offerFront (s : State) : s.SupplyFrame s.offerFront := by
  refine ⟨⟨rfl, rfl, rfl, rfl, rfl, rfl, rfl, fun hr hs => ?_, NoticeSet.offer_enables .., id⟩, rfl, rfl⟩
  refine hs.offer ?_ _
  cases s.engaged <;> exact hr

theorem actOnFdp (s : State) : s.SupplyFrame s.actOnFdp := by
  unfold State.actOnFdp
  split
  · exact (of_parts _ _ _ _ .waiting _ rfl).trans (requestSupply _ _)
  · exact (of_parts _ _ _ _ .rest _ rfl).trans (cancelSupply _ _)
  · exact (of_parts _ (s.packs.update PackRecord.release .fdp) _ _ .rest none rfl).trans (leaveFill _ _)
  · exact (of_parts _ (s.packs.update PackRecord.release .fdp) _ _ .rest _ rfl).trans (offerFront _)
  all_goals exact refl s

end State.SupplyFrame

/-! ## An evaluation of the engage demand -/

/-- An evaluation is the new demand of the front drive, then its action on FDP. -/
theorem State.evaluateFront_supplyFrame (s : State) :
    State.SupplyFrame { s with frd := s.frd.evaluate s.causes } s.evaluateFront :=
  State.SupplyFrame.actOnFdp _

theorem State.evaluateFront_frame (s : State) : s.HandOverFrame s.evaluateFront :=
  (State.HandOverFrame.of_own s s.tbc.demand s.tbc.case (s.frd.evaluate s.causes) s.draws rfl).trans
    s.evaluateFront_supplyFrame.toHandOverFrame

/-- While a standing cause stands, the demand is to engage (R133). -/
theorem State.evaluateFront_engage {s : State} (h : s.causes.standing = true) :
    s.evaluateFront.frd.engage = true := by
  rw [s.evaluateFront_supplyFrame.engage]
  simp [FrontDrive.evaluate, h]

/-- The braking-cause record is that of the causes as they stand (R132). -/
def State.brakingRecorded (s : State) : Prop := s.frd.brakingRecord = s.causes.brakingCause

theorem State.evaluateFront_brakingRecorded (s : State) : s.evaluateFront.brakingRecorded := by
  have h := s.evaluateFront_supplyFrame
  simp only [State.brakingRecorded, State.causes, Causes.brakingCause, h.tbc, h.braking, h.params, h.brakingRecord]
  rfl

/-! ## The trailer demand -/

/-- The demand as it is, and the case it was formed in, are those the inputs give (R164, R165). -/
def State.demandFormed (s : State) : Prop := (s.tbc.demand, s.tbc.case) = s.formDemand

/-- A state with the demand its inputs give, before the front drive has heard of it. -/
def State.withDemand (s : State) : State :=
  { s with tbc := { s.tbc with demand := s.formDemand.1, case := s.formDemand.2 } }

theorem State.computeDemand_eq (s : State) :
    s.computeDemand = if s.formDemand.1 = s.tbc.demand then s.withDemand else s.withDemand.evaluateFront := rfl

/-- A rule for a computation of the demand: what holds of the state with the new demand, and stays where
the front drive evaluates it. -/
theorem State.computeDemand_rule {P : State → Prop} {s : State} (h : P s.withDemand)
    (he : P s.withDemand → P s.withDemand.evaluateFront) : P s.computeDemand := by
  rw [State.computeDemand_eq]
  split
  · exact h
  · exact he h

theorem State.computeDemand_frame (s : State) : s.HandOverFrame s.computeDemand :=
  State.computeDemand_rule (.of_own s _ _ s.frd s.draws rfl) fun h => h.trans (State.evaluateFront_frame _)

/-- What the demand is formed of: the table, the channels and inputs, Bt and the downshift flag. -/
theorem State.HandOverFrame.formDemand {s t : State} (h : s.HandOverFrame t) : t.formDemand = s.formDemand := by
  rw [State.formDemand, State.present, h.cpt, h.mfe, h.bt, h.downshift]
  rfl

theorem State.withDemand_demandFormed (s : State) : s.withDemand.demandFormed := rfl

theorem State.demandFormed.evaluateFront {s : State} (h : s.demandFormed) : s.evaluateFront.demandFormed := by
  rw [State.demandFormed, s.evaluateFront_frame.formDemand, s.evaluateFront_supplyFrame.tbc]
  exact h

theorem State.computeDemand_demandFormed (s : State) : s.computeDemand.demandFormed :=
  State.computeDemand_rule s.withDemand_demandFormed State.demandFormed.evaluateFront

/-- The front drive is engaged for a LOST record whether or not the demand changes. -/
theorem State.computeDemand_engage {s : State} (hl : s.cpt.anyLost = true) (h : s.frd.engage = true) :
    s.computeDemand.frd.engage = true := by
  refine State.computeDemand_rule (P := fun t => t.frd.engage = true) h fun _ => ?_
  refine State.evaluateFront_engage ?_
  simp [State.causes, Causes.standing, State.withDemand, hl]

/-- The braking-cause record stays that of the causes: a demand that does not change is no cause's change. -/
theorem State.computeDemand_brakingRecorded {s : State} (h : s.brakingRecorded) :
    s.computeDemand.brakingRecorded := by
  rw [State.computeDemand_eq]
  split
  next heq =>
    rw [State.brakingRecorded, State.causes] at h ⊢
    simpa only [State.withDemand, heq] using h
  · exact State.evaluateFront_brakingRecorded _

/-! ## Either order -/

/-- What both orders bring about, whatever the draw counter, comes about. -/
theorem eitherOrder_rule {P : State → Prop} {f g : State → State} {s : State} (hfg : P (g (f s)))
    (hgf : P (f (g s))) (hd : ∀ t k, P t → P { t with draws := k }) : P (eitherOrder f g s) := by
  obtain ⟨k, h | h⟩ := eitherOrder_cases f g s <;> rw [h]
  · exact hd _ _ hfg
  · exact hd _ _ hgf

/-- The trailer demand and the front drive taken in either order: the state that comes about. -/
abbrev State.demandAndFront (s : State) : State := eitherOrder State.computeDemand State.evaluateFront s

theorem State.demandAndFront_frame (s : State) : s.HandOverFrame s.demandAndFront :=
  eitherOrder_rule (s.computeDemand_frame.trans (State.evaluateFront_frame _))
    (s.evaluateFront_frame.trans (State.computeDemand_frame _)) fun t k h =>
      h.trans (.of_own t t.tbc.demand t.tbc.case t.frd k rfl)

theorem State.demandAndFront_demandFormed (s : State) : s.demandAndFront.demandFormed :=
  eitherOrder_rule s.computeDemand_demandFormed.evaluateFront (State.computeDemand_demandFormed _) fun _ _ h => h

theorem State.demandAndFront_brakingRecorded (s : State) : s.demandAndFront.brakingRecorded :=
  eitherOrder_rule (State.evaluateFront_brakingRecorded _)
    (State.computeDemand_brakingRecorded s.evaluateFront_brakingRecorded) fun _ _ h => h

/-- A LOST record engages the front drive in either order (R26, R132). -/
theorem State.demandAndFront_engage {s : State} (hl : s.cpt.anyLost = true) :
    s.demandAndFront.frd.engage = true := by
  have lost {t : State} (h : t.cpt = s.cpt) : t.causes.standing = true := by
    simp [State.causes, Causes.standing, h, hl]
  refine eitherOrder_rule (P := fun t => t.frd.engage = true) ?_ ?_ fun _ _ h => h
  · exact State.evaluateFront_engage (lost s.computeDemand_frame.cpt)
  · exact State.computeDemand_engage (by rw [s.evaluateFront_frame.cpt, hl]) (State.evaluateFront_engage (lost rfl))

/-! ## A change of the table -/

theorem CplReport.source_ne_front (r : CplReport) : (Report.coupling r.point r.outcome).source ≠ .front := by
  cases h : r.point <;> simp [Report.source]

/-- The detail of a coupling notice, Mtow being that after the event (R27, R184). -/
def CplReport.detail (r : CplReport) (mtow : Nat) : List Byte :=
  [byte r.handle, byte (r.tag / 256), byte r.tag, byte r.state, byte (mtow / 256), byte mtow]

theorem State.offerCoupling_eq (s : State) (r : CplReport) :
    s.offerCoupling r = s.offer (.coupling r.point r.outcome) (r.detail s.cpt.mtow) := rfl

/-- The notices of a list of reports offered touch the Notice Set alone. -/
theorem State.offerCouplings_frame (s : State) (reports : List CplReport) :
    ∃ n, reports.foldl State.offerCoupling s = { s with nts := n } ∧ n.enables = s.nts.enables := by
  induction reports generalizing s with
  | nil => exact ⟨s.nts, rfl, rfl⟩
  | cons r rest ih =>
    obtain ⟨n, h, he⟩ := ih (s.offerCoupling r)
    exact ⟨n, h, he.trans (NoticeSet.offer_enables ..)⟩

/-- A handed-on report is not of the source of one of another point. -/
theorem coupling_source_ne {p q : Point} (h : p ≠ q) (o o' : CplOutcome) :
    (Report.coupling p o).source ≠ (Report.coupling q o').source := by
  cases p <;> cases q <;> simp_all [Report.source]

/-- Reports of other points leave a coupling notice standing. -/
theorem State.offerCouplings_keep {s : State} {p : Point} {o : CplOutcome} {d : List Byte}
    {reports : List CplReport} (hs : s.nts.shows (.coupling p o) d) (hp : ∀ r ∈ reports, r.point ≠ p) :
    (reports.foldl State.offerCoupling s).nts.shows (.coupling p o) d := by
  induction reports generalizing s with
  | nil => exact hs
  | cons r rest ih =>
    refine ih ?_ fun r' h => hp r' (List.mem_cons_of_mem _ h)
    exact hs.offer (coupling_source_ne (hp r List.mem_cons_self).symm _ _) _

/-- A report that is the only one of its point is shown after all of them are offered. -/
theorem State.offerCouplings_shows {s : State} {reports : List CplReport} {r : CplReport} (hr : r ∈ reports)
    (only : ∀ r' ∈ reports, r'.point = r.point → r' = r)
    (he : s.nts.enabled (.coupling r.point r.outcome) = true) :
    (reports.foldl State.offerCoupling s).nts.shows (.coupling r.point r.outcome) (r.detail s.cpt.mtow) := by
  induction reports generalizing s with
  | nil => cases hr
  | cons x rest ih =>
    by_cases later : r ∈ rest
    · exact ih later (fun r' h => only r' (List.mem_cons_of_mem _ h)) (by simpa [State.offerCoupling] using he)
    · obtain rfl : r = x := (List.mem_cons.mp hr).resolve_right later
      rw [List.foldl_cons]
      refine State.offerCouplings_keep (NoticeSet.offer_shows he _) fun r' h hp => later ?_
      rwa [← only r' (List.mem_cons_of_mem _ h) hp]

/-- A hand-over from the table as it was before: the load index formed again or not, then the demand with
the front drive, the demand, or neither. -/
theorem State.handOver_eq (s : State) (old : Coupling) :
    ∃ u, s.HandOverFrame u ∧ u.tbc = s.tbc ∧ (s.cpt.mtow ≠ old.mtow → u.loadFormed) ∧
      s.handOver old =
        if s.cpt.anyLost ≠ old.anyLost then u.demandAndFront
        else if s.cpt.members ≠ old.members then u.computeDemand
        else u := by
  by_cases hm : s.cpt.mtow = old.mtow
  · refine ⟨s, .refl s, rfl, fun h => absurd hm h, ?_⟩
    rw [State.handOver, if_pos hm]
  · refine ⟨s.formLoadIndex, .formLoadIndex s, rfl, fun _ => s.formLoadIndex_loadFormed, ?_⟩
    rw [State.handOver, if_neg hm]
    rfl

theorem State.handOver_frame (s : State) (old : Coupling) : s.HandOverFrame (s.handOver old) := by
  obtain ⟨u, frame, -, -, h⟩ := s.handOver_eq old
  rw [h]
  split_ifs
  · exact frame.trans u.demandAndFront_frame
  · exact frame.trans u.computeDemand_frame
  · exact frame

theorem State.handOver_loadFormed {s : State} {old : Coupling} (hm : s.cpt.mtow ≠ old.mtow) :
    (s.handOver old).loadFormed := by
  obtain ⟨u, -, -, load, h⟩ := s.handOver_eq old
  rw [h]
  split_ifs
  · exact u.demandAndFront_frame.load (load hm)
  · exact u.computeDemand_frame.load (load hm)
  · exact load hm

/-- The demand is computed where the weighted set or the presence of a LOST record changed (R26, R164). -/
theorem State.handOver_demandFormed {s : State} {old : Coupling}
    (hc : s.cpt.anyLost ≠ old.anyLost ∨ s.cpt.members ≠ old.members) : (s.handOver old).demandFormed := by
  obtain ⟨u, -, -, -, h⟩ := s.handOver_eq old
  rw [h]
  split_ifs with hl hw
  · exact u.demandAndFront_demandFormed
  · exact u.computeDemand_demandFormed
  · exact absurd hc (not_or.mpr ⟨hl, hw⟩)

/-- Where neither changed, the demand stands. -/
theorem State.handOver_tbc {s : State} {old : Coupling} (hl : s.cpt.anyLost = old.anyLost)
    (hw : s.cpt.members = old.members) : (s.handOver old).tbc = s.tbc := by
  obtain ⟨u, -, tbc, -, h⟩ := s.handOver_eq old
  rw [h, if_neg (not_not.mpr hl), if_neg (not_not.mpr hw), tbc]

theorem State.handOver_engage {s : State} {old : Coupling} (hl : s.cpt.anyLost = true)
    (ho : old.anyLost = false) : (s.handOver old).frd.engage = true := by
  obtain ⟨u, frame, -, -, h⟩ := s.handOver_eq old
  rw [h, if_pos (by simp [hl, ho])]
  exact State.demandAndFront_engage (by rw [frame.cpt, hl])

/-! ### commit -/

/-- A change of the table with its notices offered, before it is handed on. -/
def State.tabled (s : State) (c : Coupling) (reports : List CplReport) : State :=
  reports.foldl State.offerCoupling { s with cpt := { c with mtow := c.weightedMass } }

theorem State.commit_eq (s : State) (c : Coupling) (reports : List CplReport) :
    s.commit c reports = (s.tabled c reports).handOver s.cpt := rfl

theorem State.tabled_eq (s : State) (c : Coupling) (reports : List CplReport) :
    ∃ n, s.tabled c reports = { s with cpt := { c with mtow := c.weightedMass }, nts := n } ∧
      n.enables = s.nts.enables :=
  State.offerCouplings_frame _ _

@[simp] theorem State.tabled_cpt (s : State) (c : Coupling) (reports : List CplReport) :
    (s.tabled c reports).cpt = { c with mtow := c.weightedMass } := by
  obtain ⟨n, h, -⟩ := s.tabled_eq c reports
  rw [h]

/-- What a change of the table leaves alone beyond the table and the Notice Set. -/
theorem State.commit_frame (s : State) (c : Coupling) (reports : List CplReport) :
    ∃ n, n.enables = s.nts.enables ∧
      State.HandOverFrame { s with cpt := { c with mtow := c.weightedMass }, nts := n } (s.commit c reports) := by
  obtain ⟨n, h, he⟩ := s.tabled_eq c reports
  exact ⟨n, he, h ▸ State.handOver_frame _ _⟩

@[simp] theorem State.commit_cpt (s : State) (c : Coupling) (reports : List CplReport) :
    (s.commit c reports).cpt = { c with mtow := c.weightedMass } := by
  obtain ⟨_, -, frame⟩ := s.commit_frame c reports
  exact frame.cpt

@[simp] theorem State.commit_mfe (s : State) (c : Coupling) (reports : List CplReport) :
    (s.commit c reports).mfe = s.mfe := by
  obtain ⟨_, -, frame⟩ := s.commit_frame c reports
  exact frame.mfe

@[simp] theorem State.commit_mode (s : State) (c : Coupling) (reports : List CplReport) :
    (s.commit c reports).htc.mode = s.htc.mode := by
  obtain ⟨_, -, frame⟩ := s.commit_frame c reports
  exact frame.mode

@[simp] theorem State.commit_enabled (s : State) (c : Coupling) (reports : List CplReport) (r : Report) :
    (s.commit c reports).nts.enabled r = s.nts.enabled r := by
  obtain ⟨_, he, frame⟩ := s.commit_frame c reports
  simp only [NoticeSet.enabled, frame.enables, he]

theorem State.commit_loadFormed {s : State} {c : Coupling} (reports : List CplReport)
    (h : c.weightedMass ≠ s.cpt.mtow) : (s.commit c reports).loadFormed := by
  rw [State.commit_eq]
  exact State.handOver_loadFormed (by rwa [State.tabled_cpt])

/-- The table's Mtow is no part of what tells a LOST record or a member of the weighted set. -/
theorem State.commit_demandFormed {s : State} {c : Coupling} (reports : List CplReport)
    (h : c.anyLost ≠ s.cpt.anyLost ∨ c.members ≠ s.cpt.members) : (s.commit c reports).demandFormed := by
  rw [State.commit_eq]
  exact State.handOver_demandFormed (by rw [State.tabled_cpt]; exact h)

theorem State.commit_tbc {s : State} {c : Coupling} (reports : List CplReport) (hl : c.anyLost = s.cpt.anyLost)
    (hw : c.members = s.cpt.members) : (s.commit c reports).tbc = s.tbc := by
  rw [State.commit_eq, State.handOver_tbc (by rw [State.tabled_cpt]; exact hl) (by rw [State.tabled_cpt]; exact hw)]
  obtain ⟨n, h, -⟩ := s.tabled_eq c reports
  rw [h]

theorem State.commit_engage {s : State} {c : Coupling} (reports : List CplReport) (hl : c.anyLost = true)
    (ho : s.cpt.anyLost = false) : (s.commit c reports).frd.engage = true := by
  rw [State.commit_eq]
  exact State.handOver_engage (by rw [State.tabled_cpt]; exact hl) ho

/-- A report that is the only one of its point is shown after the change, with Mtow after it (R27). -/
theorem State.commit_shows {s : State} (c : Coupling) {reports : List CplReport} {r : CplReport} (hr : r ∈ reports)
    (only : ∀ r' ∈ reports, r'.point = r.point → r' = r)
    (he : s.nts.enabled (.coupling r.point r.outcome) = true) :
    (s.commit c reports).nts.shows (.coupling r.point r.outcome) (r.detail c.weightedMass) :=
  (State.handOver_frame _ _).shows r.source_ne_front
    (State.offerCouplings_shows (s := { s with cpt := { c with mtow := c.weightedMass } }) hr only he)

/-- Settles O16. -/
theorem tableChangesAreHandedOn : Obligations.TableChangesAreHandedOn := by
  intro s c reports
  simp only [State.commit_cpt]
  refine ⟨rfl, fun h => ?_, State.commit_demandFormed reports, State.commit_engage reports, fun r hr only he => ?_⟩
  · have load := State.commit_loadFormed reports h
    rwa [State.loadFormed, State.commit_cpt] at load
  · exact State.commit_shows c hr only he

end Sys2Proof.Machine

namespace Sys2Proof.Machine

/-! ## The frame of the blocks that do not own the train

The train is the coupling table, the channels and inputs, and the brake's demand. The operations of the
other blocks leave all three alone but where they compute the demand. As a simp rule each frame gives the
three equations. -/

/-! ### Ops -/

@[simp] theorem State.orderNotices_train (n : Nat) (s : State) :
    (s.orderNotices n).cpt = s.cpt ∧ (s.orderNotices n).mfe = s.mfe ∧ (s.orderNotices n).tbc = s.tbc := by
  obtain ⟨l, k, h⟩ := State.orderNotices_frame n s
  simp [h]

@[simp] theorem State.dropLatch_train (s : State) :
    s.dropLatch.cpt = s.cpt ∧ s.dropLatch.mfe = s.mfe ∧ s.dropLatch.tbc = s.tbc := by
  unfold State.dropLatch
  split <;> simp

/-! ### Fill supply and front drive -/

/-- What stands under the frame of the fill supply stands here. -/
theorem State.SupplyFrame.train {s t : State} (h : s.SupplyFrame t) :
    t.cpt = s.cpt ∧ t.mfe = s.mfe ∧ t.tbc = s.tbc :=
  ⟨h.cpt, h.mfe, h.tbc⟩

@[simp] theorem State.grantDecision_train (s : State) :
    s.grantDecision.cpt = s.cpt ∧ s.grantDecision.mfe = s.mfe ∧ s.grantDecision.tbc = s.tbc :=
  (State.SupplyFrame.grantDecision s).train

@[simp] theorem State.requestSupply_train (s : State) (r : Requester) :
    (s.requestSupply r).cpt = s.cpt ∧ (s.requestSupply r).mfe = s.mfe ∧ (s.requestSupply r).tbc = s.tbc :=
  (State.SupplyFrame.requestSupply s r).train

@[simp] theorem State.leaveFill_train (s : State) (ps : List PackId) :
    (s.leaveFill ps).cpt = s.cpt ∧ (s.leaveFill ps).mfe = s.mfe ∧ (s.leaveFill ps).tbc = s.tbc :=
  (State.SupplyFrame.leaveFill s ps).train

@[simp] theorem State.evaluateFront_train (s : State) :
    s.evaluateFront.cpt = s.cpt ∧ s.evaluateFront.mfe = s.mfe ∧ s.evaluateFront.tbc = s.tbc :=
  s.evaluateFront_supplyFrame.train

@[simp] theorem State.slipUpdate_train (s : State) :
    s.slipUpdate.cpt = s.cpt ∧ s.slipUpdate.mfe = s.mfe ∧ s.slipUpdate.tbc = s.tbc := by
  simp [State.slipUpdate]

@[simp] theorem State.withdrawSlip_train (s : State) :
    s.withdrawSlip.cpt = s.cpt ∧ s.withdrawSlip.mfe = s.mfe ∧ s.withdrawSlip.tbc = s.tbc := by
  unfold State.withdrawSlip
  split <;> simp

/-! ### Hitch -/

@[simp] theorem State.holdWith_train (s : State) (o : HitchOutcome) :
    (s.holdWith o).cpt = s.cpt ∧ (s.holdWith o).mfe = s.mfe ∧ (s.holdWith o).tbc = s.tbc := by
  simp [State.holdWith]

@[simp] theorem State.seatFallingHitch_train (s : State) :
    s.seatFallingHitch.cpt = s.cpt ∧ s.seatFallingHitch.mfe = s.mfe ∧ s.seatFallingHitch.tbc = s.tbc := by
  unfold State.seatFallingHitch
  split <;> simp

@[simp] theorem State.reformTarget_train (s : State) :
    s.reformTarget.cpt = s.cpt ∧ s.reformTarget.mfe = s.mfe ∧ s.reformTarget.tbc = s.tbc := by
  unfold State.reformTarget
  split <;> simp

@[simp] theorem State.checkLift_train (s : State) :
    s.checkLift.cpt = s.cpt ∧ s.checkLift.mfe = s.mfe ∧ s.checkLift.tbc = s.tbc := by
  unfold State.checkLift
  split
  · split <;> simp
  · exact ⟨rfl, rfl, rfl⟩

@[simp] theorem State.limitsChanged_train (s : State) :
    s.limitsChanged.cpt = s.cpt ∧ s.limitsChanged.mfe = s.mfe ∧ s.limitsChanged.tbc = s.tbc := by
  simp [State.limitsChanged]

@[simp] theorem State.travelArrival_train (s : State) (p : Purpose) (target timer : Nat) :
    (s.travelArrival p target timer).cpt = s.cpt ∧ (s.travelArrival p target timer).mfe = s.mfe ∧
      (s.travelArrival p target timer).tbc = s.tbc := by
  unfold State.travelArrival
  simp only
  split_ifs <;> simp

@[simp] theorem State.manualArrival_train (s : State) (d : ManualDir) :
    (s.manualArrival d).cpt = s.cpt ∧ (s.manualArrival d).mfe = s.mfe ∧ (s.manualArrival d).tbc = s.tbc := by
  unfold State.manualArrival
  split
  · simp
  · cases d <;> simp only <;> split <;> simp

@[simp] theorem State.enterManual_train (s : State) (d : ManualDir) :
    (s.enterManual d).cpt = s.cpt ∧ (s.enterManual d).mfe = s.mfe ∧ (s.enterManual d).tbc = s.tbc := by
  simp [State.enterManual]

@[simp] theorem State.buttonRising_train (s : State) (d : ManualDir) :
    (s.buttonRising d).cpt = s.cpt ∧ (s.buttonRising d).mfe = s.mfe ∧ (s.buttonRising d).tbc = s.tbc := by
  unfold State.buttonRising
  split
  · exact ⟨rfl, rfl, rfl⟩
  all_goals split <;> simp

@[simp] theorem State.buttonFalling_train (s : State) (d : ManualDir) :
    (s.buttonFalling d).cpt = s.cpt ∧ (s.buttonFalling d).mfe = s.mfe ∧ (s.buttonFalling d).tbc = s.tbc := by
  unfold State.buttonFalling
  split
  · split <;> simp
  all_goals exact ⟨rfl, rfl, rfl⟩

@[simp] theorem State.workArrival_train (s : State) :
    s.workArrival.cpt = s.cpt ∧ s.workArrival.mfe = s.mfe ∧ s.workArrival.tbc = s.tbc := by
  unfold State.workArrival
  split
  · exact ⟨rfl, rfl, rfl⟩
  · simp only
    split <;> simp

@[simp] theorem State.hitchArrival_train (s : State) :
    s.hitchArrival.cpt = s.cpt ∧ s.hitchArrival.mfe = s.mfe ∧ s.hitchArrival.tbc = s.tbc := by
  unfold State.hitchArrival
  simp only
  split
  · simp
  · split <;> simp

@[simp] theorem State.retiredHitch_train (s : State) :
    s.retiredHitch.cpt = s.cpt ∧ s.retiredHitch.mfe = s.mfe ∧ s.retiredHitch.tbc = s.tbc := by
  unfold State.retiredHitch
  split <;> simp

/-! ### Shift engine -/

@[simp] theorem State.beginShift_train (s : State) (dest : RatioEntry) (kind : ShiftKind) :
    (s.beginShift dest kind).cpt = s.cpt ∧ (s.beginShift dest kind).mfe = s.mfe ∧
      (s.beginShift dest kind).tbc = s.tbc := by
  simp [State.beginShift]

@[simp] theorem State.blocked_train (s : State) :
    s.blocked.cpt = s.cpt ∧ s.blocked.mfe = s.mfe ∧ s.blocked.tbc = s.tbc := by
  simp [State.blocked]

@[simp] theorem State.shiftTo_train (s : State) (dest : Option RatioEntry) (kind : RatioEntry → ShiftKind) :
    (s.shiftTo dest kind).cpt = s.cpt ∧ (s.shiftTo dest kind).mfe = s.mfe ∧ (s.shiftTo dest kind).tbc = s.tbc := by
  cases dest <;> simp [State.shiftTo]

@[simp] theorem State.neutralShift_train (s : State) :
    s.neutralShift.cpt = s.cpt ∧ s.neutralShift.mfe = s.mfe ∧ s.neutralShift.tbc = s.tbc := by
  simp [State.neutralShift]

@[simp] theorem State.stepDecision_train (s : State) :
    s.stepDecision.cpt = s.cpt ∧ s.stepDecision.mfe = s.mfe ∧ s.stepDecision.tbc = s.tbc := by
  unfold State.stepDecision
  split
  · simp
  · split
    · simp
    · split
      · split_ifs <;> simp
      · split
        · simp
        · split_ifs <;> simp

@[simp] theorem State.acceptTarget_train (s : State) (nr : Nat) :
    (s.acceptTarget nr).cpt = s.cpt ∧ (s.acceptTarget nr).mfe = s.mfe ∧ (s.acceptTarget nr).tbc = s.tbc := by
  unfold State.acceptTarget
  simp only
  split <;> simp

@[simp] theorem State.shiftHoldCleared_train (s : State) :
    s.shiftHoldCleared.cpt = s.cpt ∧ s.shiftHoldCleared.mfe = s.mfe ∧ s.shiftHoldCleared.tbc = s.tbc := by
  unfold State.shiftHoldCleared
  split <;> simp

@[simp] theorem State.chargeAtShift_train (s : State) :
    s.chargeAtShift.cpt = s.cpt ∧ s.chargeAtShift.mfe = s.mfe ∧ s.chargeAtShift.tbc = s.tbc := by
  unfold State.chargeAtShift
  split <;> simp

@[simp] theorem State.failConfirm_train (s : State) (r : ShiftRecord) :
    (s.failConfirm r).cpt = s.cpt ∧ (s.failConfirm r).mfe = s.mfe ∧ (s.failConfirm r).tbc = s.tbc := by
  simp [State.failConfirm]

@[simp] theorem State.stall_train (s : State) (r : ShiftRecord) :
    (s.stall r).cpt = s.cpt ∧ (s.stall r).mfe = s.mfe ∧ (s.stall r).tbc = s.tbc := by
  simp [State.stall]

@[simp] theorem State.noSupply_train (s : State) (r : ShiftRecord) :
    (s.noSupply r).cpt = s.cpt ∧ (s.noSupply r).mfe = s.mfe ∧ (s.noSupply r).tbc = s.tbc := by
  simp [State.noSupply]

@[simp] theorem State.examineOnset_train (s : State) (neValid : Bool) :
    (s.examineOnset neValid).cpt = s.cpt ∧ (s.examineOnset neValid).mfe = s.mfe ∧
      (s.examineOnset neValid).tbc = s.tbc := by
  unfold State.examineOnset
  split
  · exact ⟨rfl, rfl, rfl⟩
  · split <;> simp

@[simp] theorem State.adjustFill_train (s : State) (p : PackId) (c : OnsetClass) :
    (s.adjustFill p c).cpt = s.cpt ∧ (s.adjustFill p c).mfe = s.mfe ∧ (s.adjustFill p c).tbc = s.tbc := by
  unfold State.adjustFill
  simp only
  split <;> simp

@[simp] theorem State.adapt_train (s : State) (r : ShiftRecord) :
    (s.adapt r).cpt = s.cpt ∧ (s.adapt r).mfe = s.mfe ∧ (s.adapt r).tbc = s.tbc := by
  unfold State.adapt
  split
  · split <;> simp
  · exact ⟨rfl, rfl, rfl⟩

@[simp] theorem State.afterShift_train (s : State) (dest : Nat) :
    (s.afterShift dest).cpt = s.cpt ∧ (s.afterShift dest).mfe = s.mfe ∧ (s.afterShift dest).tbc = s.tbc := by
  unfold State.afterShift
  split_ifs <;> simp

@[simp] theorem State.complete_train (s : State) (r : ShiftRecord) :
    (s.complete r).cpt = s.cpt ∧ (s.complete r).mfe = s.mfe ∧ (s.complete r).tbc = s.tbc := by
  simp [State.complete]

@[simp] theorem State.confirmPair_train (s : State) :
    s.confirmPair.cpt = s.cpt ∧ s.confirmPair.mfe = s.mfe ∧ s.confirmPair.tbc = s.tbc := by
  unfold State.confirmPair
  split
  · split
    · split <;> simp
    · exact ⟨rfl, rfl, rfl⟩
  · exact ⟨rfl, rfl, rfl⟩

@[simp] theorem State.shiftPair_train (s : State) (neValid : Bool) :
    (s.shiftPair neValid).cpt = s.cpt ∧ (s.shiftPair neValid).mfe = s.mfe ∧ (s.shiftPair neValid).tbc = s.tbc := by
  simp [State.shiftPair]

/-! ### Calibration -/

@[simp] theorem State.abortCal_train (s : State) (c : AbortCause) :
    (s.abortCal c).cpt = s.cpt ∧ (s.abortCal c).mfe = s.mfe ∧ (s.abortCal c).tbc = s.tbc := by
  unfold State.abortCal
  split
  · exact ⟨rfl, rfl, rfl⟩
  · simp only
    split_ifs <;> simp

@[simp] theorem State.kiss_train (s : State) (j : CalJob) :
    (s.kiss j).cpt = s.cpt ∧ (s.kiss j).mfe = s.mfe ∧ (s.kiss j).tbc = s.tbc := by
  simp [State.kiss]

@[simp] theorem State.noKiss_train (s : State) (j : CalJob) :
    (s.noKiss j).cpt = s.cpt ∧ (s.noKiss j).mfe = s.mfe ∧ (s.noKiss j).tbc = s.tbc := by
  simp [State.noKiss]

@[simp] theorem State.calPair_train (s : State) (neValid : Bool) :
    (s.calPair neValid).cpt = s.cpt ∧ (s.calPair neValid).mfe = s.mfe ∧ (s.calPair neValid).tbc = s.tbc := by
  unfold State.calPair
  split
  · exact ⟨rfl, rfl, rfl⟩
  · split_ifs <;> simp

@[simp] theorem State.calGround_train (s : State) :
    s.calGround.cpt = s.cpt ∧ s.calGround.mfe = s.mfe ∧ s.calGround.tbc = s.tbc := by
  unfold State.calGround
  split
  · exact ⟨rfl, rfl, rfl⟩
  · split_ifs <;> simp

@[simp] theorem State.chargeAtCal_train (s : State) :
    s.chargeAtCal.cpt = s.cpt ∧ s.chargeAtCal.mfe = s.mfe ∧ s.chargeAtCal.tbc = s.tbc := by
  unfold State.chargeAtCal
  split <;> simp

@[simp] theorem State.startCal_train (s : State) (pack p1 p2 : PackId) (interval : Nat) :
    (s.startCal pack p1 p2 interval).cpt = s.cpt ∧ (s.startCal pack p1 p2 interval).mfe = s.mfe ∧
      (s.startCal pack p1 p2 interval).tbc = s.tbc := by
  unfold State.startCal
  simp only
  split <;> simp

@[simp] theorem State.partnerFilled_train (s : State) (j : CalJob) (partner : Partner) :
    (s.partnerFilled j partner).cpt = s.cpt ∧ (s.partnerFilled j partner).mfe = s.mfe ∧
      (s.partnerFilled j partner).tbc = s.tbc := by
  simp [State.partnerFilled]

@[simp] theorem State.startStepping_train (s : State) (j : CalJob) :
    (s.startStepping j).cpt = s.cpt ∧ (s.startStepping j).mfe = s.mfe ∧ (s.startStepping j).tbc = s.tbc := by
  simp [State.startStepping]

@[simp] theorem State.nextStep_train (s : State) (j : CalJob) :
    (s.nextStep j).cpt = s.cpt ∧ (s.nextStep j).mfe = s.mfe ∧ (s.nextStep j).tbc = s.tbc := by
  unfold State.nextStep
  split <;> simp

/-! ### Timers -/

@[simp] theorem State.confirmExpired_train (s : State) (r : ShiftRecord) :
    (s.confirmExpired r).cpt = s.cpt ∧ (s.confirmExpired r).mfe = s.mfe ∧ (s.confirmExpired r).tbc = s.tbc := by
  unfold State.confirmExpired
  split <;> simp

@[simp] theorem State.intervalExpired_train (s : State) :
    s.intervalExpired.cpt = s.cpt ∧ s.intervalExpired.mfe = s.mfe ∧ s.intervalExpired.tbc = s.tbc := by
  unfold State.intervalExpired
  split_ifs <;> simp

@[simp] theorem State.intervalExpiry_train (s : State) :
    s.intervalExpiry.cpt = s.cpt ∧ s.intervalExpiry.mfe = s.mfe ∧ s.intervalExpiry.tbc = s.tbc := by
  unfold State.intervalExpiry
  split
  · exact ⟨rfl, rfl, rfl⟩
  · split <;> simp

@[simp] theorem State.partnerExpiry_train (p : Partner) (s : State) :
    (State.partnerExpiry p s).cpt = s.cpt ∧ (State.partnerExpiry p s).mfe = s.mfe ∧
      (State.partnerExpiry p s).tbc = s.tbc := by
  unfold State.partnerExpiry
  split
  · exact ⟨rfl, rfl, rfl⟩
  · split <;> simp

@[simp] theorem State.settleExpiry_train (s : State) :
    s.settleExpiry.cpt = s.cpt ∧ s.settleExpiry.mfe = s.mfe ∧ s.settleExpiry.tbc = s.tbc := by
  unfold State.settleExpiry
  split
  · exact ⟨rfl, rfl, rfl⟩
  · split <;> simp

@[simp] theorem State.stepExpiry_train (s : State) :
    s.stepExpiry.cpt = s.cpt ∧ s.stepExpiry.mfe = s.mfe ∧ s.stepExpiry.tbc = s.tbc := by
  unfold State.stepExpiry
  split
  · exact ⟨rfl, rfl, rfl⟩
  · split <;> simp

@[simp] theorem State.releaseExpiry_train (s : State) :
    s.releaseExpiry.cpt = s.cpt ∧ s.releaseExpiry.mfe = s.mfe ∧ s.releaseExpiry.tbc = s.tbc := by
  unfold State.releaseExpiry
  split <;> simp

@[simp] theorem State.fdpExpiry_train (s : State) :
    s.fdpExpiry.cpt = s.cpt ∧ s.fdpExpiry.mfe = s.mfe ∧ s.fdpExpiry.tbc = s.tbc := by
  unfold State.fdpExpiry
  split <;> simp [State.fdpFilled]

@[simp] theorem State.travelExpiry_train (s : State) :
    s.travelExpiry.cpt = s.cpt ∧ s.travelExpiry.mfe = s.mfe ∧ s.travelExpiry.tbc = s.tbc := by
  unfold State.travelExpiry
  split <;> simp

end Sys2Proof.Machine

namespace Sys2Proof.Machine

/-! ## The train's law

The trailer laws and the label law together, cut into what the table alone says, what Mtow says of the
table, and what the demand says of the table and PARK. -/

/-- The laws of the table itself: the towing order, the fields' ranges, the handles and the tags. -/
structure Coupling.lawful (c : Coupling) : Prop where
  towing : c.towingLaw
  drawbar : entryInRange c.drawbar
  towthru : entryInRange c.towthru
  labels : c.labelLaw

/-- The law of the demand: 0 to 1500, and full while a record is LOST or a weighted train stands on PARK
(R163). -/
structure State.demandLaw (s : State) : Prop where
  bound : s.tbc.demand ≤ 1500
  full : s.cpt.anyLost = true ∨ (s.present .park = true ∧ s.cpt.weighted ≠ []) → s.tbc.demand = 1500

/-- The law every step keeps of the train. -/
structure State.trainLaw (s : State) : Prop where
  mtow : s.cpt.mtow = s.cpt.weightedMass
  demand : s.demandLaw
  table : s.cpt.lawful

theorem State.trainLaw_iff (s : State) : s.trainLaw ↔ s.trailerLaw ∧ s.cpt.labelLaw := by
  constructor
  · rintro ⟨mtow, ⟨bound, full⟩, ⟨towing, drawbar, towthru, labels⟩⟩
    exact ⟨⟨mtow, bound, full, towing, drawbar, towthru⟩, labels⟩
  · rintro ⟨⟨mtow, bound, full, towing, drawbar, towthru⟩, labels⟩
    exact ⟨mtow, ⟨bound, full⟩, ⟨towing, drawbar, towthru, labels⟩⟩

/-- Mtow is no part of the table's own laws. -/
theorem Coupling.lawful.withMtow {c : Coupling} (h : c.lawful) (mtow : Nat) : { c with mtow := mtow }.lawful :=
  ⟨h.towing, h.drawbar, h.towthru, h.labels⟩

/-! ### The demand -/

/-- A demand as its inputs give it meets the law: R165's first two rows are the law's. -/
theorem State.demandFormed.demandLaw {s : State} (h : s.demandFormed) : s.demandLaw := by
  have hd : s.tbc.demand = s.formDemand.1 := congrArg Prod.fst h
  unfold State.formDemand at hd
  constructor
  · rw [hd]
    split_ifs
    · exact Nat.le_refl _
    · exact Nat.le_refl _
    · exact Nat.zero_le _
    · exact Nat.min_le_left _ _
  · rintro (lost | ⟨park, weighted⟩)
    · rw [hd, if_pos lost]
    · rw [hd]
      simp [park, weighted]

theorem State.computeDemand_demandLaw (s : State) : s.computeDemand.demandLaw :=
  s.computeDemand_demandFormed.demandLaw

/-- The law of the demand reads the table's LOST and weighted records, PARK and the demand. -/
theorem State.demandLaw.congr {s t : State} (h : s.demandLaw) (hl : t.cpt.anyLost = s.cpt.anyLost)
    (hw : s.cpt.weighted = [] → t.cpt.weighted = []) (hp : t.present .park = s.present .park)
    (hd : t.tbc.demand = s.tbc.demand) : t.demandLaw := by
  constructor
  · rw [hd]; exact h.bound
  · rw [hd, hl, hp]
    exact fun c => h.full (c.imp_right (And.imp_right (mt hw)))

/-- An operation that leaves the train alone keeps the law of its demand. -/
theorem State.demandLaw.of_train {s t : State} (h : s.demandLaw)
    (k : t.cpt = s.cpt ∧ t.mfe = s.mfe ∧ t.tbc = s.tbc) : t.demandLaw := by
  obtain ⟨hc, hm, hb⟩ := k
  exact h.congr (by rw [hc]) (by rw [hc]; exact id) (by rw [State.present, hm]; rfl) (by rw [hb])

/-- A table that stands, under a demand that meets its law. -/
theorem State.trainLaw.of_demand {s t : State} (h : s.trainLaw) (hc : t.cpt = s.cpt) (hd : t.demandLaw) :
    t.trainLaw :=
  ⟨by rw [hc]; exact h.mtow, hd, by rw [hc]; exact h.table⟩

theorem State.trainLaw.of_train {s t : State} (h : s.trainLaw)
    (k : t.cpt = s.cpt ∧ t.mfe = s.mfe ∧ t.tbc = s.tbc) : t.trainLaw :=
  h.of_demand k.1 (h.demand.of_train k)

/-! ### The operations that compute the demand -/

@[simp] theorem State.computeDemand_cpt (s : State) : s.computeDemand.cpt = s.cpt := s.computeDemand_frame.cpt
@[simp] theorem State.computeDemand_mfe (s : State) : s.computeDemand.mfe = s.mfe := s.computeDemand_frame.mfe

@[simp] theorem State.setDownshift_cpt (s : State) (b : Bool) : (s.setDownshift b).cpt = s.cpt := by
  unfold State.setDownshift
  split <;> simp

theorem State.demandLaw.setDownshift {s : State} (h : s.demandLaw) (b : Bool) : (s.setDownshift b).demandLaw := by
  unfold State.setDownshift
  split
  · exact h
  · exact State.computeDemand_demandLaw _

theorem State.trainLaw.setDownshift {s : State} (h : s.trainLaw) (b : Bool) : (s.setDownshift b).trainLaw :=
  h.of_demand (s.setDownshift_cpt b) (h.demand.setDownshift b)

@[simp] theorem State.startHandover_cpt (s : State) (r : ShiftRecord) : (s.startHandover r).cpt = s.cpt := by
  unfold State.startHandover
  simp only
  split <;> simp

theorem State.trainLaw.startHandover {s : State} (h : s.trainLaw) (r : ShiftRecord) :
    (s.startHandover r).trainLaw := by
  unfold State.startHandover
  simp only
  split
  · exact State.trainLaw.setDownshift (h.of_train (by simp)) true
  · exact h.of_train (by simp)

@[simp] theorem State.startConfirm_cpt (s : State) (r : ShiftRecord) : (s.startConfirm r).cpt = s.cpt := by
  simp [State.startConfirm]

theorem State.trainLaw.startConfirm {s : State} (h : s.trainLaw) (r : ShiftRecord) :
    (s.startConfirm r).trainLaw :=
  State.trainLaw.setDownshift (h.of_train (by simp)) false

@[simp] theorem State.forcedNeutral_cpt (s : State) (c : NeutralCause) : (s.forcedNeutral c).cpt = s.cpt := by
  unfold State.forcedNeutral
  simp only
  split_ifs <;> simp

theorem State.demandLaw.dropLatch {s : State} (h : s.demandLaw) : s.dropLatch.demandLaw := h.of_train (by simp)

theorem State.demandLaw.offerShift {s : State} (h : s.demandLaw) (o : ShiftOutcome) (dest : Nat) (rest : List Nat) :
    (s.offerShift o dest rest).demandLaw :=
  h.of_train ⟨rfl, rfl, rfl⟩

/-- A forced neutral takes the train's law as it finds it, whatever the table. -/
theorem State.demandLaw.forcedNeutral {s : State} (h : s.demandLaw) (c : NeutralCause) :
    (s.forcedNeutral c).demandLaw := by
  unfold State.forcedNeutral
  simp only
  split
  · exact h
  · split
    · exact h
    · refine ((State.demandLaw.setDownshift (h.of_train ?_) false).dropLatch).offerShift _ _ _
      split_ifs <;> simp

/-- A PARK edge is a computation of the demand in either order with what it does to the gearbox, so the
law holds after it whatever the demand was before (R164). -/
theorem State.parkEdge_demandLaw (s : State) (rising : Bool) : (s.parkEdge rising).demandLaw := by
  unfold State.parkEdge
  split
  · exact eitherOrder_rule (State.computeDemand_demandLaw _)
      ((State.computeDemand_demandLaw s).forcedNeutral .park) fun _ _ h => h.of_train ⟨rfl, rfl, rfl⟩
  · exact eitherOrder_rule (State.computeDemand_demandLaw _)
      ((State.computeDemand_demandLaw s).of_train (by simp)) fun _ _ h => h.of_train ⟨rfl, rfl, rfl⟩

@[simp] theorem State.parkEdge_cpt (s : State) (rising : Bool) : (s.parkEdge rising).cpt = s.cpt := by
  unfold State.parkEdge
  split
  · exact eitherOrder_rule (P := fun t => t.cpt = s.cpt) (by simp) (by simp) fun _ _ h => h
  · exact eitherOrder_rule (P := fun t => t.cpt = s.cpt) (by simp) (by simp) fun _ _ h => h

/-! ### A change of the table -/

theorem Coupling.weighted_eq_nil_of_members {c c' : Coupling} (h : c'.members = c.members)
    (hw : c.weighted = []) : c'.weighted = [] := by
  rw [Coupling.members, Coupling.members, hw] at h
  exact List.map_eq_nil_iff.mp h

/-- A change to a lawful table keeps the train's law: the demand is computed where the weighted set or the
presence of a LOST record changed, and stands where neither did. -/
theorem State.trainLaw.commit {s : State} (h : s.trainLaw) {c : Coupling} (hc : c.lawful)
    (reports : List CplReport) : (s.commit c reports).trainLaw := by
  refine ⟨by rw [State.commit_cpt]; rfl, ?_, by rw [State.commit_cpt]; exact hc.withMtow _⟩
  by_cases same : c.anyLost = s.cpt.anyLost ∧ c.members = s.cpt.members
  · obtain ⟨hl, hm⟩ := same
    refine h.demand.congr ?_ ?_ ?_ ?_
    · rw [State.commit_cpt]; exact hl
    · rw [State.commit_cpt]; exact Coupling.weighted_eq_nil_of_members hm
    · simp [State.present]
    · rw [State.commit_tbc reports hl hm]
  · exact (State.commit_demandFormed reports (not_and_or.mp same)).demandLaw

end Sys2Proof.Machine

namespace Sys2Proof.Machine

/-! ## Labels: the handles and tags of the records in use -/

/-- A record's handle and tag. -/
def ImplementRecord.label (r : ImplementRecord) : Nat × Nat := (r.handle, r.tag)

/-- A record's handle and tag. -/
def TrailerRecord.label (r : TrailerRecord) : Nat × Nat := (r.handle, r.tag)

theorem Coupling.labels_eq (c : Coupling) :
    c.labels = (c.hitch.map ImplementRecord.label).toList ++ (c.drawbar.map TrailerRecord.label).toList ++
      (c.towthru.map TrailerRecord.label).toList := by
  unfold Coupling.labels
  cases c.hitch <;> cases c.drawbar <;> cases c.towthru <;> rfl

theorem Coupling.holds_iff (c : Coupling) (h : Nat) : c.holds h = true ↔ ∃ x ∈ c.labels, x.1 = h := by
  unfold Coupling.holds Coupling.labels
  cases c.hitch <;> cases c.drawbar <;> cases c.towthru <;> simp [or_assoc]

theorem Coupling.carries_iff (c : Coupling) (t : Nat) : c.carries t = true ↔ ∃ x ∈ c.labels, x.2 = t := by
  unfold Coupling.carries Coupling.labels
  cases c.hitch <;> cases c.drawbar <;> cases c.towthru <;> simp [or_assoc]

/-- With an entry free at most two records are in use. -/
theorem Coupling.labels_length {c : Coupling} (h : c.hitch = none ∨ c.drawbar = none ∨ c.towthru = none) :
    c.labels.length ≤ 2 := by
  rw [Coupling.labels_eq]
  have one {α : Type} (o : Option α) : o.toList.length ≤ 1 := by cases o <;> simp
  have hitch := one (c.hitch.map ImplementRecord.label)
  have drawbar := one (c.drawbar.map TrailerRecord.label)
  have towthru := one (c.towthru.map TrailerRecord.label)
  simp only [List.length_append]
  rcases h with h | h | h <;> simp only [h, Option.map_none, Option.toList_none, List.length_nil] at * <;> omega

/-! ### The handle an ATTACH is given -/

theorem nextHandle_range (h : Nat) : 1 ≤ nextHandle h ∧ nextHandle h ≤ 255 := by
  unfold nextHandle
  split <;> omega

theorem handleForward_zero {h : Nat} (h1 : 1 ≤ h) (h2 : h ≤ 255) : handleForward 0 h = h := by
  unfold handleForward
  omega

theorem handleForward_succ {h : Nat} (h1 : 1 ≤ h) (k : Nat) :
    handleForward (k + 1) h = nextHandle (handleForward k h) := by
  unfold handleForward nextHandle
  split <;> omega

/-- Three different handles are not all held by two records. -/
theorem Coupling.third_not_held {c : Coupling} (hl : c.labels.length ≤ 2) {a b d : Nat} (ha : c.holds a = true)
    (hb : c.holds b = true) (hab : a ≠ b) (had : a ≠ d) (hbd : b ≠ d) : c.holds d = false := by
  by_contra hd
  rw [Bool.not_eq_false, Coupling.holds_iff] at hd
  rw [Coupling.holds_iff] at ha hb
  have sub : [a, b, d] ⊆ c.labels.map Prod.fst := by
    intro x hx
    simp only [List.mem_cons, List.not_mem_nil, or_false] at hx
    rcases hx with rfl | rfl | rfl <;> exact List.mem_map.mpr ‹_›
  have nodup : [a, b, d].Nodup := by simp [hab, had, hbd]
  have := (nodup.subperm sub).length_le
  simp only [List.length_cons, List.length_nil, List.length_map] at this
  omega

/-- The handle given is the first from the counter on that no record holds (R4). -/
theorem Coupling.freeHandle_spec {c : Coupling} (h1 : 1 ≤ c.counter) (h2 : c.counter ≤ 255)
    (hl : c.labels.length ≤ 2) :
    ∃ k, k ≤ 2 ∧ c.freeHandle = handleForward k c.counter ∧ c.holds c.freeHandle = false ∧
      ∀ j, j < k → c.holds (handleForward j c.counter) = true := by
  have zero := handleForward_zero h1 h2
  have one : handleForward 1 c.counter = nextHandle c.counter := by rw [handleForward_succ h1 0, zero]
  have two : handleForward 2 c.counter = nextHandle (nextHandle c.counter) := by rw [handleForward_succ h1 1, one]
  unfold Coupling.freeHandle
  split
  next first =>
    split
    next second =>
      refine ⟨2, by omega, two.symm, ?_, fun j hj => ?_⟩
      · refine Coupling.third_not_held hl first second ?_ ?_ ?_ <;> unfold nextHandle <;> split_ifs <;> omega
      · obtain rfl | rfl : j = 0 ∨ j = 1 := by omega
        · rwa [zero]
        · rwa [one]
    next second =>
      refine ⟨1, by omega, one.symm, by simpa using second, fun j hj => ?_⟩
      obtain rfl : j = 0 := by omega
      rwa [zero]
  next first => exact ⟨0, by omega, zero.symm, by simpa using first, fun j hj => absurd hj (by omega)⟩

theorem Coupling.freeHandle_range {c : Coupling} (h1 : 1 ≤ c.counter) (h2 : c.counter ≤ 255) :
    1 ≤ c.freeHandle ∧ c.freeHandle ≤ 255 := by
  unfold Coupling.freeHandle
  split
  · split
    · exact nextHandle_range _
    · exact nextHandle_range _
  · exact ⟨h1, h2⟩

/-! ### The label law -/

/-- The law holds of a table whose labels are some of those of a table in which it holds. -/
theorem Coupling.labelLaw.of_sublist {c c' : Coupling} (h : c.labelLaw) (hs : c'.labels.Sublist c.labels)
    (hc : c'.counter = c.counter) : c'.labelLaw := by
  obtain ⟨range, handles, tags, low, high⟩ := h
  exact ⟨fun x hx => range x (hs.subset hx), handles.sublist (hs.map _), tags.sublist ((hs.map _).filter _),
    hc ▸ low, hc ▸ high⟩

/-- The law holds of a table with one more record in use, under a handle and a tag that no other has. -/
theorem Coupling.labelLaw.of_cons {c c' : Coupling} (h : c.labelLaw) {handle tag : Nat}
    (hp : c'.labels.Perm ((handle, tag) :: c.labels)) (hr : 1 ≤ handle ∧ handle ≤ 255)
    (hf : c.holds handle = false) (ht : tag ≤ 65535) (hd : tag = 0 ∨ c.carries tag = false)
    (hc : c'.counter = nextHandle handle) : c'.labelLaw := by
  obtain ⟨range, handles, tags, -, -⟩ := h
  rw [← Bool.not_eq_true, Coupling.holds_iff] at hf
  rw [← Bool.not_eq_true, Coupling.carries_iff] at hd
  have counter := nextHandle_range handle
  refine ⟨fun x hx => ?_, ?_, ?_, hc ▸ counter.1, hc ▸ counter.2⟩
  · rcases List.mem_cons.mp (hp.subset hx) with rfl | old
    · exact ⟨hr.1, hr.2, ht⟩
    · exact range x old
  · rw [(hp.map _).nodup_iff, List.map_cons, List.nodup_cons]
    exact ⟨fun hm => hf (List.mem_map.mp hm), handles⟩
  · rw [((hp.map _).filter _).nodup_iff, List.map_cons]
    by_cases zero : tag = 0
    · rwa [List.filter_cons_of_neg (by simp [zero])]
    · rw [List.filter_cons_of_pos (by simp [zero]), List.nodup_cons]
      exact ⟨fun hm => (hd.resolve_left zero) (List.mem_map.mp (List.mem_filter.mp hm).1), tags⟩

/-! ## The tables that follow a lawful one -/

/-- A trailer record's fields, active and staged, in their ranges. -/
def TrailerRecord.inRange (r : TrailerRecord) : Prop := r.fields.inRange ∧ ∀ f, r.staged = some f → f.inRange

/-- The states of a DRAWBAR record behind which a TOWTHRU record may be in use. -/
def TrailerRecord.leads (r : TrailerRecord) : Prop := r.state = .active ∨ r.state = .degraded ∨ r.state = .lost

/-- The states a TOWTHRU record takes. -/
def TrailerRecord.towed (r : TrailerRecord) : Prop :=
  r.state = .active ∨ r.state = .lost ∨ r.state = .retiring .active

/-- A record follows another at a point: the same handle and tag, and fields in range if they were. -/
structure TrailerRecord.follows (x r : TrailerRecord) : Prop where
  label : x.label = r.label
  inRange : r.inRange → x.inRange

/-- An entry follows another: freed, or holding a record that follows. -/
def entryFollows (e' e : Option TrailerRecord) : Prop := ∀ x, e' = some x → ∃ r, e = some r ∧ x.follows r

theorem entryFollows.refl (e : Option TrailerRecord) : entryFollows e e := fun x h => ⟨x, h, rfl, id⟩

theorem entryFollows.free (e : Option TrailerRecord) : entryFollows none e := nofun

theorem entryFollows.put {x r : TrailerRecord} {e : Option TrailerRecord} (he : e = some r) (h : x.follows r) :
    entryFollows (some x) e := fun _ hx => ⟨r, he, Option.some.inj hx ▸ h⟩

theorem TrailerRecord.follows_state (r : TrailerRecord) (st : TrailerState) : { r with state := st }.follows r :=
  ⟨rfl, id⟩

theorem entryFollows.labels {e' e : Option TrailerRecord} (h : entryFollows e' e) :
    (e'.map TrailerRecord.label).toList.Sublist (e.map TrailerRecord.label).toList := by
  cases e' with
  | none => exact List.nil_sublist _
  | some x =>
    obtain ⟨r, rfl, label, -⟩ := h x rfl
    simp [label]

theorem entryFollows.inRange {e' e : Option TrailerRecord} (h : entryFollows e' e) (he : entryInRange e) :
    entryInRange e' := by
  intro x hx
  obtain ⟨r, hr, -, range⟩ := h x hx
  exact range (he r hr)

/-- The towing law in terms of the lead and the towed record. -/
theorem Coupling.towingLaw_iff (c : Coupling) :
    c.towingLaw ↔ ∀ t, c.towthru = some t → (∃ d, c.drawbar = some d ∧ d.leads) ∧ t.towed := Iff.rfl

/-- Behind a record that is no lead the TOWTHRU entry is free. -/
theorem Coupling.lawful.no_towthru {c : Coupling} (h : c.lawful) (hd : ∀ d, c.drawbar = some d → ¬ d.leads) :
    c.towthru = none := by
  by_contra used
  obtain ⟨t, ht⟩ := Option.ne_none_iff_exists'.mp used
  obtain ⟨⟨d, hdr, leads⟩, -⟩ := h.towing t ht
  exact hd d hdr leads

/-- The HITCH entry freed, or its record changed in all but its label. -/
theorem Coupling.lawful.withHitch {c : Coupling} (h : c.lawful) {e : Option ImplementRecord}
    (he : ∀ x, e = some x → ∃ r, c.hitch = some r ∧ x.label = r.label) : { c with hitch := e }.lawful := by
  refine ⟨h.towing, h.drawbar, h.towthru, h.labels.of_sublist ?_ rfl⟩
  rw [Coupling.labels_eq, Coupling.labels_eq]
  refine ((List.Sublist.append_right ?_ _).append_right _)
  cases e with
  | none => exact List.nil_sublist _
  | some x =>
    obtain ⟨r, hr, label⟩ := he x rfl
    simp [hr, label]

/-- The trailer entries replaced by ones that follow them, in the towing order. -/
theorem Coupling.lawful.withTrailers {c : Coupling} (h : c.lawful) {d t : Option TrailerRecord}
    (hd : entryFollows d c.drawbar) (ht : entryFollows t c.towthru)
    (towing : ∀ q, t = some q → (∃ l, d = some l ∧ l.leads) ∧ q.towed) :
    { c with drawbar := d, towthru := t }.lawful := by
  refine ⟨towing, hd.inRange h.drawbar, ht.inRange h.towthru, h.labels.of_sublist ?_ rfl⟩
  rw [Coupling.labels_eq, Coupling.labels_eq]
  exact ((List.Sublist.refl _).append hd.labels).append ht.labels

/-- The DRAWBAR entry alone replaced, where no TOWTHRU record is in use. -/
theorem Coupling.lawful.withDrawbar {c : Coupling} (h : c.lawful) {d : Option TrailerRecord}
    (hd : entryFollows d c.drawbar) (none : c.towthru = none) : { c with drawbar := d }.lawful :=
  h.withTrailers hd (.refl _) fun q hq => by rw [none] at hq; cases hq

/-- The TOWTHRU entry alone replaced. -/
theorem Coupling.lawful.withTowthru {c : Coupling} (h : c.lawful) {t : Option TrailerRecord}
    (ht : entryFollows t c.towthru) (towed : ∀ q, t = some q → q.towed) : { c with towthru := t }.lawful := by
  refine h.withTrailers (.refl _) ht fun q hq => ?_
  obtain ⟨r, hr, -⟩ := ht q hq
  exact ⟨(h.towing r hr).1, towed q hq⟩

end Sys2Proof.Machine

namespace Sys2Proof.Machine

/-! ## The Coupling Table's operations keep the train's law -/

/-! ### Field sets -/

/-- The clamp of an operand is the nearer end of the range, or the operand itself. -/
theorem clamp_eq {lo hi : Nat} (h : lo ≤ hi) (x : Nat) : clamp lo hi x = max lo (min hi x) := by
  unfold clamp
  split_ifs <;> omega

theorem trailerOf_inRange {fields : FieldSet} {f : TrailerFields} (h : trailerOf fields = some f) : f.inRange := by
  cases fields with
  | implement => cases h
  | trailer m gt pld pas =>
    obtain rfl := Option.some.inj h
    have gt' := gt.isLt
    simp only [TrailerFields.inRange, clampTrailer, clamp_eq (show 10 ≤ 400 by omega),
      clamp_eq (Nat.zero_le _)]
    cases pas <;> simp only [Option.map_none, Option.map_some, Option.getD_none, Option.getD_some,
      clamp_eq (Nat.zero_le _)] <;> omega

/-! ### HITCH -/

/-- The HITCH record changed in all but its label. -/
theorem Coupling.lawful.withHitch_some {c : Coupling} (h : c.lawful) {r x : ImplementRecord}
    (hr : c.hitch = some r) (label : x.label = r.label) : { c with hitch := some x }.lawful :=
  h.withHitch fun _ hx => ⟨r, hr, Option.some.inj hx ▸ label⟩

theorem State.trainLaw.applyImplementCopy {s : State} (h : s.trainLaw) : s.applyImplementCopy.trainLaw := by
  unfold State.applyImplementCopy
  split
  · exact h
  next r hr =>
    split
    · exact h
    · refine h.commit (h.table.withHitch_some hr ?_) _
      rfl

theorem State.trainLaw.acceptImplement {s : State} (h : s.trainLaw) (valid : Bool) :
    (s.acceptImplement valid).trainLaw := by
  unfold State.acceptImplement
  split
  · exact h
  next r hr =>
    split
    · exact h
    · split
      · refine h.commit (h.table.withHitch_some hr ?_) _
        rfl
      · exact h

theorem State.trainLaw.removeImplement {s : State} (h : s.trainLaw) (r : ImplementRecord) (o : CplOutcome) :
    (s.removeImplement r o).trainLaw :=
  h.commit (h.table.withHitch (e := none) nofun) _

/-! ### Staged trailer copies -/

theorem TrailerRecord.applyCopy_eq (r : TrailerRecord) :
    r.applyCopy = { r with fields := r.staged.getD r.fields, staged := none } := by
  obtain ⟨_, _, _, _, _ | _⟩ := r <;> rfl

theorem TrailerRecord.applyCopy_follows (r : TrailerRecord) : r.applyCopy.follows r := by
  rw [TrailerRecord.applyCopy_eq]
  refine ⟨rfl, fun ⟨fields, staged⟩ => ⟨?_, nofun⟩⟩
  cases hs : r.staged with
  | none => simpa [hs] using fields
  | some f => simpa [hs] using staged f hs

theorem applyCopy_entryFollows (e : Option TrailerRecord) : entryFollows (e.map TrailerRecord.applyCopy) e := by
  intro x hx
  obtain ⟨r, rfl, rfl⟩ := Option.map_eq_some_iff.mp hx
  exact ⟨r, rfl, r.applyCopy_follows⟩

/-- A record with its copy applied is in the state it was in. -/
@[simp] theorem TrailerRecord.applyCopy_state (r : TrailerRecord) : r.applyCopy.state = r.state := by
  rw [TrailerRecord.applyCopy_eq]

theorem State.trainLaw.applyTrailerCopies {s : State} (h : s.trainLaw) : s.applyTrailerCopies.trainLaw := by
  refine h.commit (h.table.withTrailers (applyCopy_entryFollows _) (applyCopy_entryFollows _) fun q hq => ?_) _
  obtain ⟨t, ht, rfl⟩ := Option.map_eq_some_iff.mp hq
  obtain ⟨⟨d, hd, leads⟩, towed⟩ := h.table.towing t ht
  refine ⟨⟨d.applyCopy, by rw [hd]; rfl, ?_⟩, ?_⟩
  · simpa [TrailerRecord.leads] using leads
  · simpa [TrailerRecord.towed] using towed

/-! ### Connector detect -/

/-- An entry and its notices after an edge, as a table of R9, R11, R12 or R13 has them: the stage, nothing
else of the record, and the record itself where its stage stands. -/
structure EdgeResult.isOf (e : EdgeResult) (p : Point) (r : TrailerRecord)
    (after : Option Stage × Option CplOutcome) : Prop where
  stage : e.entry.map TrailerRecord.stage = after.1
  entry : ∀ x, e.entry = some x → x = { r with state := x.state } ∧ (x.stage = r.stage → x = r)
  reports : e.reports = after.2.toList.map fun o => ⟨p, o, r.handle, r.tag, stageCode after.1⟩

theorem TrailerRecord.state_code (r : TrailerRecord) : r.state.code = stageCode (some r.stage) := by
  unfold TrailerRecord.stage
  cases r.state <;> rfl

namespace EdgeResult.isOf

theorem stays (r : TrailerRecord) (p : Point) : EdgeResult.isOf ⟨some r, []⟩ p r (some r.stage, none) :=
  ⟨rfl, fun x hx => by obtain rfl := Option.some.inj hx; exact ⟨rfl, fun _ => rfl⟩, rfl⟩

theorem removed (r : TrailerRecord) (p : Point) (o : CplOutcome) :
    EdgeResult.isOf ⟨none, [r.removed p o]⟩ p r (none, some o) :=
  ⟨rfl, nofun, rfl⟩

/-- A record that changes its stage without a notice, or only its return state. -/
theorem silent {r : TrailerRecord} {st : TrailerState} (p : Point)
    (same : { r with state := st }.stage = r.stage → st = r.state) :
    EdgeResult.isOf ⟨some { r with state := st }, []⟩ p r (some { r with state := st }.stage, none) := by
  refine ⟨rfl, fun x hx => ?_, rfl⟩
  obtain rfl := Option.some.inj hx
  exact ⟨rfl, fun h => by rw [same h]⟩

theorem moved {r : TrailerRecord} {st : TrailerState} (p : Point) (o : CplOutcome)
    (other : { r with state := st }.stage ≠ r.stage) :
    (r.moved p st o).isOf p r (some { r with state := st }.stage, some o) := by
  refine ⟨rfl, fun x hx => ?_, ?_⟩
  · obtain rfl := Option.some.inj hx
    exact ⟨rfl, fun h => absurd h other⟩
  · cases st <;> rfl

theorem follows {e : EdgeResult} {p : Point} {r : TrailerRecord} {after : Option Stage × Option CplOutcome}
    (h : e.isOf p r after) {o : Option TrailerRecord} (ho : o = some r) : entryFollows e.entry o := by
  intro x hx
  obtain ⟨eq, -⟩ := h.entry x hx
  exact ⟨r, ho, eq ▸ r.follows_state x.state⟩

end EdgeResult.isOf

/-- The DRAWBAR record at an edge follows the tables of R9, R11 and R13. -/
theorem TrailerRecord.drawbarEdge_isOf (r : TrailerRecord) (a b : Bool) :
    (r.drawbarEdge a b).isOf .drawbar r (drawbarTable r.stage a b) := by
  have stays := EdgeResult.isOf.stays r .drawbar
  have removed := EdgeResult.isOf.removed r .drawbar .retired
  have moved st o := EdgeResult.isOf.moved (r := r) (st := st) .drawbar o
  have silent st := EdgeResult.isOf.silent (r := r) (st := st) .drawbar
  unfold TrailerRecord.stage at *
  unfold TrailerRecord.drawbarEdge
  cases hs : r.state with
  | pending t =>
    rw [hs] at stays moved
    cases a <;> cases b
    · exact stays
    · exact stays
    · exact stays
    · exact moved .active .accepted nofun
  | active =>
    rw [hs] at stays moved
    cases a <;> cases b
    · exact moved .lost .lost nofun
    · exact moved .degraded .degraded nofun
    · exact moved .degraded .degraded nofun
    · exact stays
  | degraded =>
    rw [hs] at stays moved
    cases a <;> cases b
    · exact moved .lost .lost nofun
    · exact stays
    · exact stays
    · exact moved .active .reconnected nofun
  | lost =>
    rw [hs] at stays
    exact stays
  | retiring back =>
    rw [hs] at silent
    cases a <;> cases b
    · exact removed
    all_goals
      cases back <;> exact silent (.retiring _) (by simp [ReturnState.afterEdge])

/-- The TOWTHRU record at the same edge follows the tables of R12 and R13. -/
theorem TrailerRecord.towthruEdge_isOf (r : TrailerRecord) (lost a b : Bool) :
    (r.towthruEdge lost (!a && !b)).isOf .towthru r (towthruTable r.stage lost a b) := by
  have stays := EdgeResult.isOf.stays r .towthru
  have removed := EdgeResult.isOf.removed r .towthru .retired
  have moved := EdgeResult.isOf.moved (r := r) (st := .lost) .towthru .lost
  unfold TrailerRecord.stage at *
  unfold TrailerRecord.towthruEdge
  cases hs : r.state with
  | active =>
    rw [hs] at stays moved
    cases lost
    · exact stays
    · exact moved nofun
  | retiring back =>
    rw [hs] at stays
    cases a <;> cases b
    · exact removed
    all_goals exact stays
  | pending t | degraded | lost =>
    rw [hs] at stays
    exact stays

end Sys2Proof.Machine

namespace Sys2Proof.Machine

/-! ### The edges, the watch and the timers keep the law -/

/-- Whether a stage is one of a lead. -/
theorem TrailerRecord.leads_iff (r : TrailerRecord) :
    r.leads ↔ r.stage = .active ∨ r.stage = .degraded ∨ r.stage = .lost := by
  unfold TrailerRecord.leads TrailerRecord.stage
  cases r.state <;> simp

theorem TrailerRecord.towed_iff (r : TrailerRecord) :
    r.towed ↔ r.stage = .active ∨ r.stage = .lost ∨ r.stage = .retiring .active := by
  unfold TrailerRecord.towed TrailerRecord.stage
  cases r.state <;> simp

/-- What the towing law says of a TOWTHRU record in use and of its lead. -/
theorem Coupling.lawful.lead {c : Coupling} (h : c.lawful) {t : TrailerRecord} (ht : c.towthru = some t) :
    (∃ d, c.drawbar = some d ∧ d.leads) ∧ t.towed :=
  h.towing t ht

/-- No edge takes a lead out of the states a lead has. -/
theorem TrailerRecord.leads.drawbarEdge {r : TrailerRecord} (h : r.leads) (a b : Bool) :
    ∃ d, (r.drawbarEdge a b).entry = some d ∧ d.leads := by
  have stage := (r.drawbarEdge_isOf a b).stage
  have stays : ∃ st, (drawbarTable r.stage a b).1 = some st ∧ (st = .active ∨ st = .degraded ∨ st = .lost) := by
    rcases r.leads_iff.mp h with h | h | h <;> rw [h] <;> cases a <;> cases b <;> simp [drawbarTable]
  obtain ⟨st, hst, leads⟩ := stays
  obtain ⟨d, hd, rfl⟩ := Option.map_eq_some_iff.mp (stage.trans hst)
  exact ⟨d, hd, d.leads_iff.mpr leads⟩

/-- No edge takes a towed record out of the states it has. -/
theorem TrailerRecord.towed.towthruEdge {r x : TrailerRecord} (h : r.towed) {lost a b : Bool}
    (hx : (r.towthruEdge lost (!a && !b)).entry = some x) : x.towed := by
  have stage := (r.towthruEdge_isOf lost a b).stage
  rw [hx, Option.map_some] at stage
  rw [TrailerRecord.towed_iff] at h ⊢
  rcases h with h | h | h <;> rw [h] at stage <;> cases lost <;> cases a <;> cases b <;>
    simp_all [towthruTable]

theorem State.trainLaw.detectEdge {s : State} (h : s.trainLaw) : s.detectEdge.trainLaw := by
  unfold State.detectEdge
  split
  · exact h
  next r hr =>
    refine h.commit ?_ _
    refine h.table.withTrailers ((r.drawbarEdge_isOf _ _).follows hr) ?_ fun q hq => ?_
    · split
      · exact .free _
      next t ht => exact (t.towthruEdge_isOf _ _ _).follows ht
    · split at hq
      · cases hq
      next t ht =>
        obtain ⟨⟨d, hd, leads⟩, towed⟩ := h.table.lead ht
        obtain rfl : r = d := Option.some.inj (hr.symm.trans hd)
        exact ⟨leads.drawbarEdge _ _, towed.towthruEdge hq⟩

/-- The retire watch frees an entry or leaves it. -/
theorem watchEntry_entry (p : Point) (e : Option TrailerRecord) :
    (watchEntry p e).entry = e.filter fun r => !r.isRetiring := by
  unfold watchEntry
  cases e with
  | none => rfl
  | some r => cases h : r.isRetiring <;> simp [h, Option.filter]

theorem filter_entryFollows (keep : TrailerRecord → Bool) (e : Option TrailerRecord) :
    entryFollows (e.filter keep) e := by
  intro x hx
  exact ⟨x, (Option.filter_eq_some_iff.mp hx).1, rfl, id⟩

theorem TrailerRecord.leads.not_retiring {r : TrailerRecord} (h : r.leads) : r.isRetiring = false := by
  rcases h with h | h | h <;> simp [TrailerRecord.isRetiring, h]

theorem State.trainLaw.retireWatch {s : State} (h : s.trainLaw) : s.retireWatch.trainLaw := by
  unfold State.retireWatch
  split
  · simp only [watchEntry_entry]
    refine h.commit (h.table.withTrailers (filter_entryFollows _ _) (filter_entryFollows _ _) fun q hq => ?_) _
    obtain ⟨⟨d, hd, leads⟩, towed⟩ := h.table.lead (Option.filter_eq_some_iff.mp hq).1
    exact ⟨⟨d, by simp [hd, leads.not_retiring], leads⟩, towed⟩
  · exact h

theorem State.trainLaw.limitsChanged {s : State} (h : s.trainLaw) : s.limitsChanged.trainLaw :=
  h.of_train (by simp)

theorem State.trainLaw.hitchTimeout {s : State} (h : s.trainLaw) : s.hitchTimeout.trainLaw := by
  unfold State.hitchTimeout
  split
  · exact h
  · split
    · exact h
    · exact (h.removeImplement _ _).limitsChanged

theorem State.trainLaw.drawbarTimeout {s : State} (h : s.trainLaw) : s.drawbarTimeout.trainLaw := by
  unfold State.drawbarTimeout
  split
  · exact h
  next r hr =>
    split
    next t hs =>
      refine h.commit (h.table.withDrawbar (.free _) (h.table.no_towthru fun d hd => ?_)) _
      obtain rfl : r = d := Option.some.inj (hr.symm.trans hd)
      simp [TrailerRecord.leads, hs]
    all_goals exact h

/-! ### The requests of the Coupling Table -/

/-- An answer's next state stands in a relation to the state before; a refusal has none. -/
def Answer.relates (R : State → State → Prop) (s : State) : Answer → Prop
  | .ok t _ => R s t
  | .refused _ => True

/-- A request that keeps the train's law. -/
abbrev Answer.keepsLaw (s : State) (a : Answer) : Prop := a.relates (fun s t => s.trainLaw → t.trainLaw) s

/-- What the checks of ATTACH leave to be relied on: the entry is free, the lead is there, and no other
record carries the tag (R14). -/
theorem State.attachCheck_none {s : State} {p : Point} {tag : Nat} (h : s.attachCheck p tag = none) :
    s.cpt.inUse p = false ∧ (tag = 0 ∨ s.cpt.carries tag = false) ∧
      (p = .towthru → ∃ d, s.cpt.drawbar = some d ∧ (d.state = .active ∨ d.state = .degraded)) ∧
      (p = .hitch → s.htc.mode ≠ .locked) := by
  unfold State.attachCheck at h
  split_ifs at h with used lead locked duplicate
  refine ⟨by simpa using used, ?_, ?_, ?_⟩
  · simpa [or_iff_not_imp_left] using duplicate
  · rintro rfl
    cases hd : s.cpt.drawbar with
    | none => simp [hd] at lead
    | some d => exact ⟨d, rfl, by simpa [hd, or_iff_not_imp_left] using lead⟩
  · rintro rfl
    simpa using locked

/-- A table with one more record in use keeps the label law (R4, R5). -/
theorem Coupling.lawful.attached_labels {c c' : Coupling} (h : c.lawful) {tag : Nat}
    (hp : c'.labels.Perm ((c.freeHandle, tag) :: c.labels))
    (free : c.hitch = none ∨ c.drawbar = none ∨ c.towthru = none) (ht : tag ≤ 65535)
    (hd : tag = 0 ∨ c.carries tag = false) (hc : c'.counter = nextHandle c.freeHandle) : c'.labelLaw := by
  obtain ⟨-, -, -, low, high⟩ := h.labels
  obtain ⟨_, -, -, held, -⟩ := Coupling.freeHandle_spec low high (Coupling.labels_length free)
  exact h.labels.of_cons hp (Coupling.freeHandle_range low high) held ht hd hc

theorem State.trainLaw.attachImplement {s : State} (h : s.trainLaw) {tag : Nat} (f : ImplementFields)
    (ht : tag ≤ 65535) (hc : s.attachCheck .hitch tag = none) : (s.attachImplement tag f).trainLaw := by
  obtain ⟨free, tags, -, -⟩ := State.attachCheck_none hc
  have empty : s.cpt.hitch = none := by simpa [Coupling.inUse] using free
  refine (h.commit ?_ []).limitsChanged
  refine ⟨h.table.towing, h.table.drawbar, h.table.towthru,
    h.table.attached_labels (tag := tag) ?_ (.inl empty) ht tags rfl⟩
  rw [Coupling.labels_eq, Coupling.labels_eq, empty]
  exact .refl _

theorem State.trainLaw.attachDrawbar {s : State} (h : s.trainLaw) {tag : Nat} {f : TrailerFields} (hf : f.inRange)
    (ht : tag ≤ 65535) (hc : s.attachCheck .drawbar tag = none) : (s.attachDrawbar tag f).trainLaw := by
  obtain ⟨free, tags, -, -⟩ := State.attachCheck_none hc
  have empty : s.cpt.drawbar = none := by simpa [Coupling.inUse] using free
  have last : s.cpt.towthru = none := h.table.no_towthru fun d hd => by rw [empty] at hd; cases hd
  refine h.commit ?_ _
  refine ⟨?_, ?_, h.table.towthru, h.table.attached_labels (tag := tag) ?_ (.inr (.inl empty)) ht tags rfl⟩
  · intro q hq
    exact nomatch last.symm.trans hq
  · rintro _ ⟨⟩
    exact ⟨hf, nofun⟩
  · rw [Coupling.labels_eq, Coupling.labels_eq, empty]
    simp only [Coupling.assigned, Option.map_some, Option.map_none, Option.toList_some, Option.toList_none,
      List.append_nil, List.append_assoc]
    exact List.perm_middle

theorem State.trainLaw.attachTowthru {s : State} (h : s.trainLaw) {tag : Nat} {f : TrailerFields} (hf : f.inRange)
    (ht : tag ≤ 65535) (hc : s.attachCheck .towthru tag = none) : (s.attachTowthru tag f).trainLaw := by
  obtain ⟨free, tags, lead, -⟩ := State.attachCheck_none hc
  have empty : s.cpt.towthru = none := by simpa [Coupling.inUse] using free
  refine h.commit ?_ _
  refine ⟨?_, h.table.drawbar, ?_, h.table.attached_labels (tag := tag) ?_ (.inr (.inr empty)) ht tags rfl⟩
  · rintro _ ⟨⟩
    obtain ⟨d, hd, leads⟩ := lead rfl
    exact ⟨⟨d, hd, leads.imp_right .inl⟩, .inl rfl⟩
  · rintro _ ⟨⟩
    exact ⟨hf, nofun⟩
  · rw [Coupling.labels_eq, Coupling.labels_eq, empty]
    simp only [Coupling.assigned, Option.map_some, Option.map_none, Option.toList_some, Option.toList_none,
      List.append_nil, List.append_assoc]
    rw [← List.append_assoc]
    exact List.perm_append_singleton _ _

/-- ATTACH at a point keeps the law where the steps of its acceptance do. -/
theorem attachAt_keepsLaw {p : Point} {tag : Nat} {steps : State → State} {s : State}
    (h : s.attachCheck p tag = none → s.trainLaw → (steps s).trainLaw) (first : Nat) :
    (attachAt p tag steps first s).keepsLaw s := by
  unfold attachAt
  split
  · trivial
  next hc => exact h hc

theorem actAttach_keepsLaw (point : Byte) (tag : Half) (fields : FieldSet) (s : State) :
    (actAttach point tag fields s).keepsLaw s := by
  have ht : tag.toNat ≤ 65535 := by have := tag.isLt; omega
  unfold actAttach
  split
  · exact attachAt_keepsLaw (fun hc h => h.attachImplement _ ht hc) _
  next hf => exact attachAt_keepsLaw (fun hc h => h.attachDrawbar (trailerOf_inRange hf) ht hc) _
  next hf => exact attachAt_keepsLaw (fun hc h => h.attachTowthru (trailerOf_inRange hf) ht hc) _
  · trivial

end Sys2Proof.Machine

namespace Sys2Proof.Machine

/-! ### A table written without a commit -/

/-- The masses of the weighted set, whose sum is Mtow and which is empty exactly where the set is. -/
def Coupling.masses (c : Coupling) : List Nat := c.weighted.map fun r => r.fields.m

/-- A record counts in the weighted set, among the LOST ones and in the towed mass as another does. -/
structure TrailerRecord.countsAs (x r : TrailerRecord) : Prop where
  weighted : x.weighted = r.weighted
  lost : x.isLost = r.isLost
  fields : x.fields = r.fields

theorem TrailerRecord.countsAs.masses {x r : TrailerRecord} (h : x.countsAs r) :
    (weightedEntry (some x)).map (fun r => r.fields.m) = (weightedEntry (some r)).map fun r => r.fields.m := by
  simp only [weightedEntry, h.weighted]
  split <;> simp [h.fields]

/-- A table that counts as the one before keeps the train's law with no demand computed. -/
theorem State.trainLaw.recount {s t : State} (h : s.trainLaw) (hc : t.cpt.lawful) (hm : t.cpt.mtow = s.cpt.mtow)
    (masses : t.cpt.masses = s.cpt.masses) (lost : t.cpt.anyLost = s.cpt.anyLost)
    (park : t.present .park = s.present .park) (brake : t.tbc = s.tbc) : t.trainLaw := by
  refine ⟨?_, h.demand.congr lost (fun empty => ?_) park (by rw [brake]), hc⟩
  · rw [hm, h.mtow]
    exact (congrArg List.sum masses).symm
  · unfold Coupling.masses at masses
    rw [empty] at masses
    exact List.map_eq_nil_iff.mp masses

/-- A record's staged copy counts for nothing. -/
theorem TrailerRecord.stage_countsAs (r : TrailerRecord) (f : Option TrailerFields) :
    { r with staged := f }.countsAs r :=
  ⟨rfl, rfl, rfl⟩

theorem TrailerRecord.stage_follows (r : TrailerRecord) {f : TrailerFields} (hf : f.inRange) :
    { r with staged := some f }.follows r :=
  ⟨rfl, fun h => ⟨h.1, fun _ hx => Option.some.inj hx ▸ hf⟩⟩

theorem amendImplement_keepsLaw {s : State} {r : ImplementRecord} (hr : s.cpt.hitch = some r) (fields : FieldSet) :
    (amendImplement r fields s).keepsLaw s := by
  unfold amendImplement
  split
  · trivial
  · intro h
    refine h.recount ?_ rfl rfl rfl rfl rfl
    refine h.table.withHitch_some hr ?_
    rfl

/-- AMEND of a trailer record keeps the law where writing an entry with a lawful copy does. -/
theorem amendTrailer_keepsLaw {s : State} {r : TrailerRecord} {put : TrailerRecord → State}
    (h : ∀ f : TrailerFields, f.inRange → s.trainLaw → (put { r with staged := some f }).trainLaw)
    (fields : FieldSet) : (amendTrailer r fields put).keepsLaw s := by
  unfold amendTrailer
  split
  · trivial
  next f hf =>
    split
    · trivial
    · exact h f (trailerOf_inRange hf)

theorem actAmend_keepsLaw (handle : Byte) (fields : FieldSet) (s : State) : (actAmend handle fields s).keepsLaw s := by
  unfold actAmend
  split
  · trivial
  · split
    · trivial
    next r hr => exact amendImplement_keepsLaw hr fields
  · split
    · trivial
    next r hr =>
      refine amendTrailer_keepsLaw (fun f hf h => h.recount ?_ rfl ?_ ?_ rfl rfl) fields
      · refine h.table.withTrailers (.put hr (r.stage_follows hf)) (.refl _) fun q hq => ?_
        obtain ⟨⟨d, hd, leads⟩, towed⟩ := h.table.lead hq
        obtain rfl : r = d := Option.some.inj (hr.symm.trans hd)
        exact ⟨⟨_, rfl, leads⟩, towed⟩
      · simp only [Coupling.masses, Coupling.weighted, List.map_append, hr, (r.stage_countsAs _).masses]
      · simp [Coupling.anyLost, hr, entryLost, (r.stage_countsAs _).lost]
  · split
    · trivial
    next r hr =>
      refine amendTrailer_keepsLaw (fun f hf h => h.recount ?_ rfl ?_ ?_ rfl rfl) fields
      · refine h.table.withTowthru (.put hr (r.stage_follows hf)) fun q hq => ?_
        obtain rfl := Option.some.inj hq
        exact (h.table.lead hr).2
      · simp only [Coupling.masses, Coupling.weighted, List.map_append, hr, (r.stage_countsAs _).masses]
      · simp [Coupling.anyLost, hr, entryLost, (r.stage_countsAs _).lost]

/-! ### RETIRE and RESTORE -/

theorem State.trainLaw.retiredHitch {s : State} (h : s.trainLaw) : s.retiredHitch.trainLaw := h.of_train (by simp)

/-- RETIRE of a trailer record keeps the law where both tables it may leave are lawful. -/
theorem retireTrailer_keepsLaw {s : State} {r : TrailerRecord} {put : Option TrailerRecord → Coupling}
    (gone : s.trainLaw → (put none).lawful)
    (stays : s.trainLaw → r.isLost = false → (put (some { r with state := r.state.retired })).lawful) (p : Point) :
    (retireTrailer r p put s).keepsLaw s := by
  unfold retireTrailer
  split
  · exact fun h => h.commit (gone h) _
  next hn =>
    have lost : r.isLost = false := by
      rw [Bool.or_eq_true, not_or] at hn
      simpa using hn.1
    exact fun h => h.commit (stays h lost) _

theorem actRetire_keepsLaw (handle : Byte) (s : State) : (actRetire handle s).keepsLaw s := by
  unfold actRetire
  split
  · trivial
  · split
    · trivial
    next r hr => exact fun h => (h.removeImplement r .retired).retiredHitch.limitsChanged
  · split
    · trivial
    next r hr =>
      split
      · trivial
      next alone =>
        have last : s.cpt.towthru = none := by simpa using alone
        exact retireTrailer_keepsLaw (fun h => h.table.withDrawbar (.free _) last)
          (fun h _ => h.table.withDrawbar (.put hr (r.follows_state _)) last) _
  · split
    · trivial
    next r hr =>
      refine retireTrailer_keepsLaw (fun h => h.table.withTowthru (.free _) nofun) (fun h lost => ?_) _
      refine h.table.withTowthru (.put hr (r.follows_state _)) fun q hq => ?_
      obtain rfl := Option.some.inj hq
      rcases (h.table.lead hr).2 with active | isLost | retiring
      · exact .inr (.inr (by simp [active, TrailerState.retired]))
      · simp [TrailerRecord.isLost, isLost] at lost
      · exact .inr (.inr (by simp [retiring, TrailerState.retired]))

/-- RESTORE of a trailer record keeps the law where the table it leaves is lawful. -/
theorem restoreTrailer_keepsLaw {s : State} {r : TrailerRecord} {put : TrailerRecord → Coupling}
    (h : ∀ b, r.state = .retiring b → s.trainLaw → (put { r with state := b.restored }).lawful) :
    (restoreTrailer r put s).keepsLaw s := by
  unfold restoreTrailer
  split
  next b hb => exact fun hs => hs.commit (h b hb hs) _
  all_goals trivial

theorem actRestore_keepsLaw (handle : Byte) (s : State) : (actRestore handle s).keepsLaw s := by
  unfold actRestore
  split
  · trivial
  · trivial
  · split
    · trivial
    next r hr =>
      refine restoreTrailer_keepsLaw fun b hb h => h.table.withDrawbar (.put hr (r.follows_state _)) ?_
      refine h.table.no_towthru fun d hd => ?_
      obtain rfl : r = d := Option.some.inj (hr.symm.trans hd)
      simp [TrailerRecord.leads, hb]
  · split
    · trivial
    next r hr =>
      refine restoreTrailer_keepsLaw fun b hb h => h.table.withTowthru (.put hr (r.follows_state _)) fun q hq => ?_
      obtain rfl := Option.some.inj hq
      have towed := (h.table.lead hr).2
      simp only [TrailerRecord.towed, hb, TrailerState.retiring.injEq, reduceCtorEq, false_or] at towed
      exact .inl (by rw [towed]; rfl)

/-! ### The other requests -/

/-- A command that may write the Coupling Table in answer to a request. -/
def writesTable (i : Instr) : Bool :=
  match i with
  | .attach _ _ _ _ => true
  | .amend _ _ _ => true
  | .retire _ _ => true
  | .restore _ _ => true
  | .softReset _ => true
  | _ => false

/-- An answer that leaves the train alone. -/
abbrev Answer.keepsTrain (s : State) (a : Answer) : Prop :=
  a.relates (fun s t => t.cpt = s.cpt ∧ t.mfe = s.mfe ∧ t.tbc = s.tbc) s

@[simp] theorem Answer.relates_ok (R : State → State → Prop) (s t : State) (p : List Byte) :
    (Answer.ok t p).relates R s ↔ R s t := Iff.rfl

@[simp] theorem Answer.relates_refused (R : State → State → Prop) (s : State) (status : Status) :
    (Answer.refused status).relates R s := trivial

@[simp] theorem State.putRoad_train (s : State) (b : Bool) :
    (s.putRoad b).cpt = s.cpt ∧ (s.putRoad b).mfe = s.mfe ∧ (s.putRoad b).tbc = s.tbc := by
  unfold State.putRoad
  split
  · exact ⟨rfl, rfl, rfl⟩
  · cases b <;> simp

@[simp] theorem State.putShiftHold_train (s : State) (b : Bool) :
    (s.putShiftHold b).cpt = s.cpt ∧ (s.putShiftHold b).mfe = s.mfe ∧ (s.putShiftHold b).tbc = s.tbc := by
  unfold State.putShiftHold
  split
  · exact ⟨rfl, rfl, rfl⟩
  · cases b <;> simp

@[simp] theorem State.putConditions_train (s : State) (mask : Byte) (b : Bool) :
    (s.putConditions mask b).cpt = s.cpt ∧ (s.putConditions mask b).mfe = s.mfe ∧
      (s.putConditions mask b).tbc = s.tbc := by
  unfold State.putConditions
  simp only
  split_ifs <;> simp

theorem travelRequest_keepsTrain (p : Purpose) (needsRecord : Bool) (opening : Nat) (s : State) :
    (travelRequest p needsRecord opening s).keepsTrain s := by
  unfold travelRequest
  split <;> simp [State.beginTravel]

/-- Every request that does not write the table leaves the train alone. -/
theorem requestAct_keepsTrain {i : Instr} {act : State → Answer} (h : requestAct i = some act)
    (hi : writesTable i = false) (s : State) : (act s).keepsTrain s := by
  cases i <;> simp only [requestAct, Option.some.injEq, reduceCtorEq] at h <;> subst h
  case attach | amend | retire | restore | softReset => simp [writesTable] at hi
  case nop | status | setShiftProfile | setSupply | withhold | unwithhold => exact ⟨rfl, rfl, rfl⟩
  case takeNotice => unfold actTakeNotice; split <;> simp
  case setCondition => unfold actSetCondition; split <;> simp
  case clearCondition => unfold actClearCondition; split <;> simp
  case enableNotice => unfold actEnableNotice; split <;> simp
  case disableNotice => unfold actDisableNotice; split <;> simp
  case lookup =>
    unfold actLookup
    split
    · trivial
    · trivial
    · split <;> simp
  case defineRatio =>
    unfold actDefineRatio
    simp only
    split
    · split
      · split <;> simp [State.defineEntry]
      · trivial
    · trivial
  case clearRatio =>
    unfold actClearRatio
    simp only
    split
    · split
      · trivial
      · split <;> simp
    · trivial
  case readRatio => unfold actReadRatio; split <;> simp
  case readPack => unfold actReadPack; split <;> simp
  case amendPack => unfold actAmendPack; split <;> simp
  case clearFault =>
    unfold actClearFault
    split
    · trivial
    · split <;> simp
  case calibrate =>
    unfold actCalibrate
    split
    · trivial
    · split <;> simp
  case select => unfold actSelect; split <;> simp
  case step => unfold actStep; split <;> simp
  case halt =>
    unfold actHalt
    split
    · trivial
    · split <;> simp
  case setFront => unfold actSetFront; split <;> simp
  case hitchHold => unfold actHitchHold; simp only; split <;> simp
  case hitchWork => unfold actHitchWork; split <;> simp
  case hitchGoto | hitchTransport | hitchReturn => exact travelRequest_keepsTrain _ _ _ s
  case setTraction => simp [actSetTraction]

/-- The state every reset leaves meets the train's law: no record is in use and the demand is 0. -/
theorem State.trainLaw_of_reset {t : State} (hc : t.cpt = .afterReset) (hb : t.tbc = .afterReset) : t.trainLaw := by
  refine ⟨by rw [hc]; rfl, ⟨by rw [hb]; exact Nat.zero_le _, ?_⟩, ?_⟩
  · rw [hc]
    rintro (lost | ⟨-, weighted⟩)
    · cases lost
    · exact absurd rfl weighted
  · rw [hc]
    exact ⟨nofun, nofun, nofun, nofun, by simp [Coupling.labels, Coupling.afterReset],
      by simp [Coupling.labels, Coupling.afterReset], by decide, by decide⟩

/-- Every request keeps the train's law. -/
theorem requestAct_keepsLaw {i : Instr} {act : State → Answer} (h : requestAct i = some act) (s : State) :
    (act s).keepsLaw s := by
  cases hi : writesTable i with
  | false =>
    have keeps := requestAct_keepsTrain h hi s
    cases ha : act s with
    | refused => trivial
    | ok t p =>
      rw [ha] at keeps
      exact fun hs => hs.of_train keeps
  | true =>
    cases i <;> simp only [writesTable, reduceCtorEq] at hi <;>
      simp only [requestAct, Option.some.injEq] at h <;> subst h
    case attach => exact actAttach_keepsLaw _ _ _ s
    case amend => exact actAmend_keepsLaw _ _ s
    case retire => exact actRetire_keepsLaw _ s
    case restore => exact actRestore_keepsLaw _ s
    case softReset => exact fun _ => State.trainLaw_of_reset rfl rfl

end Sys2Proof.Machine

namespace Sys2Proof.Machine

/-! ### The arrivals -/

/-- An event that leaves the table, the brake and the discrete inputs alone keeps the train's law, whatever
it samples. -/
theorem State.trainLaw.of_samples {s t : State} (h : s.trainLaw)
    (k : t.cpt = s.cpt ∧ t.mfe.inputs = s.mfe.inputs ∧ t.tbc = s.tbc) : t.trainLaw := by
  obtain ⟨hc, hi, hb⟩ := k
  exact h.of_demand hc
    (h.demand.congr (by rw [hc]) (by rw [hc]; exact id) (by rw [State.present, hi]; rfl) (by rw [hb]))

theorem State.speedPair_samples (ne no : Sample) (s : State) :
    (s.speedPair ne no).cpt = s.cpt ∧ (s.speedPair ne no).mfe.inputs = s.mfe.inputs ∧
      (s.speedPair ne no).tbc = s.tbc := by
  simp [State.speedPair, State.tractionPair, State.sampleSpeeds]

theorem State.groundSpeed_samples (vg : Sample) (s : State) :
    (s.groundSpeed vg).cpt = s.cpt ∧ (s.groundSpeed vg).mfe.inputs = s.mfe.inputs ∧ (s.groundSpeed vg).tbc = s.tbc := by
  simp [State.groundSpeed, State.groundSlip]

theorem State.chargeSet_samples (pc : Sample) (s : State) :
    (s.chargeSet pc).cpt = s.cpt ∧ (s.chargeSet pc).mfe.inputs = s.mfe.inputs ∧ (s.chargeSet pc).tbc = s.tbc := by
  unfold State.chargeSet
  simp only
  split
  · exact ⟨rfl, rfl, rfl⟩
  · unfold State.chargeChanged
    simp only
    split <;> simp

theorem State.trainLaw.hitchArrival {s : State} (h : s.trainLaw) : s.hitchArrival.trainLaw := h.of_train (by simp)

theorem State.trainLaw.formLoadIndex {s : State} (h : s.trainLaw) : s.formLoadIndex.trainLaw := h.of_train (by simp)

theorem State.trainLaw.hitchSet {s : State} (h : s.trainLaw) (p dl dr : Sample) : (s.hitchSet p dl dr).trainLaw := by
  have sampled : (s.sampleHitch p dl dr).trainLaw := h.of_samples ⟨rfl, rfl, rfl⟩
  exact (sampled.applyImplementCopy.acceptImplement p.valid).hitchArrival.formLoadIndex

theorem State.trainLaw.tractionPedals {s : State} (h : s.trainLaw) : s.tractionPedals.trainLaw :=
  h.of_train ⟨rfl, rfl, rfl⟩

theorem State.trainLaw.demandAndFront {s : State} (h : s.trainLaw) : s.demandAndFront.trainLaw :=
  h.of_demand s.demandAndFront_frame.cpt s.demandAndFront_demandFormed.demandLaw

@[simp] theorem State.pedalEpisode_train (s : State) :
    s.pedalEpisode.cpt = s.cpt ∧ s.pedalEpisode.mfe = s.mfe ∧ s.pedalEpisode.tbc = s.tbc := by
  unfold State.pedalEpisode
  simp only
  split <;> simp

theorem State.trainLaw.pedalEpisode {s : State} (h : s.trainLaw) : s.pedalEpisode.trainLaw :=
  h.of_train s.pedalEpisode_train

/-- A pedal set at its channels (R30, R31). -/
def State.samplePedals (s : State) (bl br : Sample) : State :=
  { s with mfe := { s.mfe with bl := s.mfe.bl.sample 1500 bl, br := s.mfe.br.sample 1500 br } }

theorem State.pedalSet_eq (s : State) (bl br : Sample) :
    s.pedalSet bl br = (s.samplePedals bl br).applyTrailerCopies.tractionPedals.demandAndFront.pedalEpisode := rfl

theorem State.trainLaw.pedalSet {s : State} (h : s.trainLaw) (bl br : Sample) : (s.pedalSet bl br).trainLaw := by
  have sampled : (s.samplePedals bl br).trainLaw := h.of_samples ⟨rfl, rfl, rfl⟩
  exact sampled.applyTrailerCopies.tractionPedals.demandAndFront.pedalEpisode

/-- Line supervision counts; it leaves the demand as it is. -/
@[simp] theorem State.superviseLine_demand (s : State) :
    s.superviseLine.cpt = s.cpt ∧ s.superviseLine.mfe = s.mfe ∧ s.superviseLine.tbc.demand = s.tbc.demand := by
  unfold State.superviseLine
  simp only
  split_ifs <;> simp

theorem State.trainLaw.superviseLine {s : State} (h : s.trainLaw) : s.superviseLine.trainLaw := by
  obtain ⟨hc, hm, hd⟩ := s.superviseLine_demand
  exact h.of_demand hc (h.demand.congr (by rw [hc]) (by rw [hc]; exact id) (by rw [State.present, hm]; rfl) hd)

/-- A line sample at its channel (R30, R31). -/
def State.sampleLine (s : State) (pt : Sample) : State :=
  { s with mfe := { s.mfe with pt := s.mfe.pt.sample 1500 pt } }

theorem State.lineSet_eq (s : State) (pt : Sample) :
    s.lineSet pt = if pt.valid then (s.sampleLine pt).superviseLine.retireWatch else (s.sampleLine pt).superviseLine :=
  rfl

theorem State.trainLaw.lineSet {s : State} (h : s.trainLaw) (pt : Sample) : (s.lineSet pt).trainLaw := by
  have sampled : (s.sampleLine pt).trainLaw := h.of_samples ⟨rfl, rfl, rfl⟩
  rw [State.lineSet_eq]
  split
  · exact sampled.superviseLine.retireWatch
  · exact sampled.superviseLine

/-! ### The discrete inputs -/

theorem State.trainLaw.rawInput {s : State} (h : s.trainLaw) (i : DInput) (present : Bool) :
    (s.rawInput i present).trainLaw := by
  refine h.of_demand rfl (h.demand.congr rfl id ?_ rfl)
  have level (c : Contact) : (c.rawChange present).level = c.level := by
    unfold Contact.rawChange
    split_ifs <;> rfl
  simp only [State.rawInput, State.present]
  cases i <;> simp only [Inputs.set, Inputs.get]
  split
  · rfl
  · exact level _

/-- A table whose laws hold, under a demand that may be due: what an edge of PARK finds. -/
theorem State.trainLaw.parkEdge {s : State} (h : s.trainLaw) (level rising : Bool) :
    ((s.settleInput .park level).parkEdge rising).trainLaw :=
  h.of_demand (by simp) (State.parkEdge_demandLaw _ _)

/-- An edge of another input leaves PARK as it is. -/
theorem State.trainLaw.settleInput {s : State} (h : s.trainLaw) {i : DInput} (hi : i ≠ .park) (level : Bool) :
    (s.settleInput i level).trainLaw := by
  refine h.of_demand rfl (h.demand.congr rfl id ?_ rfl)
  cases i with
  | park => exact absurd rfl hi
  | seat | detA | detB | extUp | extDown => rfl

theorem State.trainLaw.seatEdge {s : State} (h : s.trainLaw) (rising : Bool) : (s.seatEdge rising).trainLaw := by
  refine h.of_train ?_
  unfold State.seatEdge
  split <;> simp

theorem State.trainLaw.buttonEdge {s : State} (h : s.trainLaw) (d : ManualDir) (rising : Bool) :
    (s.buttonEdge d rising).trainLaw := by
  refine h.of_train ?_
  unfold State.buttonEdge
  split <;> simp

theorem State.trainLaw.offer {s : State} (h : s.trainLaw) (r : Report) (d : List Byte) : (s.offer r d).trainLaw :=
  h.of_train ⟨rfl, rfl, rfl⟩

theorem State.trainLaw.debounceExpiry {s : State} (h : s.trainLaw) (i : DInput) : (s.debounceExpiry i).trainLaw := by
  unfold State.debounceExpiry
  split
  · exact h
  next c _ =>
    refine State.trainLaw.offer ?_ _ _
    cases i with
    | park => exact h.parkEdge c.level c.level
    | seat => exact (h.settleInput (i := .seat) nofun c.level).seatEdge c.level
    | detA => exact (h.settleInput (i := .detA) nofun c.level).detectEdge
    | detB => exact (h.settleInput (i := .detB) nofun c.level).detectEdge
    | extUp => exact (h.settleInput (i := .extUp) nofun c.level).buttonEdge .up c.level
    | extDown => exact (h.settleInput (i := .extDown) nofun c.level).buttonEdge .down c.level

/-! ### The timers -/

theorem State.trainLaw.pendingExpiry {s : State} (h : s.trainLaw) (p : Point) : (s.pendingExpiry p).trainLaw := by
  cases p with
  | hitch => exact h.hitchTimeout
  | drawbar => exact h.drawbarTimeout
  | towthru => exact h

theorem State.trainLaw.seatExpiry {s : State} (h : s.trainLaw) : s.seatExpiry.trainLaw := by
  unfold State.seatExpiry
  split
  · exact h
  · refine h.of_demand (by simp) (State.demandLaw.forcedNeutral ?_ _)
    exact h.demand.of_train ⟨rfl, rfl, rfl⟩

/-- The expiry of the engine's timer keeps the law where what it starts does. -/
theorem State.trainLaw.phaseExpiry {s : State} (h : s.trainLaw) {act : State → ShiftRecord → State}
    (ha : ∀ r, (act s r).trainLaw) (e : EngineState) : (s.phaseExpiry e act).trainLaw := by
  unfold State.phaseExpiry
  split
  · split
    · exact ha _
    · exact h
  · exact h

theorem ImplementRecord.tick_label (r : ImplementRecord) : r.tick.label = r.label := by
  unfold ImplementRecord.tick
  split <;> rfl

/-- A millisecond runs the pending timer alone: the record counts as it did. -/
theorem TrailerRecord.tick_countsAs (r : TrailerRecord) : r.tick.countsAs r := by
  obtain ⟨_, _, state, _, _⟩ := r
  cases state <;> exact ⟨rfl, rfl, rfl⟩

theorem TrailerRecord.tick_follows (r : TrailerRecord) : r.tick.follows r := by
  obtain ⟨_, _, state, _, _⟩ := r
  cases state <;> exact ⟨rfl, id⟩

theorem TrailerRecord.leads.tick {r : TrailerRecord} (h : r.leads) : r.tick.leads := by
  have : r.tick = r := by
    unfold TrailerRecord.tick
    rcases h with h | h | h <;> rw [h]
  rwa [this]

theorem State.trainLaw.tick {s : State} (h : s.trainLaw) : s.tick.trainLaw := by
  refine h.recount (t := s.tick) ?_ rfl ?_ ?_ ?_ rfl
  · have hitched := h.table.withHitch (e := s.cpt.hitch.map (·.tick)) fun x hx => by
      obtain ⟨r, hr, rfl⟩ := Option.map_eq_some_iff.mp hx
      exact ⟨r, hr, r.tick_label⟩
    refine hitched.withTrailers (d := s.cpt.drawbar.map (·.tick)) ?_ (.refl _) fun q hq => ?_
    · intro x hx
      obtain ⟨r, hr, rfl⟩ := Option.map_eq_some_iff.mp hx
      exact ⟨r, hr, r.tick_follows⟩
    · obtain ⟨⟨d, hd, leads⟩, towed⟩ := h.table.lead hq
      exact ⟨⟨d.tick, by rw [hd]; rfl, leads.tick⟩, towed⟩
  · simp only [Coupling.masses, Coupling.weighted, List.map_append, State.tick]
    cases s.cpt.drawbar with
    | none => rfl
    | some d => rw [Option.map_some, d.tick_countsAs.masses]
  · simp only [Coupling.anyLost, State.tick]
    cases s.cpt.drawbar with
    | none => rfl
    | some d => simp only [Option.map_some, entryLost, d.tick_countsAs.lost]
  · rfl

/-! ### Every step -/

/-- A command's next state keeps the train's law. -/
def keepsTrainLaw (s : State) (o : Host.Outcome State Fault Refusal) : Prop :=
  ∀ t, o = .next t → s.trainLaw → t.trainLaw

theorem keepsTrainLaw_next {s t : State} (h : s.trainLaw → t.trainLaw) : keepsTrainLaw s (.next t) := by
  rintro _ ⟨⟩
  exact h

theorem event_keepsTrainLaw {f : State → State} {s : State} (h : s.trainLaw → (f s).trainLaw) :
    keepsTrainLaw s (event f s) := by
  refine keepsTrainLaw_next fun hs => ?_
  split
  · exact hs
  · exact (h hs).of_train (State.orderNotices_train _ _)

theorem transaction_keepsTrainLaw {take : State → State × Reply} (k : Nat) (s : State)
    (h : (s.settleReply k).trainLaw → (take (s.settleReply k)).1.trainLaw) :
    keepsTrainLaw s (transaction k take s) := by
  refine keepsTrainLaw_next fun hs => ?_
  split
  · exact hs
  · split
    · exact hs.of_train ⟨rfl, rfl, rfl⟩
    · exact (h (hs.of_train ⟨rfl, rfl, rfl⟩)).of_train (State.orderNotices_train _ _)

theorem Answer.keepsLaw.reply {s : State} {a : Answer} (h : a.keepsLaw s) (hs : s.trainLaw) (code : Byte) :
    (a.reply code s).1.trainLaw := by
  cases a with
  | ok t p => exact h hs
  | refused status => exact hs

theorem State.trainLaw.takeFrame {s : State} (h : s.trainLaw) (code : Byte) (bytes : List Byte) :
    (takeFrame code bytes s).1.trainLaw := by
  have idle : State.trainLaw { s with rlk := { s.rlk with receiver := [] } } := h.of_train ⟨rfl, rfl, rfl⟩
  unfold Machine.takeFrame
  simp only
  split
  · exact idle
  · exact idle
  · split
    · exact idle
    next act hact => exact (requestAct_keepsLaw hact _).reply idle code

/-- Every command keeps the train's law. -/
theorem exec_keepsTrainLaw (i : Instr) (s : State) : keepsTrainLaw s (exec i s) := by
  cases h : requestParts i with
  | some parts =>
    obtain ⟨act, hact, he⟩ := exec_request (code := parts.1) (payload := parts.2.1) (extra := parts.2.2) h s
    rw [he]
    exact transaction_keepsTrainLaw _ s fun hs => (requestAct_keepsLaw hact _).reply hs _
  | none =>
    cases i <;> simp only [requestParts, reduceCtorEq] at h
    case frameRejected bytes =>
      cases bytes with
      | nil => exact keepsTrainLaw_next id
      | cons code rest => exact transaction_keepsTrainLaw _ s fun hs => hs.takeFrame code _
    case windowTransaction =>
      refine keepsTrainLaw_next fun hs => ?_
      split
      · exact hs
      · exact hs.of_train ⟨rfl, rfl, rfl⟩
    case noByteTransaction => exact keepsTrainLaw_next id
    case powerOnReset | hardReset | rstHeldLow =>
      exact keepsTrainLaw_next fun _ => State.trainLaw_of_reset rfl rfl
    case rawInputChange i present => exact keepsTrainLaw_next fun hs => hs.rawInput i present
    case speedPairArrival ne no => exact event_keepsTrainLaw fun hs => hs.of_samples (s.speedPair_samples ne no)
    case groundSpeedArrival vg => exact event_keepsTrainLaw fun hs => hs.of_samples (s.groundSpeed_samples vg)
    case chargeArrival pc => exact event_keepsTrainLaw fun hs => hs.of_samples (s.chargeSet_samples pc)
    case hitchSetArrival p dl dr => exact event_keepsTrainLaw fun hs => hs.hitchSet p dl dr
    case pedalSetArrival bl br => exact event_keepsTrainLaw fun hs => hs.pedalSet bl br
    case lineArrival pt => exact event_keepsTrainLaw fun hs => hs.lineSet pt
    case debounceTimerExpiry i => exact event_keepsTrainLaw fun hs => hs.debounceExpiry i
    case pendingTimerExpiry p => exact event_keepsTrainLaw fun hs => hs.pendingExpiry p
    case seatTimerExpiry => exact event_keepsTrainLaw fun hs => hs.seatExpiry
    case supplyWaitTimerExpiry =>
      exact event_keepsTrainLaw fun hs => hs.phaseExpiry (fun r => hs.of_train (s.noSupply_train r)) _
    case fillTimerExpiry => exact event_keepsTrainLaw fun hs => hs.phaseExpiry hs.startHandover _
    case handoverTimerExpiry => exact event_keepsTrainLaw fun hs => hs.phaseExpiry hs.startConfirm _
    case confirmTimerExpiry =>
      exact event_keepsTrainLaw fun hs => hs.phaseExpiry (fun r => hs.of_train (s.confirmExpired_train r)) _
    case retireWatch =>
      refine event_keepsTrainLaw fun hs => ?_
      split
      · exact hs.retireWatch
      · exact hs
    case startUpWindowClose => exact event_keepsTrainLaw fun hs => hs.of_train ⟨rfl, rfl, rfl⟩
    all_goals exact event_keepsTrainLaw fun hs => hs.of_train (by simp)

/-- Settles O56: a command at the front of the queue, the timer that is due, or one millisecond. -/
theorem everyStepKeepsTheTrailerLaw : Obligations.EveryStepKeepsTheTrailerLaw := by
  intro s t trailer labels hstep
  rw [← State.trainLaw_iff]
  have hs := s.trainLaw_iff.mpr ⟨trailer, labels⟩
  unfold step at hstep
  split at hstep
  · unfold idle at hstep
    split at hstep
    · exact keepsTrainLaw_next id t hstep hs
    · split at hstep
      · exact exec_keepsTrainLaw _ s t hstep hs
      · exact keepsTrainLaw_next (fun h => h.tick) t hstep hs
  next i rest _ =>
    exact exec_keepsTrainLaw i _ t hstep (hs.of_train ⟨rfl, rfl, rfl⟩)

end Sys2Proof.Machine

namespace Sys2Proof.Machine

/-! ## Field sets -/

theorem clamp_zero (hi x : Nat) : clamp 0 hi x = min hi x := by rw [clamp_eq (Nat.zero_le hi), Nat.zero_max]

/-- A byte clamped from 1 to 255 is only kept from 0. -/
theorem clamp_byte (x : Byte) : clamp 1 255 x.toNat = max 1 x.toNat := by
  have := x.isLt
  rw [clamp_eq (by omega), Nat.min_eq_right (by omega)]

/-- The lower limit an implement is given lies below its upper one. -/
theorem clampImplement_pmin_le (pmax pmin : Nat) : clamp 0 (clamp 100 1000 pmax - 100) pmin ≤ clamp 100 1000 pmax := by
  rw [clamp_zero]
  omega

/-- Settles O15: each field's clamp is the nearer end of its range. -/
theorem fieldSetsAreClamped : Obligations.FieldSetsAreClamped := by
  refine ⟨fun pmax pmin ps db kq drop sl draft => ⟨_, rfl, ?_⟩, fun m gt pld pas => ?_, fun _ _ _ _ _ _ _ _ => rfl,
    fun _ _ _ _ => rfl⟩
  · refine ⟨clamp_eq (by omega) _, clamp_zero _ _, clamp_eq (clampImplement_pmin_le _ _) _, clamp_zero _ _,
      clamp_byte kq, clamp_eq (by omega) _, clamp_zero _ _, ?_, ?_⟩
    · rintro rfl
      rfl
    · rintro d rfl
      simp [clampImplement, clamp_zero, clamp_byte]
  · have gain : min 255 gt.toNat = gt.toNat := by have := gt.isLt; omega
    cases pas <;> simp [trailerOf, clampTrailer, clamp_eq, gain]

/-! ## ATTACH -/

/-! ### The handle counter -/

/-- A command that leaves the handle counter alone. -/
def keepsCounter (s : State) (o : Host.Outcome State Fault Refusal) : Prop :=
  ∀ t, o = .next t → t.cpt.counter = s.cpt.counter

theorem keepsCounter_next {s t : State} (h : t.cpt.counter = s.cpt.counter) : keepsCounter s (.next t) := by
  rintro _ ⟨⟩
  exact h

theorem event_keepsCounter {f : State → State} {s : State} (h : (f s).cpt.counter = s.cpt.counter) :
    keepsCounter s (event f s) := by
  refine keepsCounter_next ?_
  split
  · rfl
  · simpa [State.ordered] using h

/-- A request keeps the counter where its block's answer does. -/
theorem request_keepsCounter {code : Byte} {n extra : Nat} {act : State → Answer} {s : State} (hs : s.listens)
    (h : ∀ s, (act s).relates (fun s t => t.cpt.counter = s.cpt.counter) s) :
    keepsCounter s (request code n extra act s) := by
  have answer := h (s.settleReply (n + 3 + extra))
  cases ha : act (s.settleReply (n + 3 + extra)) with
  | refused status =>
    rw [request_refused hs ha]
    exact keepsCounter_next rfl
  | ok t p =>
    obtain ⟨u, hu, _, _, -, rfl⟩ := request_sameButOrder hs ha
    rw [ha] at answer
    rw [hu]
    exact keepsCounter_next answer

/-- A change of the table moves the counter only where the new table does. -/
theorem State.commit_counter (s : State) (c : Coupling) (reports : List CplReport) :
    (s.commit c reports).cpt.counter = c.counter := by simp

theorem actAmend_counter (handle : Byte) (fields : FieldSet) (s : State) :
    (actAmend handle fields s).relates (fun s t => t.cpt.counter = s.cpt.counter) s := by
  unfold actAmend
  split
  · trivial
  · split
    · trivial
    · unfold amendImplement
      split <;> simp
  all_goals
    split
    · trivial
    · unfold amendTrailer
      split
      · trivial
      · split <;> simp

theorem retireTrailer_counter {s : State} {r : TrailerRecord} {p : Point} {put : Option TrailerRecord → Coupling}
    (h : ∀ e, (put e).counter = s.cpt.counter) :
    (retireTrailer r p put s).relates (fun s t => t.cpt.counter = s.cpt.counter) s := by
  unfold retireTrailer
  split <;> simp [h]

theorem actRetire_counter (handle : Byte) (s : State) :
    (actRetire handle s).relates (fun s t => t.cpt.counter = s.cpt.counter) s := by
  unfold actRetire
  split
  · trivial
  · split
    · trivial
    · simp [retireImplement, State.removeImplement]
  · split
    · trivial
    · split
      · trivial
      · exact retireTrailer_counter fun _ => rfl
  · split
    · trivial
    · exact retireTrailer_counter fun _ => rfl

theorem restoreTrailer_counter {s : State} {r : TrailerRecord} {put : TrailerRecord → Coupling}
    (h : ∀ r, (put r).counter = s.cpt.counter) :
    (restoreTrailer r put s).relates (fun s t => t.cpt.counter = s.cpt.counter) s := by
  unfold restoreTrailer
  split <;> simp [h]

theorem actRestore_counter (handle : Byte) (s : State) :
    (actRestore handle s).relates (fun s t => t.cpt.counter = s.cpt.counter) s := by
  unfold actRestore
  split
  · trivial
  · trivial
  all_goals
    split
    · trivial
    · refine restoreTrailer_counter fun _ => ?_
      rfl

theorem State.applyImplementCopy_counter (s : State) : s.applyImplementCopy.cpt.counter = s.cpt.counter := by
  unfold State.applyImplementCopy
  split
  · rfl
  · split <;> simp

theorem State.acceptImplement_counter (s : State) (valid : Bool) :
    (s.acceptImplement valid).cpt.counter = s.cpt.counter := by
  unfold State.acceptImplement
  split
  · rfl
  · split
    · rfl
    · split <;> simp

theorem State.hitchSet_counter (s : State) (p dl dr : Sample) : (s.hitchSet p dl dr).cpt.counter = s.cpt.counter := by
  simp [State.hitchSet, State.applyImplementCopy_counter, State.acceptImplement_counter, State.sampleHitch]

theorem State.pedalSet_cpt (s : State) (bl br : Sample) :
    (s.pedalSet bl br).cpt = (s.samplePedals bl br).applyTrailerCopies.cpt := by
  rw [State.pedalSet_eq, (State.pedalEpisode_train _).1, (State.demandAndFront_frame _).cpt]
  rfl

theorem State.retireWatch_counter (s : State) : s.retireWatch.cpt.counter = s.cpt.counter := by
  unfold State.retireWatch
  split <;> simp

theorem State.lineSet_counter (s : State) (pt : Sample) : (s.lineSet pt).cpt.counter = s.cpt.counter := by
  rw [State.lineSet_eq]
  split <;> simp [State.retireWatch_counter, State.sampleLine]

theorem State.detectEdge_counter (s : State) : s.detectEdge.cpt.counter = s.cpt.counter := by
  unfold State.detectEdge
  split <;> simp

theorem State.debounceExpiry_counter (s : State) (i : DInput) : (s.debounceExpiry i).cpt.counter = s.cpt.counter := by
  unfold State.debounceExpiry
  split
  · rfl
  · cases i
    case park => simp [State.debouncedEdge, State.deliverEdge]
    case detA | detB => simp [State.debouncedEdge, State.deliverEdge, State.detectEdge_counter]
    case seat => simp only [State.debouncedEdge, State.deliverEdge, State.seatEdge]; split <;> simp
    case extUp | extDown => simp only [State.debouncedEdge, State.deliverEdge, State.buttonEdge]; split <;> simp

theorem State.pendingExpiry_counter (s : State) (p : Point) : (s.pendingExpiry p).cpt.counter = s.cpt.counter := by
  cases p with
  | towthru => rfl
  | hitch =>
    simp only [State.pendingExpiry, State.hitchTimeout]
    split
    · rfl
    · split <;> simp [State.removeImplement]
  | drawbar =>
    simp only [State.pendingExpiry, State.drawbarTimeout]
    split
    · rfl
    · split <;> simp

theorem State.phaseExpiry_counter {s : State} {act : State → ShiftRecord → State}
    (h : ∀ r, (act s r).cpt = s.cpt) (e : EngineState) : (s.phaseExpiry e act).cpt.counter = s.cpt.counter := by
  unfold State.phaseExpiry
  split
  · split <;> simp [h]
  · rfl

/-- A request other than ATTACH and SOFT_RESET keeps the counter. -/
theorem requestAct_counter {i : Instr} {act : State → Answer} (h : requestAct i = some act)
    (ha : ∀ extra point tag fields, i ≠ .attach extra point tag fields) (hr : ∀ extra, i ≠ .softReset extra)
    (s : State) : (act s).relates (fun s t => t.cpt.counter = s.cpt.counter) s := by
  cases hi : writesTable i with
  | false =>
    have keeps := requestAct_keepsTrain h hi s
    cases he : act s with
    | refused => trivial
    | ok t p =>
      rw [he] at keeps
      exact congrArg Coupling.counter keeps.1
  | true =>
    cases i <;> simp only [writesTable, reduceCtorEq] at hi <;>
      simp only [requestAct, Option.some.injEq] at h <;> subst h
    case attach => exact absurd rfl (ha _ _ _ _)
    case amend => exact actAmend_counter _ _ s
    case retire => exact actRetire_counter _ s
    case restore => exact actRestore_counter _ s
    case softReset => exact absurd rfl (hr _)

/-- A command that is neither an ATTACH, nor a reset, nor a frame that may spell one, keeps the counter. -/
theorem exec_keepsCounter {i : Instr} {s : State} (hs : s.listens)
    (hi : match i with
      | .attach _ _ _ _ | .frameRejected _ | .powerOnReset _ _ | .hardReset _ _ | .rstHeldLow | .softReset _ => False
      | _ => True) : keepsCounter s (exec i s) := by
  cases h : requestParts i with
  | some parts =>
    obtain ⟨act, hact, he⟩ := exec_request (code := parts.1) (payload := parts.2.1) (extra := parts.2.2) h s
    rw [he]
    refine request_keepsCounter hs (requestAct_counter hact ?_ ?_)
    · rintro _ _ _ _ rfl
      exact hi
    · rintro _ rfl
      exact hi
  | none =>
    cases i <;> simp only [requestParts, reduceCtorEq] at h
    case frameRejected | powerOnReset | hardReset | rstHeldLow => exact hi.elim
    case windowTransaction =>
      refine keepsCounter_next ?_
      split <;> rfl
    case noByteTransaction | rawInputChange => exact keepsCounter_next rfl
    case speedPairArrival ne no => exact event_keepsCounter (by rw [(s.speedPair_samples ne no).1])
    case groundSpeedArrival vg => exact event_keepsCounter (by rw [(s.groundSpeed_samples vg).1])
    case chargeArrival pc => exact event_keepsCounter (by rw [(s.chargeSet_samples pc).1])
    case hitchSetArrival p dl dr => exact event_keepsCounter (s.hitchSet_counter p dl dr)
    case pedalSetArrival bl br => exact event_keepsCounter (by rw [s.pedalSet_cpt]; exact State.commit_counter _ _ _)
    case lineArrival pt => exact event_keepsCounter (s.lineSet_counter pt)
    case debounceTimerExpiry i => exact event_keepsCounter (s.debounceExpiry_counter i)
    case pendingTimerExpiry p => exact event_keepsCounter (s.pendingExpiry_counter p)
    case seatTimerExpiry =>
      refine event_keepsCounter ?_
      unfold State.seatExpiry
      split <;> simp
    case supplyWaitTimerExpiry => exact event_keepsCounter (State.phaseExpiry_counter (by simp) _)
    case fillTimerExpiry => exact event_keepsCounter (State.phaseExpiry_counter (by simp) _)
    case handoverTimerExpiry => exact event_keepsCounter (State.phaseExpiry_counter (by simp) _)
    case confirmTimerExpiry => exact event_keepsCounter (State.phaseExpiry_counter (by simp) _)
    case retireWatch =>
      refine event_keepsCounter ?_
      split
      · exact s.retireWatch_counter
      · rfl
    case startUpWindowClose => exact event_keepsCounter rfl
    all_goals exact event_keepsCounter (by simp)

theorem State.attachCheck_ne_ok {s : State} {p : Point} {tag : Nat} {status : Status}
    (h : s.attachCheck p tag = some status) : status ≠ .ok := by
  unfold State.attachCheck at h
  rintro rfl
  split_ifs at h <;> cases h

/-- ATTACH at a point is refused, or carries the free handle and moves the counter past it (R4, R15). -/
theorem attachAt_cases {p : Point} {tag : Nat} {steps : State → State} {s : State} (first : Nat)
    (h : (steps s).cpt.counter = nextHandle s.cpt.freeHandle) :
    (∃ status, attachAt p tag steps first s = .refused status ∧ status ≠ .ok) ∨
      ∃ t b, attachAt p tag steps first s = .ok t [byte s.cpt.freeHandle, b] ∧
        t.cpt.counter = nextHandle s.cpt.freeHandle := by
  unfold attachAt
  split
  next status hc => exact .inl ⟨status, rfl, State.attachCheck_ne_ok hc⟩
  · exact .inr ⟨_, _, rfl, h⟩

theorem actAttach_cases (point : Byte) (tag : Half) (fields : FieldSet) (s : State) :
    (∃ status, actAttach point tag fields s = .refused status ∧ status ≠ .ok) ∨
      ∃ t b, actAttach point tag fields s = .ok t [byte s.cpt.freeHandle, b] ∧
        t.cpt.counter = nextHandle s.cpt.freeHandle := by
  unfold actAttach
  split
  · exact attachAt_cases _ (by simp [State.attachImplement, Coupling.assigned])
  · exact attachAt_cases _ (by simp [State.attachDrawbar, Coupling.assigned])
  · exact attachAt_cases _ (by simp [State.attachTowthru, Coupling.assigned])
  · exact .inl ⟨_, rfl, nofun⟩

/-- What ATTACH answers the host, and what it does to the counter. -/
theorem exec_attach_cases {extra : Nat} {point : Byte} {tag : Half} {fields : FieldSet} {s t : State}
    (hs : s.listens) (he : exec (.attach extra point tag fields) s = .next t) :
    (∃ status, status ≠ .ok ∧ t.rlk.pending = some ⟨0x10, status, []⟩ ∧ t.cpt.counter = s.cpt.counter) ∨
      ∃ b, t.rlk.pending = some ⟨0x10, .ok, [byte s.cpt.freeHandle, b]⟩ ∧
        t.cpt.counter = nextHandle s.cpt.freeHandle := by
  rw [exec_attach] at he
  rcases actAttach_cases point tag fields (s.settleReply (3 + fieldSetLength fields + 3 + extra)) with
    ⟨status, ha, hne⟩ | ⟨u, b, ha, counter⟩
  · rw [request_refused hs ha] at he
    obtain rfl := Host.Outcome.next.inj he
    exact .inl ⟨status, hne, rfl, rfl⟩
  · obtain ⟨v, hv, _, _, -, rfl⟩ := request_sameButOrder hs ha
    obtain rfl := Host.Outcome.next.inj (hv.symm.trans he)
    exact .inr ⟨b, rfl, counter⟩

/-- Settles O17. -/
theorem handlesMoveForward : Obligations.HandlesMoveForward := by
  refine ⟨fun c low high free => ?_, fun extra point tag fields s t payload hs he hp => ?_,
    fun extra point tag fields s t status hs he hp => ?_, ⟨rfl, fun h lt => if_neg (by omega)⟩,
    fun c s t hs he => ?_⟩
  · obtain ⟨k, hk, eq, held, skipped⟩ := Coupling.freeHandle_spec low high (Coupling.labels_length free)
    refine ⟨k, hk, eq, fun x hx h => ?_, fun j hj => (c.holds_iff _).mp (skipped j hj),
      Coupling.freeHandle_range low high⟩
    rw [(c.holds_iff _).mpr ⟨x, hx, h⟩] at held
    cases held
  · rcases exec_attach_cases hs he with ⟨status, hne, reply, -⟩ | ⟨b, reply, counter⟩
    · have same := Option.some.inj (reply.symm.trans hp)
      exact absurd (congrArg Reply.status same) hne
    · obtain rfl : [byte s.cpt.freeHandle, b] = payload :=
        congrArg Reply.payload (Option.some.inj (reply.symm.trans hp))
      exact ⟨counter, rfl⟩
  · rcases exec_attach_cases hs he with ⟨_, -, -, counter⟩ | ⟨b, reply, -⟩
    · exact counter
    · exact nomatch congrArg Reply.payload (Option.some.inj (reply.symm.trans hp))
  · cases c
    case attach | frameRejected => trivial
    case powerOnReset | hardReset | rstHeldLow =>
      obtain rfl := Host.Outcome.next.inj he
      rfl
    case softReset extra =>
      obtain ⟨u, hu, _, _, -, rfl⟩ := request_sameButOrder (act := actSoftReset) (code := 0x08) (n := 0)
        (extra := extra) hs rfl
      obtain rfl := Host.Outcome.next.inj (hu.symm.trans he)
      rfl
    all_goals exact exec_keepsCounter hs trivial t he

end Sys2Proof.Machine

namespace Sys2Proof.Machine

/-! ### The checks and the acceptance -/

/-- A refused check of a point whose kind the field set fits is the answer of ATTACH (R14). -/
theorem attachAt_refused {p : Point} {tag first : Nat} {steps : State → State} {s : State} {status : Status}
    (h : s.attachCheck p tag = some status) : attachAt p tag steps first s = .refused status := by
  simp [attachAt, h]

theorem attachAt_ok {p : Point} {tag first : Nat} {steps : State → State} {s : State}
    (h : s.attachCheck p tag = none) :
    attachAt p tag steps first s = .ok (steps s) [byte s.cpt.freeHandle, byte first] := by
  simp [attachAt, h]

theorem actAttach_hitch (tag : Half) {fields : FieldSet} {f : ImplementFields} (h : implementOf fields = some f) :
    actAttach 1#8 tag fields = attachAt .hitch tag.toNat (fun s => s.attachImplement tag.toNat f) 1 := by
  funext s
  simp [actAttach, pointOfCode, h]

theorem actAttach_drawbar (tag : Half) {fields : FieldSet} {f : TrailerFields} (h : trailerOf fields = some f)
    (s : State) :
    actAttach 2#8 tag fields s =
      attachAt .drawbar tag.toNat (fun s => s.attachDrawbar tag.toNat f) s.drawbarFirst.code s := by
  simp [actAttach, pointOfCode, h]

theorem actAttach_towthru (tag : Half) {fields : FieldSet} {f : TrailerFields} (h : trailerOf fields = some f) :
    actAttach 3#8 tag fields = attachAt .towthru tag.toNat (fun s => s.attachTowthru tag.toNat f) 2 := by
  funext s
  simp [actAttach, pointOfCode, h]

/-- With its entry free, TOWTHRU is refused where no lead is in use (R14). -/
theorem State.attachCheck_noLead {s : State} {tag : Nat} (free : s.cpt.inUse .towthru = false)
    (h : ¬ ∃ d, s.cpt.drawbar = some d ∧ (d.state = .active ∨ d.state = .degraded)) :
    s.attachCheck .towthru tag = some .noLead := by
  unfold State.attachCheck
  cases hd : s.cpt.drawbar with
  | none => simp [free]
  | some d =>
    have leads : ¬ (d.state = .active ∨ d.state = .degraded) := fun leads => h ⟨d, hd, leads⟩
    simp [free, not_or.mp leads]

theorem pointOfCode_eq_some {n : Nat} {p : Point} (h : pointOfCode n = some p) : n = pointCode p := by
  unfold pointOfCode at h
  split at h <;> cases h <;> rfl

theorem point_eq_byte {b : Byte} {p : Point} (h : pointOfCode b.toNat = some p) : b = byte (pointCode p) := by
  apply BitVec.eq_of_toNat_eq
  rw [pointOfCode_eq_some h]
  cases p <;> rfl

/-- A point code the spec does not list, or a field set of the other kind, is refused RANGE. -/
theorem actAttach_range {point : Byte} {tag : Half} {fields : FieldSet}
    (h : ¬ ((point = 1#8 ∧ (implementOf fields).isSome = true) ∨
      ((point = 2#8 ∨ point = 3#8) ∧ (trailerOf fields).isSome = true))) (s : State) :
    actAttach point tag fields s = .refused .range := by
  unfold actAttach
  split
  next f hp hf => exact absurd (.inl ⟨point_eq_byte hp, by rw [hf]; rfl⟩) h
  next f hp hf => exact absurd (.inr ⟨.inl (point_eq_byte hp), by rw [hf]; rfl⟩) h
  next f hp hf => exact absurd (.inr ⟨.inr (point_eq_byte hp), by rw [hf]; rfl⟩) h
  · rfl

/-- At a point the field set fits, ATTACH answers what the checks refuse. -/
theorem actAttach_refused {point : Byte} {tag : Half} {fields : FieldSet}
    (h : (point = 1#8 ∧ (implementOf fields).isSome = true) ∨
      ((point = 2#8 ∨ point = 3#8) ∧ (trailerOf fields).isSome = true)) :
    ∃ p, point = byte (pointCode p) ∧ ∀ (s : State) (status : Status), s.attachCheck p tag.toNat = some status →
      actAttach point tag fields s = .refused status := by
  rcases h with ⟨rfl, fits⟩ | ⟨rfl | rfl, fits⟩ <;> obtain ⟨f, hf⟩ := Option.isSome_iff_exists.mp fits
  · exact ⟨.hitch, rfl, fun s status h => by rw [actAttach_hitch tag hf]; exact attachAt_refused h⟩
  · exact ⟨.drawbar, rfl, fun s status h => by rw [actAttach_drawbar tag hf]; exact attachAt_refused h⟩
  · exact ⟨.towthru, rfl, fun s status h => by rw [actAttach_towthru tag hf]; exact attachAt_refused h⟩

/-- Settles O18. -/
theorem attachRefusesByTheFirstFailedCheck : Obligations.AttachRefusesByTheFirstFailedCheck := by
  intro extra point tag fields s hs answers fits occupied lead
  have refused (status : Status)
      (h : actAttach point tag fields (s.settleReply (3 + fieldSetLength fields + 3 + extra)) = .refused status) :
      answers status := request_refused hs h
  refine ⟨fun h => refused _ (actAttach_range h _), fun h => ?_, fun h => ?_, fun h => ?_, fun h => ?_⟩
  all_goals
    obtain ⟨p, rfl, check⟩ := actAttach_refused (tag := tag) h
    have used : occupied ↔ s.cpt.inUse p = true := by
      cases p <;> simp [occupied, byte, pointCode, Coupling.inUse, Option.isSome_iff_ne_none]
    rw [used]
  · intro taken
    refine refused _ (check _ _ ?_)
    simp [State.attachCheck, taken]
  · intro free here noLead
    obtain rfl : p = .towthru := by cases p <;> simp_all [byte, pointCode]
    exact refused _ (check _ _ (State.attachCheck_noLead (by simpa using free) noLead))
  · intro free here locked
    obtain rfl : p = .hitch := by cases p <;> simp_all [byte, pointCode]
    refine refused _ (check _ _ ?_)
    simp only [Bool.not_eq_true] at free
    simp [State.attachCheck, free, locked]
  · intro free leads unlocked tagged carried
    refine refused _ (check _ _ ?_)
    have labelled : s.cpt.carries tag.toNat = true := (Coupling.carries_iff _ _).mpr carried
    have nonzero : tag.toNat ≠ 0 := fun h => tagged (BitVec.eq_of_toNat_eq h)
    simp only [Bool.not_eq_true] at free
    cases p with
    | hitch => simp [State.attachCheck, free, labelled, nonzero, unlocked (by rfl)]
    | drawbar => simp [State.attachCheck, free, labelled, nonzero]
    | towthru =>
      obtain ⟨d, hd, state⟩ := leads (by rfl)
      rcases state with state | state <;> simp [State.attachCheck, free, labelled, nonzero, hd, state]

end Sys2Proof.Machine

namespace Sys2Proof.Machine

/-! ### An ATTACH that passes its checks -/

/-- The checks of ATTACH pass where none of their conditions holds (R14). -/
theorem State.attachCheck_eq_none {s : State} {p : Point} {tag : Nat} (free : s.cpt.inUse p = false)
    (leads : p = .towthru → ∃ d, s.cpt.drawbar = some d ∧ (d.state = .active ∨ d.state = .degraded))
    (unlocked : p = .hitch → s.htc.mode ≠ .locked) (fresh : tag = 0 ∨ s.cpt.carries tag = false) :
    s.attachCheck p tag = none := by
  have different : ¬ ((tag ≠ 0 && s.cpt.carries tag) = true) := by
    rcases fresh with h | h <;> simp [h]
  unfold State.attachCheck
  cases p with
  | hitch => simpa [free, unlocked rfl] using different
  | drawbar => simpa [free] using different
  | towthru =>
    obtain ⟨d, hd, state⟩ := leads rfl
    rcases state with state | state <;> simpa [free, hd, state] using different

/-- The counter after an ATTACH: it moves past the handle given, with 255 followed by 1 (R4). -/
def Coupling.counterAfter (c : Coupling) : Nat := if c.freeHandle = 255 then 1 else c.freeHandle + 1

theorem Coupling.assigned_freeHandle {c : Coupling} (h : c.labelLaw) :
    c.assigned c.freeHandle = { c with counter := c.counterAfter } := by
  obtain ⟨-, -, -, low, high⟩ := h
  have range := Coupling.freeHandle_range low high
  have next : nextHandle c.freeHandle = c.counterAfter := by
    unfold nextHandle Coupling.counterAfter
    split_ifs <;> omega
  rw [Coupling.assigned, next]

theorem State.attachImplement_eq {s : State} (h : s.cpt.labelLaw) (tag : Nat) (f : ImplementFields) :
    s.attachImplement tag f =
      (s.commit { s.cpt with hitch := some ⟨s.cpt.freeHandle, tag, .pending 30000, f, none⟩
                             counter := s.cpt.counterAfter } []).limitsChanged := by
  simp [State.attachImplement, Coupling.assigned_freeHandle h, newImplement]

theorem newTrailer_attachReport (h tag : Nat) (st : TrailerState) (f : TrailerFields) (p : Point) :
    (newTrailer h tag st f).attachReport p = if st = .active then [⟨p, .accepted, h, tag, 2⟩] else [] := by
  by_cases active : st = .active <;>
    simp [TrailerRecord.attachReport, newTrailer, active, TrailerRecord.report, TrailerState.code]

theorem State.attachDrawbar_eq {s : State} (h : s.cpt.labelLaw) (tag : Nat) (f : TrailerFields) :
    s.attachDrawbar tag f =
      s.commit { s.cpt with drawbar := some ⟨s.cpt.freeHandle, tag, s.drawbarFirst, f, none⟩
                            counter := s.cpt.counterAfter }
        (if s.drawbarFirst = .active then [⟨.drawbar, .accepted, s.cpt.freeHandle, tag, 2⟩] else []) := by
  simp only [State.attachDrawbar, Coupling.assigned_freeHandle h, newTrailer_attachReport]
  rfl

theorem State.attachTowthru_eq {s : State} (h : s.cpt.labelLaw) (tag : Nat) (f : TrailerFields) :
    s.attachTowthru tag f =
      s.commit { s.cpt with towthru := some ⟨s.cpt.freeHandle, tag, .active, f, none⟩
                            counter := s.cpt.counterAfter }
        [⟨.towthru, .accepted, s.cpt.freeHandle, tag, 2⟩] := by
  simp only [State.attachTowthru, Coupling.assigned_freeHandle h, newTrailer_attachReport]
  rfl

/-- A request carried out, seen from the settled state. -/
theorem request_done {code : Byte} {n extra : Nat} {act : State → Answer} {s t : State} {payload : List Byte}
    (hs : s.listens) (ha : act (s.settled (n + 3 + extra)) = .ok t payload) :
    ∃ u, request code n extra act s = .next u ∧
      State.sameButOrder s.nts.notices.length (t.pend ⟨code, .ok, payload⟩) u :=
  request_sameButOrder hs (by rwa [State.settleReply_eq])

/-- Settles O19. -/
theorem attachPutsTheEntryInUse : Obligations.AttachPutsTheEntryInUse := by
  intro extra tag fields s hs labels fresh h k next
  have untagged : tag.toNat = 0 ∨ s.cpt.carries tag.toNat = false := by
    refine fresh.imp (fun ht => by rw [ht]; rfl) fun other => ?_
    rw [← Bool.not_eq_true, Coupling.carries_iff]
    exact fun ⟨x, hx, ht⟩ => other x hx ht
  refine ⟨fun f hf free unlocked => request_done hs ?_, ?_, fun f hf free leads => request_done hs ?_⟩
  · have check : k.attachCheck .hitch tag.toNat = none :=
      State.attachCheck_eq_none (by simp [k, State.settled, Coupling.inUse, free]) nofun (fun _ => unlocked) untagged
    refine ((congrFun (actAttach_hitch tag hf) k).trans (attachAt_ok check)).trans ?_
    rw [State.attachImplement_eq (s := k) labels]
    rfl
  · intro f hf free both
    have check : k.attachCheck .drawbar tag.toNat = none :=
      State.attachCheck_eq_none (by simp [k, State.settled, Coupling.inUse, free]) nofun nofun untagged
    have first : k.drawbarFirst = if both then .active else .pending 30000 := rfl
    refine request_done hs (((actAttach_drawbar tag hf k).trans (attachAt_ok check)).trans ?_)
    rw [State.attachDrawbar_eq (s := k) labels, first]
    cases both <;> rfl
  · have check : k.attachCheck .towthru tag.toNat = none :=
      State.attachCheck_eq_none (by simp [k, State.settled, Coupling.inUse, free]) (fun _ => leads) nofun untagged
    refine ((congrFun (actAttach_towthru tag hf) k).trans (attachAt_ok check)).trans ?_
    rw [State.attachTowthru_eq (s := k) labels]
    rfl

end Sys2Proof.Machine

namespace Sys2Proof.Machine

/-! ### The record a handle or a tag names -/

/-- The label of the record at a point. -/
def Coupling.labelAt (c : Coupling) (p : Point) : Option (Nat × Nat) :=
  match p with
  | .hitch => c.hitch.map ImplementRecord.label
  | .drawbar => c.drawbar.map TrailerRecord.label
  | .towthru => c.towthru.map TrailerRecord.label

theorem Coupling.labelAt_hitch {c : Coupling} {r : ImplementRecord} (h : c.hitch = some r) :
    c.labelAt .hitch = some (r.handle, r.tag) := by
  simp [labelAt, h, ImplementRecord.label]

theorem Coupling.labelAt_trailer {c : Coupling} {p : Point} {r : TrailerRecord} (h : c.trailer p = some r) :
    c.labelAt p = some (r.handle, r.tag) := by
  cases p <;> simp_all [labelAt, trailer, TrailerRecord.label]

theorem Coupling.labels_eq_labelAt (c : Coupling) :
    c.labels = [Point.hitch, .drawbar, .towthru].flatMap fun p => (c.labelAt p).toList := by
  simp [Coupling.labels_eq, Coupling.labelAt]

theorem Coupling.labelAt_mem {c : Coupling} {p : Point} {x : Nat × Nat} (h : c.labelAt p = some x) : x ∈ c.labels := by
  rw [Coupling.labels_eq_labelAt]
  cases p <;> simp [h]

theorem Coupling.exists_labelAt {c : Coupling} {x : Nat × Nat} (h : x ∈ c.labels) : ∃ p, c.labelAt p = some x := by
  rw [Coupling.labels_eq_labelAt] at h
  obtain ⟨p, -, hx⟩ := List.mem_flatMap.mp h
  exact ⟨p, Option.mem_toList.mp hx⟩

/-- Two records in use differ in what two labels in use cannot share. -/
theorem Coupling.labelAt_pairwise {c : Coupling} {R : Nat × Nat → Nat × Nat → Prop} (symm : ∀ x y, R x y → R y x)
    (h : c.labels.Pairwise R) {p q : Point} {x y : Nat × Nat} (hx : c.labelAt p = some x) (hy : c.labelAt q = some y)
    (hpq : p ≠ q) : R x y := by
  rw [Coupling.labels_eq_labelAt] at h
  simp only [List.flatMap_cons, List.flatMap_nil, List.append_nil, List.pairwise_append, List.mem_append] at h
  obtain ⟨-, ⟨-, -, dt⟩, ht⟩ := h
  have mem {p : Point} {x : Nat × Nat} (hx : c.labelAt p = some x) : x ∈ (c.labelAt p).toList := by simp [hx]
  cases p <;> cases q
  case hitch.drawbar => exact ht x (mem hx) y (.inl (mem hy))
  case hitch.towthru => exact ht x (mem hx) y (.inr (mem hy))
  case drawbar.towthru => exact dt x (mem hx) y (mem hy)
  case drawbar.hitch => exact symm _ _ (ht y (mem hy) x (.inl (mem hx)))
  case towthru.hitch => exact symm _ _ (ht y (mem hy) x (.inr (mem hx)))
  case towthru.drawbar => exact symm _ _ (dt y (mem hy) x (mem hx))
  all_goals exact absurd rfl hpq

theorem Coupling.labelLaw.handle_unique {c : Coupling} (h : c.labelLaw) {p q : Point} {x y : Nat × Nat}
    (hx : c.labelAt p = some x) (hy : c.labelAt q = some y) (same : x.1 = y.1) : p = q := by
  obtain ⟨-, handles, -, -, -⟩ := h
  by_contra hpq
  exact Coupling.labelAt_pairwise (R := fun x y => x.1 ≠ y.1) (fun _ _ => Ne.symm) (List.pairwise_map.mp handles) hx hy
    hpq same

theorem Coupling.labelLaw.tag_unique {c : Coupling} (h : c.labelLaw) {p q : Point} {x y : Nat × Nat}
    (hx : c.labelAt p = some x) (hy : c.labelAt q = some y) (tagged : x.2 ≠ 0) (same : x.2 = y.2) : p = q := by
  obtain ⟨-, -, tags, -, -⟩ := h
  by_contra hpq
  have apart := List.pairwise_map.mp (List.pairwise_filter.mp tags)
  refine Coupling.labelAt_pairwise (R := fun x y => x.2 ≠ 0 → y.2 ≠ 0 → x.2 ≠ y.2)
    (fun _ _ d hy hx => (d hx hy).symm) (apart.imp ?_) hx hy hpq tagged (same ▸ tagged) same
  intro a b d ha hb
  exact d (by simpa using ha) (by simpa using hb)

/-- The first point whose record's label is one asked for. -/
def Coupling.firstPoint (c : Coupling) (asked : Nat × Nat → Bool) : Option Point :=
  [Point.hitch, .drawbar, .towthru].find? fun p => (c.labelAt p).any asked

theorem Coupling.firstPoint_eq (c : Coupling) (asked : Nat × Nat → Bool) :
    c.firstPoint asked =
      if (c.labelAt .hitch).any asked then some .hitch
      else if (c.labelAt .drawbar).any asked then some .drawbar
      else if (c.labelAt .towthru).any asked then some .towthru
      else none := by
  simp only [Coupling.firstPoint, List.find?_cons, List.find?_nil]
  split <;> rename_i hitch <;> simp only [hitch, if_true, Bool.false_eq_true, if_false]
  split <;> rename_i drawbar <;> simp only [drawbar, if_true, Bool.false_eq_true, if_false]
  split <;> rename_i towthru <;> simp [towthru]

theorem Coupling.pointOf_eq (c : Coupling) (h : Nat) :
    c.pointOf h = if h = 0 then none else c.firstPoint fun x => decide (x.1 = h) := by
  rw [Coupling.firstPoint_eq]
  unfold Coupling.pointOf Coupling.labelAt
  cases c.hitch <;> cases c.drawbar <;> cases c.towthru <;> rfl

theorem Coupling.pointOfTag_eq (c : Coupling) (t : Nat) :
    c.pointOfTag t = if t = 0 then none else c.firstPoint fun x => decide (x.2 = t) := by
  rw [Coupling.firstPoint_eq]
  unfold Coupling.pointOfTag Coupling.labelAt
  cases c.hitch <;> cases c.drawbar <;> cases c.towthru <;> rfl

theorem Coupling.firstPoint_eq_none {c : Coupling} {asked : Nat × Nat → Bool} (h : ∀ x ∈ c.labels, asked x = false) :
    c.firstPoint asked = none := by
  refine List.find?_eq_none.mpr fun p _ => ?_
  cases hx : c.labelAt p with
  | none => simp
  | some x => simp [h x (Coupling.labelAt_mem hx)]

theorem Coupling.firstPoint_eq_some {c : Coupling} {asked : Nat × Nat → Bool} {p : Point} {x : Nat × Nat}
    (hx : c.labelAt p = some x) (ha : asked x = true)
    (unique : ∀ q y, c.labelAt q = some y → asked y = true → q = p) : c.firstPoint asked = some p := by
  have hit (q : Point) : (c.labelAt q).any asked = decide (q = p) := by
    rw [Bool.eq_iff_iff, decide_eq_true_iff]
    constructor
    · intro h
      cases hy : c.labelAt q with
      | none => rw [hy] at h; cases h
      | some y => exact unique q y hy (by simpa [hy] using h)
    · rintro rfl
      simp [hx, ha]
  unfold firstPoint
  simp only [hit]
  cases p <;> rfl

/-- A handle in use names its record's point. -/
theorem Coupling.labelLaw.pointOf {c : Coupling} (h : c.labelLaw) {p : Point} {x : Nat × Nat}
    (hx : c.labelAt p = some x) : c.pointOf x.1 = some p := by
  have nonzero : x.1 ≠ 0 := by
    obtain ⟨range, -⟩ := h
    have := range x (Coupling.labelAt_mem hx)
    omega
  rw [Coupling.pointOf_eq, if_neg nonzero]
  exact Coupling.firstPoint_eq_some hx (by simp) fun q y hy same =>
    h.handle_unique hy hx (by simpa using same)

theorem Coupling.pointOf_eq_none {c : Coupling} {h : Nat} (hn : ∀ x ∈ c.labels, x.1 ≠ h) : c.pointOf h = none := by
  rw [Coupling.pointOf_eq, Coupling.firstPoint_eq_none fun x hx => by simpa using hn x hx, ite_self]

/-- A tag in use names its record's point. -/
theorem Coupling.labelLaw.pointOfTag {c : Coupling} (h : c.labelLaw) {p : Point} {x : Nat × Nat}
    (hx : c.labelAt p = some x) (tagged : x.2 ≠ 0) : c.pointOfTag x.2 = some p := by
  rw [Coupling.pointOfTag_eq, if_neg tagged]
  refine Coupling.firstPoint_eq_some hx (by simp) fun q y hy same => ?_
  have same : y.2 = x.2 := by simpa using same
  exact h.tag_unique hy hx (same ▸ tagged) same

theorem Coupling.pointOfTag_eq_none {c : Coupling} {t : Nat} (hn : ∀ x ∈ c.labels, x.2 = t → t = 0) :
    c.pointOfTag t = none := by
  rw [Coupling.pointOfTag_eq]
  split
  next => rfl
  next nonzero => exact Coupling.firstPoint_eq_none fun x hx => by simpa using fun same => nonzero (hn x hx same)

end Sys2Proof.Machine

namespace Sys2Proof.Machine

/-! ### AMEND -/

theorem byte_of_toNat {n : Nat} {b : Byte} (h : n = b.toNat) : byte n = b := by
  subst h
  simp [byte]

theorem TrailerRecord.isRetiring_iff (r : TrailerRecord) : r.isRetiring = true ↔ ∃ back, r.state = .retiring back := by
  cases h : r.state <;> simp [isRetiring, h]

theorem TrailerRecord.amendBusy_iff (r : TrailerRecord) :
    r.amendBusy = true ↔ r.state = .lost ∨ ∃ back, r.state = .retiring back := by
  simp [amendBusy, isLost, TrailerRecord.isRetiring_iff]

theorem actAmend_notFound {handle : Byte} {s : State} (hp : s.cpt.pointOf handle.toNat = none) (fields : FieldSet) :
    actAmend handle fields s = .refused .notFound := by
  simp [actAmend, hp]

theorem actAmend_hitch {handle : Byte} {s : State} {r : ImplementRecord}
    (hp : s.cpt.pointOf handle.toNat = some .hitch) (hr : s.cpt.hitch = some r) (fields : FieldSet) :
    actAmend handle fields s = amendImplement r fields s := by
  simp [actAmend, hp, hr]

theorem actAmend_trailer {handle : Byte} {s : State} {p : Point} {r : TrailerRecord}
    (hp : s.cpt.pointOf handle.toNat = some p) (hr : s.cpt.trailer p = some r) (fields : FieldSet) :
    actAmend handle fields s =
      amendTrailer r fields fun r' => { s with cpt := s.cpt.withTrailer p (some r') } := by
  cases p with
  | hitch => cases hr
  | drawbar =>
    have hd : s.cpt.drawbar = some r := hr
    simp [actAmend, hp, hd, Coupling.withTrailer]
  | towthru =>
    have hd : s.cpt.towthru = some r := hr
    simp [actAmend, hp, hd, Coupling.withTrailer]

/-- A request that writes the table alone, raising no notice. -/
theorem request_table {code : Byte} {n extra : Nat} {act : State → Answer} {s : State} {c : Coupling}
    {payload : List Byte} (hs : s.listens)
    (ha : act (s.settleReply (n + 3 + extra)) = .ok { s.settleReply (n + 3 + extra) with cpt := c } payload) :
    request code n extra act s =
      .next (State.answered { s with cpt := c } (n + 3 + extra) ⟨code, .ok, payload⟩) := by
  rw [request_ok hs ha (by simp), State.settleReply_eq]
  rfl

/-- Settles O20. -/
theorem amendStagesACopy : Obligations.AmendStagesACopy := by
  intro extra handle fields s hs labels k refuses
  refine ⟨fun free => ?_, fun r hr held => ?_, ?_⟩
  · exact request_refused hs (actAmend_notFound (s := s.settleReply k) (Coupling.pointOf_eq_none free) fields)
  · have found : s.cpt.pointOf handle.toNat = some .hitch := held ▸ labels.pointOf (Coupling.labelAt_hitch hr)
    have amend := actAmend_hitch (s := s.settleReply k) found hr fields
    refine ⟨fun misfit => request_refused hs (amend.trans ?_), fun f fit => request_table hs (amend.trans ?_)⟩
    · simp [amendImplement, misfit]
    · simp only [amendImplement, fit, byte_of_toNat held]
      rfl
  · intro p r hr held busy
    have found : s.cpt.pointOf handle.toNat = some p := held ▸ labels.pointOf (Coupling.labelAt_trailer hr)
    have amend := actAmend_trailer (s := s.settleReply k) found hr fields
    refine ⟨fun misfit => request_refused hs (amend.trans ?_), fun fit taken => request_refused hs (amend.trans ?_),
      fun f fit free => request_table hs (amend.trans ?_)⟩
    · simp [amendTrailer, misfit]
    · obtain ⟨f, fit⟩ := Option.isSome_iff_exists.mp fit
      simp [amendTrailer, fit, (TrailerRecord.amendBusy_iff r).mpr taken]
    · have ready : ¬ r.amendBusy = true := fun h => free ((TrailerRecord.amendBusy_iff r).mp h)
      simp only [amendTrailer, fit, if_neg ready, byte_of_toNat held]
      rfl

/-! ### LOOKUP -/

theorem ImplementRecord.payload_eq (r : ImplementRecord) :
    r.payload = [byte r.handle, 1, byte (r.tag / 256), byte r.tag, if r.state = .active then 2 else 1,
      byte (bit r.staged.isSome + 2 * bit r.fields.draft.isSome), 0] ++ r.fields.bytes := by
  unfold ImplementRecord.payload
  cases r.state <;> rfl

theorem TrailerRecord.payload_eq (r : TrailerRecord) (p : Point) :
    r.payload p = [byte r.handle, byte (pointCode p), byte (r.tag / 256), byte r.tag, byte (stageCode (some r.stage)),
      byte (bit r.staged.isSome + 2 * bit r.fields.pas.isSome),
      match r.state with
      | .retiring .pending => 1
      | .retiring .active => 2
      | .retiring .degraded => 3
      | _ => 0] ++ r.fields.bytes := by
  unfold TrailerRecord.payload
  rw [← TrailerRecord.state_code]
  rcases r.state with _ | _ | _ | _ | (_ | _ | _) <;> rfl

theorem Coupling.payloadAt_hitch {c : Coupling} {r : ImplementRecord} (h : c.hitch = some r) :
    c.payloadAt .hitch = some r.payload := by
  simp [payloadAt, h]

theorem Coupling.payloadAt_trailer {c : Coupling} {p : Point} {r : TrailerRecord} (h : c.trailer p = some r) :
    c.payloadAt p = some (r.payload p) := by
  cases p <;> simp_all [payloadAt, trailer]

/-- LOOKUP's keys: a handle, a point, or a tag that is not 0 (R24). -/
def Picks (selector : Byte) (key : Half) (p : Point) (label : Nat × Nat) : Prop :=
  (selector = 1#8 ∧ key.toNat = label.1) ∨ (selector = 2#8 ∧ key.toNat = pointCode p) ∨
    (selector = 3#8 ∧ key ≠ 0#16 ∧ key.toNat = label.2)

theorem pointOfCode_pointCode (p : Point) : pointOfCode (pointCode p) = some p := by
  cases p <;> rfl

theorem Coupling.labelLaw.select {c : Coupling} (h : c.labelLaw) {p : Point} {x : Nat × Nat}
    (hx : c.labelAt p = some x) {selector : Byte} {key : Half} (hp : Picks selector key p x) :
    c.select selector.toNat key.toNat = some (some p) := by
  rcases hp with ⟨rfl, hk⟩ | ⟨rfl, hk⟩ | ⟨rfl, tagged, hk⟩
  · exact congrArg some (hk ▸ h.pointOf hx)
  · exact congrArg (Option.map some) (hk ▸ pointOfCode_pointCode p)
  · have nonzero : x.2 ≠ 0 := fun zero => tagged (BitVec.eq_of_toNat_eq (hk.trans zero))
    exact congrArg some (hk ▸ h.pointOfTag hx nonzero)

/-- A selector or a point outside the codes names no point (R24). -/
theorem Coupling.select_eq_none {c : Coupling} {selector : Byte} {key : Half}
    (h : (selector ≠ 1#8 ∧ selector ≠ 2#8 ∧ selector ≠ 3#8) ∨
      (selector = 2#8 ∧ key.toNat ≠ 1 ∧ key.toNat ≠ 2 ∧ key.toNat ≠ 3)) :
    c.select selector.toNat key.toNat = none := by
  rcases h with ⟨h1, h2, h3⟩ | ⟨rfl, k1, k2, k3⟩
  · have differs {n : Nat} (h : selector ≠ BitVec.ofNat 8 n) : selector.toNat ≠ n := by
      rintro rfl
      simp at h
    simp [Coupling.select, differs h1, differs h2, differs h3]
  · simp [Coupling.select, pointOfCode]

theorem Coupling.payloadAt_eq_none {c : Coupling} {p : Point} (h : c.labelAt p = none) : c.payloadAt p = none := by
  cases p <;> simp_all [labelAt, payloadAt]

/-- A key inside the codes that matches no record in use is answered NOT_FOUND (R24). -/
theorem actLookup_notFound {selector : Byte} {key : Half} {s : State}
    (inside : ¬ ((selector ≠ 1#8 ∧ selector ≠ 2#8 ∧ selector ≠ 3#8) ∨
      (selector = 2#8 ∧ key.toNat ≠ 1 ∧ key.toNat ≠ 2 ∧ key.toNat ≠ 3)))
    (unmatched : ∀ p x, s.cpt.labelAt p = some x → ¬ Picks selector key p x) :
    actLookup selector key s = .refused .notFound := by
  have codes : selector = 1#8 ∨ selector = 2#8 ∨ selector = 3#8 := by
    by_contra h
    exact inside (.inl (by simpa only [not_or] using h))
  rcases codes with rfl | rfl | rfl
  · have none_holds : s.cpt.pointOf key.toNat = none := Coupling.pointOf_eq_none fun x hx held => by
      obtain ⟨p, hp⟩ := Coupling.exists_labelAt hx
      exact unmatched p x hp (.inl ⟨rfl, held.symm⟩)
    simp [actLookup, Coupling.select, none_holds]
  · have point : ∃ p, key.toNat = pointCode p := by
      by_contra h
      simp only [not_exists] at h
      exact inside (.inr ⟨rfl, h .hitch, h .drawbar, h .towthru⟩)
    obtain ⟨p, hk⟩ := point
    have free : s.cpt.labelAt p = none :=
      Option.eq_none_iff_forall_ne_some.mpr fun x hx => unmatched p x hx (.inr (.inl ⟨rfl, hk⟩))
    simp [actLookup, Coupling.select, hk, pointOfCode_pointCode, Coupling.payloadAt_eq_none free]
  · have none_carries : s.cpt.pointOfTag key.toNat = none := Coupling.pointOfTag_eq_none fun x hx carried => by
      obtain ⟨p, hp⟩ := Coupling.exists_labelAt hx
      by_contra tagged
      exact unmatched p x hp (.inr (.inr ⟨rfl, fun zero => tagged (by rw [zero]; rfl), carried.symm⟩))
    simp [actLookup, Coupling.select, none_carries]

/-- A key that picks a record in use is answered with that record (R24). -/
theorem actLookup_found {selector : Byte} {key : Half} {s : State} {p : Point} {x : Nat × Nat} {payload : List Byte}
    (labels : s.cpt.labelLaw) (hx : s.cpt.labelAt p = some x) (hp : Picks selector key p x)
    (record : s.cpt.payloadAt p = some payload) : actLookup selector key s = .ok s payload := by
  simp [actLookup, labels.select hx hp, record]

/-- Settles O22. -/
theorem lookupReadsTheRecord : Obligations.LookupReadsTheRecord := by
  intro extra selector key s hs labels answers picks outside
  let k := s.settleReply (6 + extra)
  refine ⟨fun out => request_refused hs ?_, fun inside noHitch noTrailer => request_refused hs ?_,
    fun r hr picked => request_reads hs ?_, fun p r hr picked => request_reads hs ?_⟩
  · have none_named : k.cpt.select selector.toNat key.toNat = none := Coupling.select_eq_none out
    change actLookup selector key k = _
    simp [actLookup, none_named]
  · refine actLookup_notFound (s := k) inside fun p x hx picked => ?_
    cases p with
    | hitch =>
      obtain ⟨r, hr, rfl⟩ := Option.map_eq_some_iff.mp hx
      exact noHitch r hr picked
    | drawbar =>
      obtain ⟨r, hr, rfl⟩ := Option.map_eq_some_iff.mp hx
      exact noTrailer .drawbar r hr picked
    | towthru =>
      obtain ⟨r, hr, rfl⟩ := Option.map_eq_some_iff.mp hx
      exact noTrailer .towthru r hr picked
  · rw [← ImplementRecord.payload_eq]
    exact actLookup_found (s := k) labels (Coupling.labelAt_hitch hr) picked (Coupling.payloadAt_hitch hr)
  · have payload := (Coupling.payloadAt_trailer hr).trans (congrArg some (r.payload_eq p))
    exact actLookup_found (s := k) labels (Coupling.labelAt_trailer hr) picked payload

end Sys2Proof.Machine

namespace Sys2Proof.Machine

/-! ### RETIRE -/

theorem actRetire_notFound {handle : Byte} {s : State} (hp : s.cpt.pointOf handle.toNat = none) :
    actRetire handle s = .refused .notFound := by
  simp [actRetire, hp]

theorem actRetire_hitch {handle : Byte} {s : State} {r : ImplementRecord}
    (hp : s.cpt.pointOf handle.toNat = some .hitch) (hr : s.cpt.hitch = some r) :
    actRetire handle s = retireImplement r s := by
  simp [actRetire, hp, hr]

theorem actRetire_trailer {handle : Byte} {s : State} {p : Point} {r : TrailerRecord}
    (hp : s.cpt.pointOf handle.toNat = some p) (hr : s.cpt.trailer p = some r) :
    actRetire handle s =
      if p = .drawbar ∧ s.cpt.towthru ≠ none then .refused .dependent
      else retireTrailer r p (s.cpt.withTrailer p) s := by
  cases p with
  | hitch => cases hr
  | drawbar =>
    have hd : s.cpt.drawbar = some r := hr
    simp only [actRetire, hp, hd, Option.isSome_iff_ne_none, ne_eq, true_and]
    rfl
  | towthru =>
    have hd : s.cpt.towthru = some r := hr
    simp only [actRetire, hp, hd, reduceCtorEq, false_and, if_false]
    rfl

/-- RETIRE at the Hitch Controller holds the hitch from WORK and from a RETURN (R157). -/
theorem State.retiredHitch_eq (s : State) (m : HitchMode) :
    s.htc.mode = m → s.retiredHitch =
      match m with
      | .work => s.holdWith .retired
      | .travel .return _ _ => s.holdWith .retired
      | _ => s := by
  rintro rfl
  unfold State.retiredHitch
  rcases s.htc.mode with _ | _ | ⟨_ | _ | _, _, _⟩ | _ | _ <;> rfl

theorem State.quietLine_iff (s : State) :
    s.quietLine = true ↔ s.tbc.demand = 0 ∧ s.mfe.pt.state ≠ .failed ∧ s.mfe.pt.held ≤ 50 := by
  simp [quietLine, Chan.failed, and_assoc]

theorem TrailerRecord.isLost_iff (r : TrailerRecord) : r.isLost = true ↔ r.state = .lost := by
  simp [isLost]

theorem retireTrailer_removes {r : TrailerRecord} {s : State} (h : r.state = .lost ∨ s.quietLine = true) (p : Point)
    (put : Option TrailerRecord → Coupling) :
    retireTrailer r p put s = .ok (s.commit (put none) [r.removed p .retired]) [byte r.handle, 0] := by
  have now : (r.isLost || s.quietLine) = true := by simpa [TrailerRecord.isLost_iff] using h
  rw [retireTrailer, if_pos now]
  rfl

theorem retireTrailer_waits {r : TrailerRecord} {s : State} (lost : r.state ≠ .lost) (quiet : ¬ s.quietLine = true)
    (p : Point) (put : Option TrailerRecord → Coupling) :
    retireTrailer r p put s =
      .ok (s.commit (put (some { r with state := r.state.retired })) []) [byte r.handle, 5] := by
  have later : ¬ (r.isLost || s.quietLine) = true := by simp [TrailerRecord.isLost_iff, lost, quiet]
  have code : r.state.retired.code = 5 := by
    cases h : r.state with
    | lost => exact absurd h lost
    | pending | active | degraded | retiring => rfl
  simp only [retireTrailer, if_neg later, stateReply, code]
  rfl

/-! ### RESTORE -/

theorem actRestore_notFound {handle : Byte} {s : State} (hp : s.cpt.pointOf handle.toNat = none) :
    actRestore handle s = .refused .notFound := by
  simp [actRestore, hp]

theorem actRestore_hitch {handle : Byte} {s : State} (hp : s.cpt.pointOf handle.toNat = some .hitch) :
    actRestore handle s = .refused .notFound := by
  simp [actRestore, hp]

theorem actRestore_trailer {handle : Byte} {s : State} {p : Point} {r : TrailerRecord}
    (hp : s.cpt.pointOf handle.toNat = some p) (hr : s.cpt.trailer p = some r) :
    actRestore handle s = restoreTrailer r (fun r' => s.cpt.withTrailer p (some r')) s := by
  cases p with
  | hitch => cases hr
  | drawbar =>
    have hd : s.cpt.drawbar = some r := hr
    simp [actRestore, hp, hd, Coupling.withTrailer]
  | towthru =>
    have hd : s.cpt.towthru = some r := hr
    simp [actRestore, hp, hd, Coupling.withTrailer]

theorem restoreTrailer_notFound {r : TrailerRecord} (h : ∀ back, r.state ≠ .retiring back)
    (put : TrailerRecord → Coupling) (s : State) : restoreTrailer r put s = .refused .notFound := by
  unfold restoreTrailer
  split
  next b hb => exact absurd hb (h b)
  all_goals rfl

theorem restoreTrailer_retiring {r : TrailerRecord} {back : ReturnState} (h : r.state = .retiring back)
    (put : TrailerRecord → Coupling) (s : State) :
    restoreTrailer r put s =
      .ok (s.commit (put { r with state := back.restored }) []) [byte r.handle, byte back.restored.code] := by
  simp [restoreTrailer, h, stateReply]

/-- A handle names no record, the HITCH record or a trailer record. -/
theorem Coupling.pointOf_cases {c : Coupling} (labels : c.labelLaw) (h : Nat) :
    c.pointOf h = none ∨ c.pointOf h = some .hitch ∨
      ∃ p r, c.trailer p = some r ∧ r.handle = h ∧ c.pointOf h = some p := by
  by_cases free : ∀ x ∈ c.labels, x.1 ≠ h
  · exact .inl (Coupling.pointOf_eq_none free)
  · simp only [not_forall, not_not] at free
    obtain ⟨x, hx, rfl⟩ := free
    obtain ⟨p, hp⟩ := Coupling.exists_labelAt hx
    have found := labels.pointOf hp
    cases p with
    | hitch => exact .inr (.inl found)
    | drawbar =>
      obtain ⟨r, hr, rfl⟩ := Option.map_eq_some_iff.mp hp
      exact .inr (.inr ⟨.drawbar, r, hr, rfl, found⟩)
    | towthru =>
      obtain ⟨r, hr, rfl⟩ := Option.map_eq_some_iff.mp hp
      exact .inr (.inr ⟨.towthru, r, hr, rfl, found⟩)

/-- Settles O21. -/
theorem retireRemovesOrWaitsAndRestoreReturns : Obligations.RetireRemovesOrWaitsAndRestoreReturns := by
  refine ⟨fun extra handle s hs labels => ⟨fun free => ?_, ?_⟩, ?_,
    fun extra handle s hs labels => ⟨fun other => ?_, ?_⟩⟩
  · exact request_refused hs (actRetire_notFound (s := s.settleReply (4 + extra)) (Coupling.pointOf_eq_none free))
  · intro r hr held u v
    have found : s.cpt.pointOf handle.toNat = some .hitch := held ▸ labels.pointOf (Coupling.labelAt_hitch hr)
    have mode : u.htc.mode = s.htc.mode := State.commit_mode _ _ _
    have retired : u.retiredHitch = v := State.retiredHitch_eq u _ mode
    refine request_done hs ((actRetire_hitch (s := s.settled (4 + extra)) found hr).trans ?_)
    rw [← retired, ← byte_of_toNat held]
    rfl
  · intro extra handle p r s hs labels hr held quiet dependent k
    have found : s.cpt.pointOf handle.toNat = some p := held ▸ labels.pointOf (Coupling.labelAt_trailer hr)
    have retire := actRetire_trailer (s := k) found hr
    have line : k.quietLine = true ↔ quiet := State.quietLine_iff k
    refine ⟨fun dep => request_refused hs ?_, fun indep now => request_done hs ?_,
      fun indep lost noisy => ?_⟩
    · rw [State.settleReply_eq]
      exact retire.trans (if_pos dep)
    · refine retire.trans ((if_neg indep).trans ?_)
      rw [retireTrailer_removes (now.imp_right line.mpr), ← byte_of_toNat held]
      rfl
    · intro after
      have retired : r.state.retired = after := by
        unfold TrailerState.retired after
        cases r.state <;> rfl
      refine request_done hs (retire.trans ((if_neg indep).trans ?_))
      rw [retireTrailer_waits lost (mt line.mp noisy), retired, ← byte_of_toNat held]
      rfl
  · refine request_refused hs ?_
    rcases Coupling.pointOf_cases labels handle.toNat with found | found | ⟨p, r, hr, held, found⟩
    · exact actRestore_notFound (s := s.settleReply (4 + extra)) found
    · exact actRestore_hitch (s := s.settleReply (4 + extra)) found
    · exact (actRestore_trailer (s := s.settleReply (4 + extra)) found hr).trans
        (restoreTrailer_notFound (other p r hr held) _ _)
  · intro p r back hr held retiring after code
    have found : s.cpt.pointOf handle.toNat = some p := held ▸ labels.pointOf (Coupling.labelAt_trailer hr)
    have restored : back.restored = after := by cases back <;> rfl
    have answer : byte back.restored.code = code := by cases back <;> rfl
    refine request_done hs ((actRestore_trailer (s := s.settled (4 + extra)) found hr).trans ?_)
    rw [restoreTrailer_retiring retiring, ← restored, ← answer, ← byte_of_toNat held]
    rfl

end Sys2Proof.Machine

namespace Sys2Proof.Machine

/-! ### The pending timers -/

theorem event_same {f : State → State} {s : State} (h : s.heldInReset = false) (hf : f s = s) : event f s = .next s := by
  have short := event_short (f := f) h (by rw [hf]; omega)
  rwa [hf] at short

theorem State.hitchTimeout_pending {s : State} {r : ImplementRecord} {timer : Nat} (hr : s.cpt.hitch = some r)
    (hp : r.state = .pending timer) : s.hitchTimeout = (s.removeImplement r .timeout).limitsChanged := by
  simp [State.hitchTimeout, hr, hp]

theorem State.hitchTimeout_stopped {s : State} (h : ∀ r timer, s.cpt.hitch = some r → r.state ≠ .pending timer) :
    s.hitchTimeout = s := by
  unfold State.hitchTimeout
  split
  next => rfl
  next r hr =>
    split
    next => rfl
    next timer hp => exact absurd hp (h r timer hr)

theorem State.drawbarTimeout_pending {s : State} {r : TrailerRecord} {timer : Nat} (hr : s.cpt.drawbar = some r)
    (hp : r.state = .pending timer) :
    s.drawbarTimeout = s.commit { s.cpt with drawbar := none } [r.removed .drawbar .timeout] := by
  simp [State.drawbarTimeout, hr, hp]

theorem State.drawbarTimeout_stopped {s : State} (h : ∀ r timer, s.cpt.drawbar = some r → r.state ≠ .pending timer) :
    s.drawbarTimeout = s := by
  unfold State.drawbarTimeout
  split
  next => rfl
  next r hr =>
    split
    next timer hp => exact absurd hp (h r timer hr)
    all_goals rfl

/-- Settles O23. -/
theorem pendingTimeoutRemovesTheRecord : Obligations.PendingTimeoutRemovesTheRecord := by
  intro s hs
  refine ⟨fun r timer hr hp => ?_, fun r timer hr hp => ?_, fun h => event_same hs (State.hitchTimeout_stopped h),
    fun h => event_same hs (State.drawbarTimeout_stopped h), event_same hs rfl⟩
  · have done := event_sameButOrder (State.pendingExpiry .hitch) hs
    rwa [State.pendingExpiry, State.hitchTimeout_pending hr hp] at done
  · have done := event_sameButOrder (State.pendingExpiry .drawbar) hs
    rwa [State.pendingExpiry, State.drawbarTimeout_pending hr hp] at done

/-! ### Connector detect -/

theorem entryLost_eq (e : Option TrailerRecord) : entryLost e = decide (e.map TrailerRecord.stage = some .lost) := by
  cases e with
  | none => rfl
  | some r => cases h : r.state <;> simp [entryLost, TrailerRecord.isLost, TrailerRecord.stage, h]

/-- An edge takes a record into LOST where its stage becomes LOST and was not. -/
theorem enteredLost_eq (r : TrailerRecord) (e : Option TrailerRecord) :
    enteredLost r e = (decide (r.stage ≠ .lost) && decide (e.map TrailerRecord.stage = some .lost)) := by
  have before := entryLost_eq (some r)
  simp only [entryLost, Option.map_some, Option.some.injEq] at before
  rw [enteredLost, entryLost_eq, before]
  simp

/-- The TOWTHRU entry at an edge that may have taken its lead into LOST (R12, R13). -/
def followEdge (e : Option TrailerRecord) (lost a b : Bool) : EdgeResult :=
  match e with
  | none => ⟨none, []⟩
  | some q => q.towthruEdge lost (!a && !b)

theorem followEdge_stage (e : Option TrailerRecord) (lost a b : Bool) :
    (followEdge e lost a b).entry.map TrailerRecord.stage =
      (e.map fun q => (q, towthruTable q.stage lost a b)).bind fun x => x.2.1 := by
  cases e with
  | none => rfl
  | some q => exact (q.towthruEdge_isOf lost a b).stage

theorem followEdge_entry {q x : TrailerRecord} {lost a b : Bool} (h : (followEdge (some q) lost a b).entry = some x) :
    x = { q with state := x.state } ∧ (x.stage = q.stage → x = q) :=
  (q.towthruEdge_isOf lost a b).entry x h

theorem followEdge_reports (e : Option TrailerRecord) (lost a b : Bool) :
    (followEdge e lost a b).reports =
      (e.map fun q => (q, towthruTable q.stage lost a b)).toList.flatMap fun x =>
        x.2.2.toList.map fun o => ⟨.towthru, o, x.1.handle, x.1.tag, stageCode x.2.1⟩ := by
  cases e with
  | none => rfl
  | some q => exact (q.towthruEdge_isOf lost a b).reports.trans (by simp)

theorem State.detectEdge_none {s : State} (h : s.cpt.drawbar = none) : s.detectEdge = s := by
  simp [State.detectEdge, h]

theorem State.detectEdge_some {s : State} {r : TrailerRecord} {a b lost : Bool} (h : s.cpt.drawbar = some r)
    (ha : s.present .detA = a) (hb : s.present .detB = b) (hl : enteredLost r (r.drawbarEdge a b).entry = lost) :
    s.detectEdge =
      s.commit { s.cpt with drawbar := (r.drawbarEdge a b).entry, towthru := (followEdge s.cpt.towthru lost a b).entry }
        ((r.drawbarEdge a b).reports ++ (followEdge s.cpt.towthru lost a b).reports) := by
  subst ha hb hl
  simp only [State.detectEdge, h]
  rfl

theorem State.debounceExpiry_detect {i : DInput} {s : State} {c : Candidate} (hi : i = .detA ∨ i = .detB)
    (hc : (s.mfe.inputs.get i).candidate = some c) :
    s.debounceExpiry i = (s.settleInput i c.level).detectEdge.offer (.input i c.level) [byte (inputCode i)] := by
  rcases hi with rfl | rfl <;> simp [State.debounceExpiry, hc, State.debouncedEdge, State.deliverEdge]

/-- Settles O24. -/
theorem contactsMoveTheTrailerRecords : Obligations.ContactsMoveTheTrailerRecords := by
  intro i c s hi hs hc s1 a b
  have effect : s.debounceExpiry i = s1.detectEdge.offer (.input i c.level) [byte (inputCode i)] :=
    State.debounceExpiry_detect hi hc
  refine ⟨fun free => ?_, ?_⟩
  · have edge : s1.detectEdge = s1 := State.detectEdge_none free
    rw [edge] at effect
    refine (event_short hs ?_).trans (congrArg Host.Outcome.next effect)
    rw [effect]
    exact NoticeSet.offer_length _ _ _
  · intro r hr d lost w
    have lead := r.drawbarEdge_isOf a b
    have enters : enteredLost r (r.drawbarEdge a b).entry = lost := by
      rw [enteredLost_eq, lead.stage]
    have edge := State.detectEdge_some (s := s1) hr rfl rfl enters
    obtain ⟨t, done, same⟩ := event_sameButOrder (State.debounceExpiry i) hs
    refine ⟨{ s.cpt with drawbar := (r.drawbarEdge a b).entry, towthru := (followEdge s.cpt.towthru lost a b).entry },
      t, lead.stage, lead.entry, followEdge_stage _ _ _ _, fun q x hq hx => ?_, rfl, rfl, done, ?_⟩
    · exact followEdge_entry (hq ▸ hx)
    · rw [effect, edge, lead.reports, followEdge_reports] at same
      exact same

end Sys2Proof.Machine

namespace Sys2Proof.Machine

/-! ### The line arrival -/

/-- The channel's own step at a sample (R30, R31). -/
theorem Chan.sample_follows (hi : Nat) (x : Sample) (c : Chan) : Chan.follows hi x c (c.sample hi x) := by
  unfold Chan.follows Chan.sample
  cases x.valid with
  | true =>
    refine ⟨rfl, rfl, ?_⟩
    simp only [if_true, clampReading]
    split_ifs <;> omega
  | false =>
    cases h : c.state with
    | ok => simp
    | failed => simp [h]
    | stale =>
      by_cases few : c.run < 4
      · simp [few, Nat.le_of_lt_succ few]
      · simp [few, show ¬ c.run ≤ 3 by omega]

/-- The line's distance from the demand (R170). -/
def State.gap (s : State) : Nat := max s.mfe.pt.held s.tbc.demand - min s.mfe.pt.held s.tbc.demand

theorem State.lineGap_eq (s : State) : lineGap s.mfe.pt.held s.tbc.demand = s.gap := by
  unfold lineGap State.gap
  split_ifs <;> omega

/-- The fault run after a line sample (R170). -/
def State.faultRunAfter (s : State) : Nat :=
  if s.mfe.pt.state = .failed then s.tbc.faultRun
  else if 150 < s.gap then min 50 (s.tbc.faultRun + 1)
  else 0

/-- Whether a line sample begins a fault episode (R171). -/
def State.beginsFault (s : State) : Bool :=
  decide (s.mfe.pt.state ≠ .failed) && decide (150 < s.gap) &&
    decide (50 ≤ s.faultRunAfter) && !s.tbc.faultEpisode

/-- The state after a line sample's supervision, but for the notice (R170, R171). -/
def State.lineJudged (s : State) : State :=
  { s with tbc := { s.tbc with
      faultRun := s.faultRunAfter
      faultEpisode := if s.mfe.pt.state = .failed then s.tbc.faultEpisode
        else if 150 < s.gap then s.tbc.faultEpisode || s.beginsFault else false } }

theorem State.superviseLine_eq (s : State) :
    s.superviseLine = if s.beginsFault then s.lineJudged.offerLineFault else s.lineJudged := by
  unfold State.superviseLine
  rw [State.lineGap_eq]
  unfold State.lineJudged State.beginsFault State.faultRunAfter Chan.failed
  by_cases failed : s.mfe.pt.state = .failed
  · simp [failed]
  · by_cases wide : 150 < s.gap
    · cases episode : s.tbc.faultEpisode <;> by_cases full : 49 ≤ s.tbc.faultRun <;> simp [failed, wide, episode, full]
    · simp [failed, wide]

/-! ### The retire watch -/

/-- Every RETIRING record removed (R21). -/
def State.removeRetiring (s : State) : State :=
  s.commit
    { s.cpt with drawbar := s.cpt.drawbar.filter fun r => !r.isRetiring
                 towthru := s.cpt.towthru.filter fun r => !r.isRetiring }
    ((watchEntry .drawbar s.cpt.drawbar).reports ++ (watchEntry .towthru s.cpt.towthru).reports)

theorem watchEntry_reports (p : Point) (e : Option TrailerRecord) :
    (watchEntry p e).reports =
      match e with
      | some r => if r.isRetiring then [⟨p, .retired, r.handle, r.tag, 0⟩] else []
      | none => [] := by
  cases e with
  | none => rfl
  | some r => cases h : r.isRetiring <;> simp [watchEntry, h, TrailerRecord.removed, removedCode]

theorem State.retireWatch_eq (s : State) :
    s.retireWatch = if s.mfe.pt.held ≤ 50 ∧ s.tbc.demand = 0 then s.removeRetiring else s := by
  simp only [State.retireWatch, watchEntry_entry, Bool.and_eq_true, decide_eq_true_eq]
  rfl

/-- Settles O26. -/
theorem lineArrivalSupervisesAndRetires : Obligations.LineArrivalSupervisesAndRetires := by
  unfold Obligations.LineArrivalSupervisesAndRetires
  intro removes
  have watch : removes = State.removeRetiring := by
    funext u
    simp only [State.removeRetiring, watchEntry_reports]
    rfl
  rw [watch]
  refine ⟨fun pt s hs => ?_, fun s hs => ⟨fun ok low idle => ?_, fun other => event_same hs ?_⟩⟩
  · obtain ⟨t, done, same⟩ := event_sameButOrder (State.lineSet pt) hs
    refine ⟨s.mfe.pt.sample 1500 pt, t, Chan.sample_follows 1500 pt s.mfe.pt, done, ?_⟩
    intro gap run begins u v
    have supervised : (s.sampleLine pt).superviseLine = v := State.superviseLine_eq (s.sampleLine pt)
    obtain ⟨-, channels, demand⟩ := (s.sampleLine pt).superviseLine_demand
    rw [supervised] at channels demand
    have held : v.mfe.pt.held = (s.mfe.pt.sample 1500 pt).held := by rw [channels]; rfl
    have idle : v.tbc.demand = s.tbc.demand := demand
    rw [State.lineSet_eq, supervised, State.retireWatch_eq, held, idle] at same
    rwa [ite_and]
  · have done := event_sameButOrder (fun s => if s.mfe.pt.state = .ok then s.retireWatch else s) hs
    rwa [if_pos ok, State.retireWatch_eq, if_pos ⟨low, idle⟩] at done
  · split
    next ok =>
      rw [State.retireWatch_eq, if_neg]
      rintro ⟨low, idle⟩
      rcases other with h | h | h
      · exact h ok
      · omega
      · exact h idle
    · rfl

end Sys2Proof.Machine

namespace Sys2Proof.Machine

/-! ### What an event's state shows -/

theorem State.sameButOrder.cpt {n : Nat} {u t : State} (h : State.sameButOrder n u t) : t.cpt = u.cpt := by
  obtain ⟨_, _, -, rfl⟩ := h
  rfl

theorem State.sameButOrder.shows {n : Nat} {u t : State} (h : State.sameButOrder n u t) {r : Report} {d : List Byte}
    (hs : u.nts.shows r d) : t.nts.shows r d := by
  obtain ⟨fresh, _, perm, rfl⟩ := h
  obtain ⟨x, hx, hr⟩ := hs
  refine ⟨x, ?_, hr⟩
  have all : (u.nts.notices.take n ++ fresh).Perm u.nts.notices := by
    simpa using (List.perm_append_left_iff (u.nts.notices.take n)).mpr perm
  exact all.mem_iff.mpr hx

/-! ### The controller's notices at a hitch-set arrival -/

/-- At most one notice, of the source HITCH. -/
def NoticeSet.hitchOffer (n n' : NoticeSet) : Prop := n' = n ∨ ∃ o d, n' = n.offer (.hitch o) d

theorem NoticeSet.hitchOffer.shows {n n' : NoticeSet} (h : n.hitchOffer n') {r : Report} {d : List Byte}
    (hs : n.shows r d) (other : r.source ≠ .hitch) : n'.shows r d := by
  obtain rfl | ⟨o, d', rfl⟩ := h
  · exact hs
  · exact hs.offer (r' := .hitch o) other d'

theorem State.workArrival_hitchOffer (s : State) : s.nts.hitchOffer s.workArrival.nts := by
  unfold State.workArrival
  split
  · exact .inl rfl
  · simp only
    split
    · exact .inr ⟨_, _, rfl⟩
    · exact .inl rfl

theorem State.travelArrival_hitchOffer (s : State) (p : Purpose) (target timer : Nat) :
    s.nts.hitchOffer (s.travelArrival p target timer).nts := by
  unfold State.travelArrival
  simp only
  split_ifs
  · exact .inr ⟨_, _, rfl⟩
  · exact .inl rfl
  · exact .inl rfl

theorem State.manualArrival_hitchOffer (s : State) (d : ManualDir) : s.nts.hitchOffer (s.manualArrival d).nts := by
  unfold State.manualArrival
  split
  · exact .inr ⟨_, _, rfl⟩
  · cases d <;> simp only <;> split
    · exact .inr ⟨_, _, rfl⟩
    · exact .inl rfl
    · exact .inr ⟨_, _, rfl⟩
    · exact .inl rfl

theorem State.hitchArrival_hitchOffer (s : State) : s.nts.hitchOffer s.hitchArrival.nts := by
  unfold State.hitchArrival
  simp only
  split
  · exact .inr ⟨_, _, rfl⟩
  · split
    · exact State.workArrival_hitchOffer _
    · exact State.travelArrival_hitchOffer _ _ _ _
    · exact State.manualArrival_hitchOffer _ _
    · exact .inl rfl
    · exact .inl rfl

/-! ### The staged copy and the acceptance -/

theorem ImplementState.code_eq (st : ImplementState) : byte st.code = if st = .active then 2 else 1 := by
  cases st <;> rfl

/-- A HITCH record with its staged copy made active (R17). -/
def ImplementRecord.copied (r : ImplementRecord) : ImplementRecord :=
  { r with fields := r.staged.getD r.fields, staged := none }

theorem State.applyImplementCopy_none {s : State} (h : s.cpt.hitch = none) : s.applyImplementCopy = s := by
  simp [State.applyImplementCopy, h]

theorem State.applyImplementCopy_unstaged {s : State} {r : ImplementRecord} (h : s.cpt.hitch = some r)
    (hs : r.staged = none) : s.applyImplementCopy = s := by
  simp [State.applyImplementCopy, h, hs]

theorem State.applyImplementCopy_staged {s : State} {r : ImplementRecord} (h : s.cpt.hitch = some r)
    (hs : r.staged ≠ none) :
    s.applyImplementCopy = s.commit { s.cpt with hitch := some r.copied } [r.copied.report .applied] := by
  obtain ⟨f, hf⟩ := Option.ne_none_iff_exists'.mp hs
  simp [State.applyImplementCopy, h, hf, ImplementRecord.copied]

theorem State.applyImplementCopy_cpt {s : State} {r : ImplementRecord} (h : s.cpt.hitch = some r) :
    ∃ m, s.applyImplementCopy.cpt = { s.cpt with hitch := some r.copied, mtow := m } := by
  by_cases hs : r.staged = none
  · refine ⟨s.cpt.mtow, ?_⟩
    have same : r.copied = r := by
      obtain ⟨_, _, _, _, _⟩ := r
      obtain rfl := hs
      rfl
    rw [State.applyImplementCopy_unstaged h hs, same, ← h]
  · rw [State.applyImplementCopy_staged h hs, State.commit_cpt]
    exact ⟨_, rfl⟩

theorem State.applyImplementCopy_enabled {s : State} {r : ImplementRecord} (h : s.cpt.hitch = some r) (report : Report) :
    s.applyImplementCopy.nts.enabled report = s.nts.enabled report := by
  by_cases hs : r.staged = none
  · rw [State.applyImplementCopy_unstaged h hs]
  · rw [State.applyImplementCopy_staged h hs, State.commit_enabled]

theorem State.acceptImplement_none {s : State} (h : s.cpt.hitch = none) (valid : Bool) :
    s.acceptImplement valid = s := by
  simp [State.acceptImplement, h]

theorem State.acceptImplement_stays {s : State} {r : ImplementRecord} {valid : Bool} (h : s.cpt.hitch = some r)
    (hs : r.state = .active ∨ valid = false) : s.acceptImplement valid = s := by
  rcases hs with hs | rfl
  · simp [State.acceptImplement, h, hs]
  · cases hs : r.state <;> simp [State.acceptImplement, h, hs]

theorem State.acceptImplement_pending {s : State} {r : ImplementRecord} {timer : Nat} (h : s.cpt.hitch = some r)
    (hs : r.state = .pending timer) :
    s.acceptImplement true =
      s.commit { s.cpt with hitch := some { r with state := .active } }
        [ImplementRecord.report { r with state := .active } .accepted] := by
  simp [State.acceptImplement, h, hs]

theorem State.acceptImplement_cpt {s : State} {r : ImplementRecord} (h : s.cpt.hitch = some r) (valid : Bool) :
    ∃ m, (s.acceptImplement valid).cpt =
      { s.cpt with hitch := some { r with state := if valid then .active else r.state }, mtow := m } := by
  by_cases stays : r.state = .active ∨ valid = false
  · rw [State.acceptImplement_stays h stays]
    refine ⟨s.cpt.mtow, ?_⟩
    have same : (if valid then .active else r.state) = r.state := by
      rcases stays with hs | rfl
      · rw [hs, ite_self]
      · rfl
    rw [same, ← h]
  · obtain ⟨pending, valid⟩ := not_or.mp stays
    rw [Bool.not_eq_false] at valid
    subst valid
    cases hs : r.state with
    | active => exact absurd hs pending
    | pending timer =>
      rw [State.acceptImplement_pending h hs, State.commit_cpt]
      exact ⟨_, rfl⟩

/-- The hitch-set arrival at the table. -/
def State.hitchTable (s : State) (p dl dr : Sample) : State :=
  ((s.sampleHitch p dl dr).applyImplementCopy).acceptImplement p.valid

theorem State.hitchSet_cpt (s : State) (p dl dr : Sample) : (s.hitchSet p dl dr).cpt = (s.hitchTable p dl dr).cpt :=
  (State.hitchArrival_train _).1

theorem State.hitchSet_shows {s : State} {p dl dr : Sample} {r : Report} {d : List Byte}
    (h : (s.hitchTable p dl dr).nts.shows r d) (other : r.source ≠ .hitch) : (s.hitchSet p dl dr).nts.shows r d :=
  (State.hitchArrival_hitchOffer _).shows h other

/-- A change of the HITCH record, reported, shows the notice with Mtow after it (R27). -/
theorem State.commit_showsHitch {s : State} {c : Coupling} {r : ImplementRecord} {o : CplOutcome}
    (he : s.nts.enabled (.coupling .hitch o) = true) :
    (s.commit c [r.report o]).nts.shows (.coupling .hitch o)
      [byte r.handle, byte (r.tag / 256), byte r.tag, if r.state = .active then 2 else 1,
        byte ((s.commit c [r.report o]).cpt.mtow / 256), byte (s.commit c [r.report o]).cpt.mtow] := by
  rw [State.commit_cpt, ← ImplementState.code_eq]
  exact State.commit_shows c (r := r.report o) (List.mem_singleton_self _) (fun _ h _ => List.mem_singleton.mp h) he

/-- Settles O25. -/
theorem hitchArrivalAcceptsTheImplement : Obligations.HitchArrivalAcceptsTheImplement := by
  intro p dl dr s hs
  obtain ⟨t, done, same⟩ := event_sameButOrder (State.hitchSet p dl dr) hs
  have table : t.cpt = (s.hitchTable p dl dr).cpt := same.cpt.trans (State.hitchSet_cpt s p dl dr)
  have shown {o : CplOutcome} {d : List Byte} (h : (s.hitchTable p dl dr).nts.shows (.coupling .hitch o) d) :
      t.nts.shows (.coupling .hitch o) d := same.shows (State.hitchSet_shows h nofun)
  refine ⟨t, done, ?_⟩
  cases hr : s.cpt.hitch with
  | none =>
    have stands : s.hitchTable p dl dr = s.sampleHitch p dl dr := by
      rw [State.hitchTable, State.applyImplementCopy_none (s := s.sampleHitch p dl dr) hr,
        State.acceptImplement_none (s := s.sampleHitch p dl dr) hr]
    rw [table, stands]
    exact ⟨rfl, rfl, rfl, fun _ => hr, nofun⟩
  | some r =>
    obtain ⟨m, copied⟩ := State.applyImplementCopy_cpt (s := s.sampleHitch p dl dr) hr
    have here : (s.sampleHitch p dl dr).applyImplementCopy.cpt.hitch = some r.copied := by rw [copied]
    obtain ⟨m', accepted⟩ := State.acceptImplement_cpt here p.valid
    have after : t.cpt = _ := table.trans accepted
    rw [copied] at after
    refine ⟨by rw [after]; rfl, by rw [after]; rfl, by rw [after]; rfl, nofun, ?_⟩
    rintro _ ⟨⟩
    refine ⟨by rw [after]; rfl, fun timer pending valid enabled => ?_, fun staged stays enabled => ?_⟩
    · have commits := State.acceptImplement_pending here pending
      rw [← valid] at commits
      rw [table]
      refine shown ?_
      rw [State.hitchTable, commits]
      exact State.commit_showsHitch (r := { r.copied with state := .active })
        ((State.applyImplementCopy_enabled (s := s.sampleHitch p dl dr) hr _).trans enabled)
    · have kept : s.hitchTable p dl dr = (s.sampleHitch p dl dr).applyImplementCopy :=
        State.acceptImplement_stays here stays
      rw [table]
      refine shown ?_
      rw [kept, State.applyImplementCopy_staged (s := s.sampleHitch p dl dr) hr staged]
      exact State.commit_showsHitch (r := r.copied) enabled

end Sys2Proof.Machine

namespace Sys2Proof.Machine

/-! ### The trailer demand -/

theorem weightedEntry_some (r : TrailerRecord) :
    weightedEntry (some r) =
      match r.state with
      | .active => [r]
      | .degraded => [r]
      | .retiring _ => [r]
      | .pending _ => []
      | .lost => [] := by
  cases h : r.state <;> simp [weightedEntry, TrailerRecord.weighted, h]

theorem State.formDemand_lost {s : State} (h : s.cpt.anyLost = true) : s.formDemand = (1500, .full) := by
  simp [State.formDemand, h]

theorem State.formDemand_parked {s : State} (h : s.cpt.anyLost = false) (hp : s.present .park = true)
    (hw : s.cpt.weighted ≠ []) : s.formDemand = (1500, .full) := by
  simp [State.formDemand, h, hp, hw]

theorem State.formDemand_empty {s : State} (h : s.cpt.anyLost = false) (hw : s.cpt.weighted = []) :
    s.formDemand = (0, .empty) := by
  simp [State.formDemand, h, hw]

theorem State.formDemand_weighted {s : State} (h : s.cpt.anyLost = false) (hp : s.present .park = false)
    (hw : s.cpt.weighted ≠ []) :
    s.formDemand =
      (min 1500 (max (s.cpt.pedalDemand s.tre.bt) (s.cpt.assist s.she.downshift s.mfe.vg.held s.tre.bt)), .weighted) := by
  simp [State.formDemand, h, hp, hw]

/-! ### The pedal set -/

theorem State.pedalEpisode_parts (s : State) :
    ∃ loss n, s.pedalEpisode = { s with tre := { s.tre with pedalLoss := loss }, nts := n } ∧
      (n = s.nts ∨ ∃ d, n = s.nts.offer (.trailer .sensor) d) := by
  unfold State.pedalEpisode
  simp only
  split
  · exact ⟨_, _, rfl, .inr ⟨_, rfl⟩⟩
  · exact ⟨_, _, rfl, .inl rfl⟩

theorem State.pedalEpisode_shows {s : State} {r : Report} {d : List Byte} (h : s.nts.shows r d)
    (other : r.source ≠ .trailer) : s.pedalEpisode.nts.shows r d := by
  obtain ⟨_, n, eq, hn⟩ := s.pedalEpisode_parts
  rw [eq]
  obtain rfl | ⟨d', rfl⟩ := hn
  · exact h
  · exact h.offer (r' := .trailer .sensor) other d'

theorem State.demandFormed.pedalEpisode {s : State} (h : s.demandFormed) : s.pedalEpisode.demandFormed := by
  obtain ⟨_, _, eq, -⟩ := s.pedalEpisode_parts
  rw [eq]
  exact h

theorem State.brakingRecorded.pedalEpisode {s : State} (h : s.brakingRecorded) : s.pedalEpisode.brakingRecorded := by
  obtain ⟨_, _, eq, -⟩ := s.pedalEpisode_parts
  rw [eq]
  exact h

/-- The braking-cause record is set by braking, or by a demand at the trailer threshold (R132). -/
theorem State.brakingRecorded_iff {s : State} (h : s.brakingRecorded) :
    s.frd.brakingRecord = true ↔
      s.tre.braking = true ∨
        (s.frd.params.trailerThreshold ≠ 0 ∧ s.frd.params.trailerThreshold ≤ s.tbc.demand) := by
  rw [h]
  simp [State.causes, Causes.brakingCause]

theorem mem_appliedReport {p : Point} {e : Option TrailerRecord} {x : CplReport} :
    x ∈ appliedReport p e ↔ ∃ r, e = some r ∧ r.staged.isSome = true ∧ x = r.report p .applied := by
  cases e with
  | none => simp [appliedReport]
  | some r => by_cases staged : r.staged.isSome = true <;> simp [appliedReport, staged]

theorem TrailerRecord.report_detail (r : TrailerRecord) (p : Point) (o : CplOutcome) (mtow : Nat) :
    (r.report p o).detail mtow =
      [byte r.handle, byte (r.tag / 256), byte r.tag, byte (stageCode (some r.stage)), byte (mtow / 256), byte mtow] := by
  rw [← TrailerRecord.state_code]
  rfl

/-- Each staged trailer copy applied is reported, with Mtow after it (R18, R27). -/
theorem State.applyTrailerCopies_shows {s : State} {p : Point} {r : TrailerRecord} (hr : s.cpt.trailer p = some r)
    (staged : r.staged.isSome = true) (he : s.nts.enabled (.coupling p .applied) = true) :
    s.applyTrailerCopies.nts.shows (.coupling p .applied)
      ((r.report p .applied).detail s.applyTrailerCopies.cpt.mtow) := by
  rw [State.applyTrailerCopies, State.commit_cpt]
  have only {q : Point} {x : CplReport}
      (hx : x ∈ appliedReport .drawbar s.cpt.drawbar ++ appliedReport .towthru s.cpt.towthru) (hp : x.point = q) :
      ∃ y, s.cpt.trailer q = some y ∧ x = y.report q .applied := by
    rcases List.mem_append.mp hx with hx | hx <;> obtain ⟨y, hy, -, rfl⟩ := mem_appliedReport.mp hx <;>
      obtain rfl := hp <;> exact ⟨y, hy, rfl⟩
  refine State.commit_shows _ (r := r.report p .applied) ?_ (fun x hx hp => ?_) he
  · cases p with
    | hitch => cases hr
    | drawbar => exact List.mem_append_left _ (mem_appliedReport.mpr ⟨r, hr, staged, rfl⟩)
    | towthru => exact List.mem_append_right _ (mem_appliedReport.mpr ⟨r, hr, staged, rfl⟩)
  · obtain ⟨y, hy, rfl⟩ := only hx hp
    obtain rfl := Option.some.inj (hy.symm.trans hr)
    rfl

theorem State.pedalSet_demandFormed (s : State) (bl br : Sample) : (s.pedalSet bl br).demandFormed :=
  (State.demandAndFront_demandFormed _).pedalEpisode

theorem State.pedalSet_brakingRecorded (s : State) (bl br : Sample) : (s.pedalSet bl br).brakingRecorded :=
  (State.demandAndFront_brakingRecorded _).pedalEpisode

/-- The table after a pedal set: every staged trailer copy active (R18). -/
theorem State.pedalSet_table (s : State) (bl br : Sample) :
    ∃ m, (s.pedalSet bl br).cpt =
      { s.cpt with drawbar := s.cpt.drawbar.map TrailerRecord.applyCopy
                   towthru := s.cpt.towthru.map TrailerRecord.applyCopy
                   mtow := m } := by
  rw [State.pedalSet_cpt, State.applyTrailerCopies, State.commit_cpt]
  exact ⟨_, rfl⟩

theorem State.HandOverFrame.fault {s t : State} (h : s.HandOverFrame t) :
    t.tbc.faultRun = s.tbc.faultRun ∧ t.tbc.faultEpisode = s.tbc.faultEpisode := by
  rw [h.brake]
  exact ⟨rfl, rfl⟩

theorem State.pedalEpisode_frd (s : State) : s.pedalEpisode.frd = s.frd := by
  obtain ⟨_, _, eq, -⟩ := s.pedalEpisode_parts
  rw [eq]

theorem State.applyTrailerCopies_kept (s : State) :
    s.applyTrailerCopies.tbc.faultRun = s.tbc.faultRun ∧
      s.applyTrailerCopies.tbc.faultEpisode = s.tbc.faultEpisode ∧
      s.applyTrailerCopies.frd.params = s.frd.params := by
  obtain ⟨_, -, frame⟩ := State.commit_frame s
    { s.cpt with drawbar := s.cpt.drawbar.map TrailerRecord.applyCopy
                 towthru := s.cpt.towthru.map TrailerRecord.applyCopy }
    (appliedReport .drawbar s.cpt.drawbar ++ appliedReport .towthru s.cpt.towthru)
  obtain ⟨run, episode⟩ := frame.fault
  exact ⟨run, episode, frame.params⟩

/-- A pedal set moves nothing of the line supervision, and no parameter of the front drive. -/
theorem State.pedalSet_kept (s : State) (bl br : Sample) :
    (s.pedalSet bl br).tbc.faultRun = s.tbc.faultRun ∧ (s.pedalSet bl br).tbc.faultEpisode = s.tbc.faultEpisode ∧
      (s.pedalSet bl br).frd.params = s.frd.params := by
  obtain ⟨run, episode, params⟩ := (s.samplePedals bl br).applyTrailerCopies_kept
  have computed := State.demandAndFront_frame (s.samplePedals bl br).applyTrailerCopies.tractionPedals
  obtain ⟨-, -, brake⟩ := State.pedalEpisode_train
    (s.samplePedals bl br).applyTrailerCopies.tractionPedals.demandAndFront
  rw [State.pedalSet_eq, brake, State.pedalEpisode_frd, computed.fault.1, computed.fault.2, computed.params]
  exact ⟨run, episode, params⟩

/-- The notices of the copies a pedal set applies stand after it. -/
theorem State.pedalSet_shows {s : State} {bl br : Sample} {p : Point} {d : List Byte}
    (h : (s.samplePedals bl br).applyTrailerCopies.nts.shows (.coupling p .applied) d) :
    (s.pedalSet bl br).nts.shows (.coupling p .applied) d := by
  rw [State.pedalSet_eq]
  refine State.pedalEpisode_shows ((State.demandAndFront_frame _).shows ?_ h) ?_
  · cases p <;> nofun
  · cases p <;> nofun

theorem State.sameButOrder.demandFormed {n : Nat} {u t : State} (h : State.sameButOrder n u t) (hu : u.demandFormed) :
    t.demandFormed := by
  obtain ⟨_, _, -, rfl⟩ := h
  exact hu

theorem State.sameButOrder.brakingRecorded {n : Nat} {u t : State} (h : State.sameButOrder n u t)
    (hu : u.brakingRecorded) : t.brakingRecorded := by
  obtain ⟨_, _, -, rfl⟩ := h
  exact hu

theorem State.sameButOrder.drives {n : Nat} {u t : State} (h : State.sameButOrder n u t) :
    t.tbc = u.tbc ∧ t.frd = u.frd := by
  obtain ⟨_, _, -, rfl⟩ := h
  exact ⟨rfl, rfl⟩

/-- Settles O53. -/
theorem demandFollowsTheRecords : Obligations.DemandFollowsTheRecords := by
  refine ⟨fun r => ⟨rfl, weightedEntry_some r⟩, fun s => ⟨State.formDemand_lost, State.formDemand_parked,
    State.formDemand_empty, fun sound moving weighted => ?_, State.computeDemand_eq s⟩, ?_⟩
  · rw [State.formDemand_weighted sound moving weighted]
    simp only [Coupling.assist, Bool.and_eq_true, decide_eq_true_eq, and_assoc]
    rfl
  · intro bl br s hs copied
    obtain ⟨t, done, same⟩ := event_sameButOrder (State.pedalSet bl br) hs
    obtain ⟨_, table⟩ := State.pedalSet_table s bl br
    obtain ⟨run, episode, params⟩ := State.pedalSet_kept s bl br
    have copies : TrailerRecord.applyCopy = copied := funext TrailerRecord.applyCopy_eq
    rw [copies, ← same.cpt] at table
    obtain ⟨brake, front⟩ := same.drives
    rw [← brake] at run episode
    rw [← front] at params
    refine ⟨t, done, same.demandFormed (State.pedalSet_demandFormed s bl br), run, episode, by rw [table],
      by rw [table], by rw [table], by rw [table], fun p r hr staged enabled => ?_, ?_⟩
    · have applied := State.applyTrailerCopies_shows (s := s.samplePedals bl br) hr staged enabled
      rw [TrailerRecord.report_detail, ← State.pedalSet_cpt, ← same.cpt] at applied
      exact same.shows (State.pedalSet_shows applied)
    · rw [← params]
      exact State.brakingRecorded_iff (same.brakingRecorded (State.pedalSet_brakingRecorded s bl br))

end Sys2Proof.Machine

namespace Sys2Proof.Machine

/-! ## What every reset leaves -/

/-- A pack as a reset leaves it: RELEASED, no cause, no staged copy, its fields and its count in their
ranges (R56, R64, R65). -/
structure PackRecord.fresh (p : PackRecord) : Prop where
  state : p.state = .released
  cause : p.cause = .none
  staged : p.staged = none
  fields : p.active.inRange
  count : p.atLimit ≤ 8

/-- The blocks at their reset state, the packs fresh, and the condition ROAD clear; the ratio map, the
straps and the inputs are each reset's own. -/
structure State.freshlyReset (s : State) : Prop where
  mfe : s.mfe = .afterReset s.mfe.inputs
  tre : s.tre = .afterReset
  cpt : s.cpt = .afterReset
  fsa : s.fsa = .afterReset
  she : s.she = .afterReset
  cau : s.cau = .afterReset
  frd : s.frd = .afterReset
  htc : s.htc = .afterReset
  tbc : s.tbc = .afterReset
  nts : s.nts = .afterReset
  road : s.rlk.road = false
  packs : ∀ p, (s.packs.get p).fresh

namespace State.freshlyReset

variable {s : State}

theorem noticeLaw (h : s.freshlyReset) : s.nts.law := by
  rw [h.nts]
  exact ⟨List.nodup_nil, rfl⟩

theorem hitchLaw (h : s.freshlyReset) : s.hitchLaw := by
  rw [State.hitchLaw, Coupling.hitchInRange, h.htc, h.cpt, h.road]
  refine ⟨.inl rfl, fun _ => rfl, fun _ => ⟨rfl, rfl⟩, nofun, ?_, ⟨nofun, nofun⟩, ?_⟩
  · rintro (work | ⟨_, _, travel⟩)
    · cases work
    · cases travel
  · decide

theorem trainLaw (h : s.freshlyReset) : s.trailerLaw ∧ s.cpt.labelLaw :=
  s.trainLaw_iff.mp (State.trainLaw_of_reset h.cpt h.tbc)

theorem loadLaw (h : s.freshlyReset) : s.loadLaw := by
  rw [State.loadLaw, h.tre, h.cpt, h.htc, h.mfe]
  exact ⟨rfl, rfl⟩

theorem presentLaw (h : s.freshlyReset) : s.presentLaw := by
  rw [State.presentLaw, h.she]
  exact fun neutral => absurd rfl neutral

theorem recordLaw (h : s.freshlyReset) : s.recordLaw := by
  rw [State.recordLaw, h.she]
  exact ⟨rfl, fun neutral => absurd rfl neutral, fun _ hr => nomatch hr⟩

theorem calLaw (h : s.freshlyReset) : s.calLaw := by
  rw [State.calLaw, h.she, h.cau]
  exact ⟨rfl, fun _ hj => nomatch hj⟩

/-- Neutral is no entry of a map that meets its law, so it uses no pack. -/
theorem packsOf_neutral (hr : s.ratioLaw) : s.packsOf 0 = [] := by
  obtain ⟨-, ranges, -, -, -⟩ := hr
  have undefined : s.rmp.entry 0 = none := by
    refine List.find?_eq_none.mpr fun e he => ?_
    have := ranges e he
    simp only [decide_eq_true_eq]
    omega
  simp [State.packsOf, undefined]

theorem gearLaw (h : s.freshlyReset) (hr : s.ratioLaw) : s.gearLaw := by
  rw [State.gearLaw, h.she, h.cau]
  refine fun id _ => ⟨fun _ hj => (nomatch hj), fun _ hr => (nomatch hr), fun _ _ => ?_⟩
  rw [show Engine.afterReset.pr = 0 from rfl, packsOf_neutral hr, if_neg List.not_mem_nil]
  exact .inl (h.packs id).state

theorem supplyLaw (h : s.freshlyReset) : s.supplyLaw := by
  rw [State.supplyLaw, h.fsa, h.she, h.cau]
  refine ⟨fun p => ?_, ⟨fun _ => rfl, fun _ => rfl⟩, ⟨nofun, nofun⟩, ⟨nofun, nofun⟩, ⟨?_, nofun⟩, ⟨?_, nofun⟩⟩
  case refine_2 | refine_3 =>
    rintro ⟨_, job, -⟩
    cases job
  rw [(h.packs p).state]
  exact ⟨nofun, nofun⟩

theorem frontLaw (h : s.freshlyReset) : s.frontLaw := by
  rw [State.frontLaw, h.frd, h.fsa]
  exact ⟨(h.packs .fdp).state, rfl, nofun⟩

theorem signalLaw (h : s.freshlyReset) : s.signalLaw := by
  rw [State.signalLaw, h.she, h.htc]
  refine ⟨⟨nofun, ?_⟩, rfl, ⟨nofun, ?_⟩⟩
  · rintro (fill | handover | confirm) <;> contradiction
  · rintro ⟨handover, -⟩
    cases handover

theorem brakingLaw (h : s.freshlyReset) : s.brakingLaw := by
  rw [State.brakingLaw, h.frd]
  exact fun _ _ => rfl

theorem drivelineLaw (h : s.freshlyReset) (hr : s.ratioLaw) : s.drivelineLaw :=
  ⟨hr, h.presentLaw, h.recordLaw, h.calLaw, h.gearLaw hr, h.supplyLaw, h.frontLaw, h.signalLaw, h.brakingLaw⟩

theorem packLaw (h : s.freshlyReset) : s.packLaw := by
  rw [State.packLaw, h.cau]
  refine ⟨fun p => ?_, by decide⟩
  have pack := h.packs p
  refine ⟨pack.fields, fun f hf => ?_, pack.count, ?_⟩
  · rw [pack.staged] at hf
    cases hf
  · rw [pack.cause, pack.state]
    exact ⟨fun cause => absurd rfl cause, nofun⟩

/-- Freshly reset over a map that meets its law, a state meets every law. -/
theorem meetsLaws (h : s.freshlyReset) (hr : s.ratioLaw) :
    s.nts.law ∧ s.hitchLaw ∧ s.trailerLaw ∧ s.cpt.labelLaw ∧ s.loadLaw ∧ s.drivelineLaw ∧ s.packLaw :=
  ⟨h.noticeLaw, h.hitchLaw, h.trainLaw.1, h.trainLaw.2, h.loadLaw, h.drivelineLaw hr, h.packLaw⟩

end State.freshlyReset

/-! ### The resets -/

theorem PackFile.afterReset_fresh (p : PackId) : (PackFile.afterReset.get p).fresh := by
  have gearbox : PackRecord.gearboxDefault.fresh :=
    ⟨rfl, rfl, rfl, by unfold PackFields.inRange; decide, by decide⟩
  have fdp : PackRecord.fdpDefault.fresh := ⟨rfl, rfl, rfl, by unfold PackFields.inRange; decide, by decide⟩
  cases p
  case fdp => exact fdp
  all_goals exact gearbox

theorem PackFile.get_all (f : PackFile) (g : PackRecord → PackRecord) (p : PackId) : (f.all g).get p = g (f.get p) := by
  cases p <;> rfl

/-- An empty map meets its law. -/
theorem State.ratioLaw_of_empty {s : State} (h : s.rmp.entries = []) : s.ratioLaw := by
  rw [State.ratioLaw, h]
  exact ⟨.nil, nofun, nofun, nofun, nofun⟩

theorem State.reset_freshlyReset : State.reset.freshlyReset :=
  ⟨rfl, rfl, rfl, rfl, rfl, rfl, rfl, rfl, rfl, rfl, rfl, PackFile.afterReset_fresh⟩

theorem State.fullReset_freshlyReset (s : State) (straps : Straps) : (s.fullReset straps).freshlyReset :=
  ⟨rfl, rfl, rfl, rfl, rfl, rfl, rfl, rfl, rfl, rfl, rfl, PackFile.afterReset_fresh⟩

theorem State.softReset_freshlyReset {s : State} (h : s.packLaw) : s.softReset.freshlyReset := by
  obtain ⟨packs, -, -, -⟩ := h
  refine ⟨rfl, rfl, rfl, rfl, rfl, rfl, rfl, rfl, rfl, rfl, rfl, fun p => ?_⟩
  obtain ⟨fields, -, count, -⟩ := packs p
  change ((s.packs.all PackRecord.softReset).get p).fresh
  rw [PackFile.get_all]
  exact ⟨rfl, rfl, rfl, fields, count⟩

theorem formUsable_iff (m : RatioMap) (f : PackFile) (e : RatioEntry) :
    formUsable m f e = true ↔
      m.withheld.getLsbD (e.index - 1) = false ∧ ∀ p ∈ e.packs, (f.get p).state ≠ .fault := by
  simp [formUsable, RatioMap.isWithheld, PackRecord.faulted]

/-- A soft reset keeps the map and forms the usability of its entries again, no pack being in FAULT
(R54, R65). -/
theorem State.softReset_ratioLaw {s : State} (h : s.ratioLaw) : s.softReset.ratioLaw := by
  obtain ⟨order, ranges, rising, distinct, -⟩ := h
  have entries : s.softReset.rmp.entries =
      s.rmp.entries.map fun e => { e with usable := formUsable s.rmp (s.packs.all PackRecord.softReset) e } := rfl
  rw [State.ratioLaw, entries]
  simp only [List.map_map, List.forall_mem_map]
  exact ⟨order, ranges, rising, distinct, fun e _ => formUsable_iff _ _ _⟩

/-- The link but for ROAD, and RST, are no part of what a reset leaves of the blocks. -/
theorem State.freshlyReset.withLink {s : State} (h : s.freshlyReset) {link : Link} (hl : link.road = false) (held : Bool) :
    State.freshlyReset { s with heldInReset := held, rlk := link } := by
  obtain ⟨mfe, tre, cpt, fsa, she, cau, frd, htc, tbc, nts, -, packs⟩ := h
  exact ⟨mfe, tre, cpt, fsa, she, cau, frd, htc, tbc, nts, hl, packs⟩

theorem State.holdReset_freshlyReset {s : State} (h : s.packLaw) : s.holdReset.freshlyReset :=
  (State.softReset_freshlyReset h).withLink rfl true

/-- Settles O59. -/
theorem resetMeetsTheLaws : Obligations.ResetMeetsTheLaws := by
  unfold Obligations.ResetMeetsTheLaws
  intro meets
  have full (s : State) (straps : Straps) : meets (s.fullReset straps) :=
    (s.fullReset_freshlyReset straps).meetsLaws (State.ratioLaw_of_empty rfl)
  refine ⟨State.reset_freshlyReset.meetsLaws (State.ratioLaw_of_empty rfl),
    fun gearset fdkind s => ⟨_, _, rfl, full s _, rfl, full s _⟩,
    fun s ratios packs => ⟨fun extra listens => ?_, ?_⟩⟩
  · let k := s.settleReply (0 + 3 + extra)
    have fresh : k.softReset.freshlyReset := State.softReset_freshlyReset (s := k) packs
    have done := request_ok (code := 0x08) (act := actSoftReset) listens (t := k.softReset) (p := []) rfl (Nat.zero_le _)
    rw [exec_softReset]
    exact ⟨_, done, (fresh.withLink rfl _).meetsLaws (State.softReset_ratioLaw (s := k) ratios)⟩
  · exact ⟨_, rfl, (State.holdReset_freshlyReset packs).meetsLaws (State.softReset_ratioLaw ratios)⟩

end Sys2Proof.Machine

namespace Sys2Proof.Machine

/-! ## The frame of the measurements

No block but their owners writes the channels, the discrete inputs, the slip and the braking figures, the
formed draft or the notice enables; and whoever moves the towed mass or the draft latch forms the load
index again (R44). One rule per operation, in the order of the model's files. -/

/-- What a state `t` still has of a state `s` after a block that owns no measurement acted. -/
structure State.MeasureFrame (s t : State) : Prop where
  mfe : t.mfe = s.mfe
  tre : t.tre = { s.tre with loadIndex := t.tre.loadIndex }
  formed : t.htc.formed = s.htc.formed
  enables : t.nts.enables = s.nts.enables
  load : s.loadFormed → t.loadFormed

/-- The load index, what it is formed of, the measurements and the enables all stand. -/
def State.measuresStand (s t : State) : Prop :=
  t.mfe = s.mfe ∧ t.tre = s.tre ∧ t.cpt.mtow = s.cpt.mtow ∧ t.htc.latch = s.htc.latch ∧ t.htc.formed = s.htc.formed ∧
    t.nts.enables = s.nts.enables

@[simp] theorem State.measuresStand_iff (s t : State) :
    s.measuresStand t ↔ t.mfe = s.mfe ∧ t.tre = s.tre ∧ t.cpt.mtow = s.cpt.mtow ∧ t.htc.latch = s.htc.latch ∧
      t.htc.formed = s.htc.formed ∧ t.nts.enables = s.nts.enables := Iff.rfl

/-! ### The enables under an offer -/

@[simp] theorem State.offer_enables (s : State) (r : Report) (d : List Byte) :
    (s.offer r d).nts.enables = s.nts.enables := NoticeSet.offer_enables _ _ _

@[simp] theorem State.offerShift_enables (s : State) (o : ShiftOutcome) (dest : Nat) (rest : List Nat) :
    (s.offerShift o dest rest).nts.enables = s.nts.enables := State.offer_enables _ _ _

@[simp] theorem State.offerCal_enables (s : State) (j : CalJob) (o : CalOutcome) (a b : Nat) :
    (s.offerCal j o a b).nts.enables = s.nts.enables := State.offer_enables _ _ _

@[simp] theorem State.offerHitch_enables (s : State) (o : HitchOutcome) (a b : Nat) :
    (s.offerHitch o a b).nts.enables = s.nts.enables := State.offer_enables _ _ _

@[simp] theorem State.offerFront_enables (s : State) : s.offerFront.nts.enables = s.nts.enables :=
  State.offer_enables _ _ _

@[simp] theorem State.offerLimit_enables (s : State) (p : PackId) (c : OnsetClass) :
    (s.offerLimit p c).nts.enables = s.nts.enables := State.offer_enables _ _ _

@[simp] theorem State.offerCharge_enables (s : State) : s.offerCharge.nts.enables = s.nts.enables :=
  State.offer_enables _ _ _

@[simp] theorem State.offerLineFault_enables (s : State) : s.offerLineFault.nts.enables = s.nts.enables :=
  State.offer_enables _ _ _

@[simp] theorem State.offerPedalLoss_enables (s : State) : s.offerPedalLoss.nts.enables = s.nts.enables :=
  State.offer_enables _ _ _

/-- The draft held is the latched one, or the formed one while the latch is free (R146). -/
theorem Hitch.draft_eq (h : Hitch) : h.draft = h.latch.getD h.formed := by
  unfold Hitch.draft
  cases h.latch <;> rfl

/-- A state with the draft formed from the pin channels (R146). -/
def State.withFormedDraft (s : State) : State :=
  { s with htc := { s.htc with formed := formDraft s.mfe.dl s.mfe.dr } }

/-! ### A hitch set at the controller -/

theorem State.holdWith_stands (s : State) (o : HitchOutcome) : s.measuresStand (s.holdWith o) := by
  simp [State.holdWith, Hitch.enter]

theorem State.travelArrival_stands (s : State) (p : Purpose) (target timer : Nat) :
    s.measuresStand (s.travelArrival p target timer) := by
  unfold State.travelArrival
  simp only
  split_ifs <;> simp [Hitch.enter]

theorem State.manualArrival_stands (s : State) (d : ManualDir) : s.measuresStand (s.manualArrival d) := by
  unfold State.manualArrival
  split
  · exact s.holdWith_stands _
  · split
    all_goals
      split
      · exact s.holdWith_stands _
      · simp

theorem State.workArrival_stands (s : State) : s.measuresStand s.workArrival := by
  unfold State.workArrival
  split
  · simp
  · simp only
    split <;> simp [State.offerDraftLost]

theorem State.hitchArrival_stands (s : State) : s.withFormedDraft.measuresStand s.hitchArrival := by
  unfold State.hitchArrival
  simp only
  split
  · exact s.withFormedDraft.holdWith_stands _
  · split
    · exact s.withFormedDraft.workArrival_stands
    · exact s.withFormedDraft.travelArrival_stands _ _ _
    · exact s.withFormedDraft.manualArrival_stands _
    · exact ⟨rfl, rfl, rfl, rfl, rfl, rfl⟩
    · exact ⟨rfl, rfl, rfl, rfl, rfl, rfl⟩

namespace State.MeasureFrame

variable {s t u : State}

theorem refl (s : State) : s.MeasureFrame s := ⟨rfl, rfl, rfl, rfl, id⟩

theorem trans (h : s.MeasureFrame t) (k : t.MeasureFrame u) : s.MeasureFrame u where
  mfe := k.mfe.trans h.mfe
  tre := by rw [k.tre, h.tre]
  formed := k.formed.trans h.formed
  enables := k.enables.trans h.enables
  load hs := k.load (h.load hs)

theorem enabled (h : s.MeasureFrame t) (r : Report) : t.nts.enabled r = s.nts.enabled r := by
  simp only [NoticeSet.enabled, h.enables]

theorem of_stand (h : s.measuresStand t) : s.MeasureFrame t := by
  obtain ⟨mfe, tre, mtow, latch, formed, enables⟩ := h
  refine ⟨mfe, by rw [tre], formed, enables, fun hs => ?_⟩
  rw [State.loadFormed, Hitch.draft_eq, tre, mtow, latch, formed, ← Hitch.draft_eq]
  exact hs

theorem of_handOver (h : s.HandOverFrame t) : s.MeasureFrame t :=
  ⟨h.mfe, h.tre, by rw [h.htc], h.enables, h.load⟩

theorem of_supply (h : s.SupplyFrame t) : s.MeasureFrame t := of_handOver h.toHandOverFrame

/-- What both branches keep is kept. -/
theorem ite {c : Prop} [Decidable c] (h : s.MeasureFrame t) (k : s.MeasureFrame u) :
    s.MeasureFrame (if c then t else u) := by
  split
  · exact h
  · exact k

/-! ### Ops -/

theorem offer (s : State) (r : Report) (d : List Byte) : s.MeasureFrame (s.offer r d) := of_stand (by simp)

theorem withEngine (s : State) (e : Engine) : s.MeasureFrame { s with she := e } := of_stand (by simp)

theorem offerShift (s : State) (o : ShiftOutcome) (dest : Nat) (rest : List Nat) :
    s.MeasureFrame (s.offerShift o dest rest) := of_stand (by simp)

theorem orderPacks (s : State) (ps : List PackId) (g : PackRecord → PackRecord) :
    s.MeasureFrame (s.orderPacks ps g) := of_stand (by simp)

theorem dropLatch (s : State) : s.MeasureFrame s.dropLatch := by
  unfold State.dropLatch
  split
  · exact ⟨rfl, rfl, rfl, rfl, fun _ => State.formLoadIndex_loadFormed _⟩
  · exact refl s

/-! ### Fill supply, front drive, trailer brake -/

theorem grantDecision (s : State) : s.MeasureFrame s.grantDecision := of_supply (.grantDecision s)

theorem requestSupply (s : State) (r : Requester) : s.MeasureFrame (s.requestSupply r) :=
  of_supply (.requestSupply s r)

theorem leaveFill (s : State) (ps : List PackId) : s.MeasureFrame (s.leaveFill ps) := of_supply (.leaveFill s ps)

theorem evaluateFront (s : State) : s.MeasureFrame s.evaluateFront := of_handOver s.evaluateFront_frame

theorem offerFront (s : State) : s.MeasureFrame s.offerFront := of_supply (.offerFront s)

theorem slipUpdate (s : State) : s.MeasureFrame s.slipUpdate :=
  (of_stand (by simp)).trans (evaluateFront _)

theorem computeDemand (s : State) : s.MeasureFrame s.computeDemand := of_handOver s.computeDemand_frame

theorem setDownshift (s : State) (b : Bool) : s.MeasureFrame (s.setDownshift b) := by
  unfold State.setDownshift
  split
  · exact refl s
  · exact (of_stand (by simp)).trans (computeDemand _)

theorem demandAndFront (s : State) : s.MeasureFrame s.demandAndFront := of_handOver s.demandAndFront_frame

theorem superviseLine (s : State) : s.MeasureFrame s.superviseLine := by
  refine of_stand ?_
  unfold State.superviseLine
  simp only
  split_ifs <;> simp

/-- Two blocks taken in either order keep what each keeps. -/
theorem eitherOrder {f g : State → State} (hf : ∀ s : State, s.MeasureFrame (f s))
    (hg : ∀ s : State, s.MeasureFrame (g s))
    (s : State) : s.MeasureFrame (Machine.eitherOrder f g s) :=
  eitherOrder_rule (P := s.MeasureFrame) ((hf s).trans (hg _)) ((hg s).trans (hf _)) fun _ _ h =>
    h.trans (of_stand (by simp))

/-! ### Hitch -/

theorem holdWith (s : State) (o : HitchOutcome) : s.MeasureFrame (s.holdWith o) :=
  of_stand (s.holdWith_stands o)

theorem enter (s : State) (m : HitchMode) : s.MeasureFrame { s with htc := s.htc.enter m } :=
  of_stand (by simp [Hitch.enter])

theorem seatFallingHitch (s : State) : s.MeasureFrame s.seatFallingHitch := by
  unfold State.seatFallingHitch
  split
  · exact holdWith s _
  · exact refl s

theorem reformTarget (s : State) : s.MeasureFrame s.reformTarget := by
  unfold State.reformTarget
  split
  · exact of_stand (by simp)
  all_goals exact refl s

theorem checkLift (s : State) : s.MeasureFrame s.checkLift := by
  unfold State.checkLift
  split
  · split
    · exact holdWith s _
    · exact of_stand (by simp)
  · exact refl s

theorem limitsChanged (s : State) : s.MeasureFrame s.limitsChanged := (reformTarget s).trans (checkLift _)

/-- Beyond the draft it forms, a hitch set at the controller owns no measurement. -/
theorem hitchArrival (s : State) : s.withFormedDraft.MeasureFrame s.hitchArrival := of_stand s.hitchArrival_stands

theorem enterManual (s : State) (d : ManualDir) : s.MeasureFrame (s.enterManual d) := by
  cases d <;> exact of_stand (by simp [State.enterManual, Hitch.enter])

theorem buttonRising (s : State) (d : ManualDir) : s.MeasureFrame (s.buttonRising d) := by
  unfold State.buttonRising
  split
  · exact refl s
  · split
    · exact refl s
    · exact holdWith s _
  all_goals
    split
    · exact enterManual s d
    · exact refl s

theorem buttonFalling (s : State) (d : ManualDir) : s.MeasureFrame (s.buttonFalling d) := by
  unfold State.buttonFalling
  split
  · split
    · exact holdWith s _
    · exact refl s
  all_goals exact refl s

theorem retiredHitch (s : State) : s.MeasureFrame s.retiredHitch := by
  unfold State.retiredHitch
  split
  · exact holdWith s _
  · exact holdWith s _
  all_goals exact refl s

theorem travelExpiry (s : State) : s.MeasureFrame s.travelExpiry := by
  unfold State.travelExpiry
  split
  · exact holdWith s _
  all_goals exact refl s

/-! ### Coupling table -/

/-- A change of Mtow forms the load index; where Mtow stands the index does (R26, R44). -/
theorem commit (s : State) (c : Coupling) (reports : List CplReport) : s.MeasureFrame (s.commit c reports) := by
  obtain ⟨n, enables, frame⟩ := s.commit_frame c reports
  refine ⟨frame.mfe, frame.tre, by rw [frame.htc], frame.enables.trans enables, fun hs => ?_⟩
  by_cases mass : c.weightedMass = s.cpt.mtow
  · refine frame.load ?_
    rw [State.loadFormed, mass]
    exact hs
  · exact State.commit_loadFormed reports mass

theorem applyImplementCopy (s : State) : s.MeasureFrame s.applyImplementCopy := by
  unfold State.applyImplementCopy
  split
  · exact refl s
  · split
    · exact refl s
    · exact commit s _ _

theorem acceptImplement (s : State) (valid : Bool) : s.MeasureFrame (s.acceptImplement valid) := by
  unfold State.acceptImplement
  split
  · exact refl s
  · split
    · exact refl s
    · split
      · exact commit s _ _
      · exact refl s

theorem applyTrailerCopies (s : State) : s.MeasureFrame s.applyTrailerCopies := commit s _ _

theorem detectEdge (s : State) : s.MeasureFrame s.detectEdge := by
  unfold State.detectEdge
  split
  · exact refl s
  · exact commit s _ _

theorem retireWatch (s : State) : s.MeasureFrame s.retireWatch := by
  unfold State.retireWatch
  split
  · exact commit s _ _
  · exact refl s

theorem hitchTimeout (s : State) : s.MeasureFrame s.hitchTimeout := by
  unfold State.hitchTimeout
  split
  · exact refl s
  · split
    · exact refl s
    · exact (commit s _ _).trans (limitsChanged _)

theorem drawbarTimeout (s : State) : s.MeasureFrame s.drawbarTimeout := by
  unfold State.drawbarTimeout
  split
  · exact refl s
  · split
    · exact commit s _ _
    all_goals exact refl s

/-! ### Shift engine -/

theorem beginShift (s : State) (dest : RatioEntry) (kind : ShiftKind) : s.MeasureFrame (s.beginShift dest kind) :=
  (of_stand (by simp)).trans (requestSupply _ _)

theorem blocked (s : State) : s.MeasureFrame s.blocked := of_stand (by simp [State.blocked])

theorem shiftTo (s : State) (dest : Option RatioEntry) (kind : RatioEntry → ShiftKind) :
    s.MeasureFrame (s.shiftTo dest kind) := by
  cases dest with
  | none => exact blocked s
  | some b => exact beginShift s b _

theorem neutralShift (s : State) : s.MeasureFrame s.neutralShift := of_stand (by simp [State.neutralShift])

theorem stepDecision (s : State) : s.MeasureFrame s.stepDecision := by
  unfold State.stepDecision
  split
  · exact neutralShift s
  · split
    · exact blocked s
    · split
      · split <;> exact shiftTo s _ _
      · split
        · exact blocked s
        · split <;> exact shiftTo s _ _

theorem acceptTarget (s : State) (nr : Nat) : s.MeasureFrame (s.acceptTarget nr) := by
  have target : s.MeasureFrame { s with she := { s.she with nr := nr, halt := false } } := of_stand (by simp)
  unfold State.acceptTarget
  simp only
  split
  · exact target.trans (stepDecision _)
  · exact target

theorem shiftHoldCleared (s : State) : s.MeasureFrame s.shiftHoldCleared := by
  unfold State.shiftHoldCleared
  split
  · exact stepDecision s
  · exact refl s

theorem chargeAtShift (s : State) : s.MeasureFrame s.chargeAtShift := by
  unfold State.chargeAtShift
  split
  · exact of_stand (by simp)
  · exact refl s

theorem startHandover (s : State) (r : ShiftRecord) : s.MeasureFrame (s.startHandover r) := by
  unfold State.startHandover
  simp only
  split
  · exact ((of_stand (by simp)).trans (leaveFill _ r.onComing)).trans (setDownshift _ true)
  · exact (of_stand (by simp)).trans (leaveFill _ r.onComing)

theorem startConfirm (s : State) (r : ShiftRecord) : s.MeasureFrame (s.startConfirm r) :=
  (of_stand (by simp)).trans (setDownshift _ false)

theorem failConfirm (s : State) (r : ShiftRecord) : s.MeasureFrame (s.failConfirm r) := by
  unfold State.failConfirm
  refine ((State.MeasureFrame.trans ?_ (dropLatch _)).trans (withEngine _ _)).trans (offerShift _ _ _ _)
  exact of_stand (by simp)

theorem stall (s : State) (r : ShiftRecord) : s.MeasureFrame (s.stall r) := by
  unfold State.stall
  refine ((State.MeasureFrame.trans ?_ (dropLatch _)).trans (withEngine _ _)).trans (offerShift _ _ _ _)
  exact of_stand (by simp)

theorem noSupply (s : State) (r : ShiftRecord) : s.MeasureFrame (s.noSupply r) :=
  of_stand (by simp [State.noSupply])

theorem examineOnset (s : State) (neValid : Bool) : s.MeasureFrame (s.examineOnset neValid) := by
  unfold State.examineOnset
  split
  · exact refl s
  · split
    · exact of_stand (by simp)
    · exact refl s

theorem adjustFill (s : State) (p : PackId) (c : OnsetClass) : s.MeasureFrame (s.adjustFill p c) := by
  unfold State.adjustFill
  simp only
  split <;> exact of_stand (by simp)

theorem adapt (s : State) (r : ShiftRecord) : s.MeasureFrame (s.adapt r) := by
  unfold State.adapt
  split
  · split
    · exact adjustFill s _ _
    · exact refl s
  · exact refl s

theorem afterShift (s : State) (dest : Nat) : s.MeasureFrame (s.afterShift dest) := by
  unfold State.afterShift
  split_ifs <;> exact of_stand (by simp)

theorem complete (s : State) (r : ShiftRecord) : s.MeasureFrame (s.complete r) := by
  unfold State.complete
  have arrived : s.MeasureFrame { s with she := { s.she with pr := r.dest, lastDir := s.directionOf r.dest } } :=
    of_stand (by simp)
  exact (((arrived.trans (adapt _ r)).trans (dropLatch _)).trans (of_stand (by simp))).trans (afterShift _ r.dest)

theorem confirmPair (s : State) : s.MeasureFrame s.confirmPair := by
  unfold State.confirmPair
  split
  · split
    · split
      · exact complete s _
      · exact of_stand (by simp)
    · exact of_stand (by simp)
  · exact refl s

theorem shiftPair (s : State) (neValid : Bool) : s.MeasureFrame (s.shiftPair neValid) :=
  (examineOnset s neValid).trans (confirmPair _)

theorem forcedNeutral (s : State) (c : NeutralCause) : s.MeasureFrame (s.forcedNeutral c) := by
  unfold State.forcedNeutral
  simp only
  split
  · exact refl s
  · split
    · exact refl s
    · refine (((State.MeasureFrame.trans ?_ (withEngine _ _)).trans (setDownshift _ false)).trans
        (dropLatch _)).trans (offerShift _ _ _ _)
      have released : s.MeasureFrame s.releaseGearbox := of_stand (by simp)
      have cancelled := released.trans (of_supply (.cancelSupply _ .shift))
      exact ite ((ite cancelled released).trans (leaveFill _ gearboxPacks)) (ite cancelled released)

/-! ### Calibration -/

theorem abortCal (s : State) (c : AbortCause) : s.MeasureFrame (s.abortCal c) := by
  unfold State.abortCal
  split
  · exact refl s
  next j _ =>
    have cancelled := ite (c := j.phase = .waiting) (of_supply (.cancelSupply s .cal)) (refl s)
    have released := cancelled.trans (orderPacks _ j.packs PackRecord.release)
    have left := ite (c := j.phase = .filling) (released.trans (leaveFill _ [j.partner1, j.partner2])) released
    exact left.trans (of_stand (by simp))

theorem kiss (s : State) (j : CalJob) : s.MeasureFrame (s.kiss j) := of_stand (by simp [State.kiss])

theorem noKiss (s : State) (j : CalJob) : s.MeasureFrame (s.noKiss j) := of_stand (by simp [State.noKiss])

theorem calPair (s : State) (neValid : Bool) : s.MeasureFrame (s.calPair neValid) := by
  unfold State.calPair
  split
  · exact refl s
  · split_ifs
    · exact abortCal s _
    · exact abortCal s _
    · exact kiss s _
    · exact abortCal s _
    · exact abortCal s _
    · exact refl s

theorem calGround (s : State) : s.MeasureFrame s.calGround := by
  unfold State.calGround
  split
  · exact refl s
  · split_ifs
    · exact abortCal s _
    · exact abortCal s _
    · exact refl s

theorem chargeAtCal (s : State) : s.MeasureFrame s.chargeAtCal := by
  unfold State.chargeAtCal
  split
  · exact abortCal s _
  · exact refl s

theorem startCal (s : State) (pack p1 p2 : PackId) (interval : Nat) :
    s.MeasureFrame (s.startCal pack p1 p2 interval) := by
  unfold State.startCal
  simp only
  split
  · exact ((of_stand (by simp)).trans (requestSupply _ .cal)).trans (abortCal _ _)
  · exact (of_stand (by simp)).trans (requestSupply _ .cal)

theorem partnerFilled (s : State) (j : CalJob) (partner : Partner) : s.MeasureFrame (s.partnerFilled j partner) := by
  cases partner <;> exact (of_stand (by simp)).trans (leaveFill _ _)

theorem startStepping (s : State) (j : CalJob) : s.MeasureFrame (s.startStepping j) :=
  of_stand (by simp [State.startStepping])

theorem nextStep (s : State) (j : CalJob) : s.MeasureFrame (s.nextStep j) := by
  unfold State.nextStep
  split
  · exact of_stand (by simp)
  · exact noKiss s j

/-! ### Discrete inputs -/

theorem parkEdge (s : State) (rising : Bool) : s.MeasureFrame (s.parkEdge rising) := by
  unfold State.parkEdge
  split
  · exact eitherOrder (fun u => forcedNeutral u .park) computeDemand s
  · exact eitherOrder (fun u => abortCal u .park) computeDemand s

theorem seatEdge (s : State) (rising : Bool) : s.MeasureFrame (s.seatEdge rising) := by
  unfold State.seatEdge
  split
  · exact of_stand (by simp)
  · exact (of_stand (by simp)).trans (seatFallingHitch _)

theorem buttonEdge (s : State) (d : ManualDir) (rising : Bool) : s.MeasureFrame (s.buttonEdge d rising) := by
  unfold State.buttonEdge
  split
  · exact buttonRising s d
  · exact buttonFalling s d

theorem deliverEdge (s : State) (i : DInput) (rising : Bool) : s.MeasureFrame (s.deliverEdge i rising) := by
  cases i with
  | park => exact parkEdge s rising
  | seat => exact seatEdge s rising
  | detA => exact detectEdge s
  | detB => exact detectEdge s
  | extUp => exact buttonEdge s .up rising
  | extDown => exact buttonEdge s .down rising

/-! ### Timers -/

theorem pendingExpiry (s : State) (p : Point) : s.MeasureFrame (s.pendingExpiry p) := by
  cases p with
  | hitch => exact hitchTimeout s
  | drawbar => exact drawbarTimeout s
  | towthru => exact refl s

theorem seatExpiry (s : State) : s.MeasureFrame s.seatExpiry := by
  unfold State.seatExpiry
  split
  · exact refl s
  · exact (of_stand (by simp)).trans (forcedNeutral _ _)

/-- The expiry of the engine's timer keeps what that which it starts keeps. -/
theorem phaseExpiry {act : State → ShiftRecord → State} (h : ∀ r, s.MeasureFrame (act s r)) (e : EngineState) :
    s.MeasureFrame (s.phaseExpiry e act) := by
  unfold State.phaseExpiry
  split
  · split
    · exact h _
    · exact refl s
  · exact refl s

theorem confirmExpired (s : State) (r : ShiftRecord) : s.MeasureFrame (s.confirmExpired r) := by
  unfold State.confirmExpired
  split
  · exact stall s r
  · exact failConfirm s r

theorem intervalExpiry (s : State) : s.MeasureFrame s.intervalExpiry := by
  unfold State.intervalExpiry State.intervalExpired
  split
  · exact refl s
  · split_ifs
    · exact of_stand (by simp)
    · exact of_stand (by simp)
    · exact stepDecision s
    · exact refl s

theorem partnerExpiry (s : State) (p : Partner) : s.MeasureFrame (s.partnerExpiry p) := by
  unfold State.partnerExpiry
  split
  · exact refl s
  · split
    · exact partnerFilled s _ p
    · exact refl s

theorem settleExpiry (s : State) : s.MeasureFrame s.settleExpiry := by
  unfold State.settleExpiry
  split
  · exact refl s
  · split
    · exact startStepping s _
    · exact refl s

theorem stepExpiry (s : State) : s.MeasureFrame s.stepExpiry := by
  unfold State.stepExpiry
  split
  · exact refl s
  · split
    · exact nextStep s _
    · exact refl s

theorem releaseExpiry (s : State) : s.MeasureFrame s.releaseExpiry := by
  unfold State.releaseExpiry
  split
  · exact refl s
  · exact (of_stand (by simp)).trans (evaluateFront _)

theorem fdpExpiry (s : State) : s.MeasureFrame s.fdpExpiry := by
  unfold State.fdpExpiry
  split
  · unfold State.fdpFilled
    refine (State.MeasureFrame.trans ?_ (leaveFill _ [.fdp])).trans (offerFront _)
    exact of_stand (by simp)
  · exact refl s

/-! ### Arrivals -/

theorem chargeChanged (s : State) : s.MeasureFrame s.chargeChanged := by
  have heard : s.MeasureFrame s.offerCharge.chargeAtShift.chargeAtCal :=
    ((of_stand (by simp)).trans (chargeAtShift _)).trans (chargeAtCal _)
  unfold State.chargeChanged
  simp only
  split
  · exact heard.trans (grantDecision _)
  · exact heard

end State.MeasureFrame

end Sys2Proof.Machine

namespace Sys2Proof.Machine

/-! ## What every step keeps

The induction over a step, packaged once for a law of the state. -/

/-- A law that the queue and the order of notices are no part of, that a millisecond keeps and that every
command keeps, every step keeps. -/
theorem step_keeps {P : State → Prop} (queue : ∀ s rest, P s → P { s with pending := rest })
    (tick : ∀ s, P s → P s.tick) (command : ∀ i s t, P s → exec i s = .next t → P t) {s t : State} (hs : P s)
    (h : step s = .next t) : P t := by
  unfold step at h
  split at h
  · unfold idle at h
    split at h
    · cases h
      exact hs
    · split at h
      · exact command _ s t hs h
      · cases h
        exact tick s hs
  next i rest _ => exact command i _ t (queue s rest hs) h

theorem next_keeps {P : State → Prop} {s t : State} (hs : P s)
    (h : (.next s : Host.Outcome State Fault Refusal) = .next t) : P t := by
  cases h
  exact hs

/-- An event keeps a law that its effect keeps. -/
theorem event_keeps {P : State → Prop} (order : ∀ n s, P s → P (s.orderNotices n)) {f : State → State}
    {s t : State} (hf : P s → P (f s)) (hs : P s) (h : event f s = .next t) : P t := by
  cases h
  split
  · exact hs
  · exact order _ _ (hf hs)

/-- A transaction keeps a law that the link is no part of and that the taking of its bytes keeps. -/
theorem transaction_keeps {P : State → Prop} (order : ∀ n s, P s → P (s.orderNotices n))
    (link : ∀ s l, P s → P { s with rlk := l }) {take : State → State × Reply} {k : Nat} {s t : State}
    (ht : P (s.settleReply k) → P (take (s.settleReply k)).1) (hs : P s) (h : transaction k take s = .next t) :
    P t := by
  cases h
  split
  · exact hs
  · split
    · exact link s _ hs
    · exact link _ _ (order _ _ (ht (link s _ hs)))

/-- The judgement of a frame keeps a law that the link is no part of and that every request keeps. -/
theorem takeFrame_keeps {P : State → Prop} (link : ∀ s l, P s → P { s with rlk := l })
    (requests : ∀ i act, requestAct i = some act → ∀ s, (act s).relates (fun s t => P s → P t) s)
    (code : Byte) (bytes : List Byte) {s : State} (hs : P s) : P (takeFrame code bytes s).1 := by
  have idle : P { s with rlk := { s.rlk with receiver := [] } } := link s _ hs
  unfold takeFrame
  simp only
  split
  · exact idle
  · exact idle
  · split
    · exact idle
    next act hact =>
      have keeps := requests _ act hact { s with rlk := { s.rlk with receiver := [] } }
      cases ha : act { s with rlk := { s.rlk with receiver := [] } } with
      | ok t p =>
        rw [ha] at keeps
        exact keeps idle
      | refused status => exact idle

/-! ## The load law -/

/-- A block that owns no measurement keeps the load law. -/
theorem State.loadLaw.of_measure {s t : State} (h : s.loadLaw) (k : s.MeasureFrame t) : t.loadLaw := by
  obtain ⟨index, formed⟩ := h
  exact ⟨k.load index, by rw [k.formed, k.mfe]; exact formed⟩

/-- The law reads the load index, Mtow and the hitch's drafts, and the two pin channels. -/
theorem State.loadLaw.of_stand {s t : State} (h : s.loadLaw) (k : s.measuresStand t) : t.loadLaw :=
  h.of_measure (.of_stand k)

theorem State.loadLaw.orderNotices {s : State} (h : s.loadLaw) (n : Nat) : (s.orderNotices n).loadLaw := by
  obtain ⟨l, k, eq⟩ := State.orderNotices_frame n s
  rw [eq]
  exact h

/-! ### The arrivals -/

/-- The slip is no part of the law, and its update owns no measurement. -/
theorem State.loadLaw.withdrawSlip {s : State} (h : s.loadLaw) : s.withdrawSlip.loadLaw := by
  have withdrawn : State.loadLaw { s with tre := { s.tre with slip := 0, slipValid := false } } := h
  unfold State.withdrawSlip
  split
  · exact withdrawn.of_measure (.slipUpdate _)
  · exact h

theorem State.loadLaw.speedPair {s : State} (h : s.loadLaw) (ne no : Sample) : (s.speedPair ne no).loadLaw := by
  have paired : ((s.sampleSpeeds ne no).tractionPair ne.valid no.valid).loadLaw := State.loadLaw.withdrawSlip h
  exact (paired.of_measure (.shiftPair _ ne.valid)).of_measure (.calPair _ ne.valid)

theorem State.loadLaw.groundSpeed {s : State} (h : s.loadLaw) (vg : Sample) : (s.groundSpeed vg).loadLaw := by
  refine State.loadLaw.of_measure ?_ (.calGround _)
  refine State.loadLaw.of_measure ?_ (.slipUpdate _)
  exact h

/-- A hitch set forms the draft and then the load index: the law holds after it whatever stood before. -/
theorem State.hitchSet_loadLaw (s : State) (p dl dr : Sample) : (s.hitchSet p dl dr).loadLaw := by
  have frame := State.MeasureFrame.hitchArrival (s.hitchTable p dl dr)
  refine ⟨rfl, ?_⟩
  change (s.hitchTable p dl dr).hitchArrival.htc.formed =
    formDraft (s.hitchTable p dl dr).hitchArrival.mfe.dl (s.hitchTable p dl dr).hitchArrival.mfe.dr
  rw [frame.formed, frame.mfe]
  rfl

theorem State.loadLaw.tractionPedals {s : State} (h : s.loadLaw) : s.tractionPedals.loadLaw := h

theorem State.loadLaw.pedalEpisode {s : State} (h : s.loadLaw) : s.pedalEpisode.loadLaw := by
  unfold State.pedalEpisode
  simp only
  split <;> exact h

theorem State.loadLaw.pedalSet {s : State} (h : s.loadLaw) (bl br : Sample) : (s.pedalSet bl br).loadLaw := by
  have sampled : (s.samplePedals bl br).loadLaw := h
  have copied := sampled.of_measure (.applyTrailerCopies _)
  rw [State.pedalSet_eq]
  exact (copied.tractionPedals.of_measure (.demandAndFront _)).pedalEpisode

theorem State.loadLaw.chargeSet {s : State} (h : s.loadLaw) (pc : Sample) : (s.chargeSet pc).loadLaw := by
  unfold State.chargeSet
  simp only
  split
  · exact h
  · refine State.loadLaw.of_measure ?_ (.chargeChanged _)
    exact h

theorem State.loadLaw.lineSet {s : State} (h : s.loadLaw) (pt : Sample) : (s.lineSet pt).loadLaw := by
  have sampled : (s.sampleLine pt).loadLaw := h
  have judged := sampled.of_measure (.superviseLine _)
  rw [State.lineSet_eq]
  split
  · exact judged.of_measure (.retireWatch _)
  · exact judged

/-! ### The discrete inputs and the timers -/

theorem State.loadLaw.debounceExpiry {s : State} (h : s.loadLaw) (i : DInput) : (s.debounceExpiry i).loadLaw := by
  unfold State.debounceExpiry
  split
  · exact h
  next c _ =>
    have settled : (s.settleInput i c.level).loadLaw := h
    exact (settled.of_measure (.deliverEdge _ i c.level)).of_measure (.offer _ _ _)

theorem State.loadLaw.phaseExpiry {s : State} (h : s.loadLaw) {act : State → ShiftRecord → State}
    (k : ∀ r, s.MeasureFrame (act s r)) (e : EngineState) : (s.phaseExpiry e act).loadLaw :=
  h.of_measure (.phaseExpiry k e)

theorem State.loadLaw.tick {s : State} (h : s.loadLaw) : s.tick.loadLaw := by
  obtain ⟨index, formed⟩ := h
  exact ⟨index, formed⟩

/-! ### The requests -/

/-- A request that keeps the load law. -/
abbrev Answer.keepsLoad (s : State) (a : Answer) : Prop := a.relates (fun s t => s.loadLaw → t.loadLaw) s

/-- A request whose block owns no measurement. -/
abbrev Answer.measures (s : State) (a : Answer) : Prop := a.relates State.MeasureFrame s

theorem Answer.measures.keepsLoad {s : State} {a : Answer} (h : a.measures s) : a.keepsLoad s := by
  cases a with
  | ok t p => exact fun hs => hs.of_measure h
  | refused status => trivial

theorem State.MeasureFrame.putRoad (s : State) (b : Bool) : s.MeasureFrame (s.putRoad b) := by
  unfold State.putRoad
  refine .ite (.refl s) ?_
  cases b <;> exact .of_stand (by simp [State.roadSet, State.roadCleared, Hitch.enter])

theorem State.MeasureFrame.putShiftHold (s : State) (b : Bool) : s.MeasureFrame (s.putShiftHold b) := by
  unfold State.putShiftHold
  have put : s.MeasureFrame { s with rlk := { s.rlk with shiftHold := b } } := .of_stand (by simp)
  exact .ite (.refl s) (.ite put (put.trans (.shiftHoldCleared _)))

theorem State.MeasureFrame.putConditions (s : State) (mask : Byte) (b : Bool) :
    s.MeasureFrame (s.putConditions mask b) := by
  unfold State.putConditions
  have road := State.MeasureFrame.ite (c := mask.getLsbD 0 = true) (.putRoad s b) (.refl s)
  exact .ite (road.trans (.putShiftHold _ b)) road

theorem attachAt_measures {p : Point} {tag : Nat} {steps : State → State} {s : State}
    (h : s.MeasureFrame (steps s)) (first : Nat) : (attachAt p tag steps first s).measures s := by
  unfold attachAt
  split
  · trivial
  · exact h

theorem actAttach_measures (point : Byte) (tag : Half) (fields : FieldSet) (s : State) :
    (actAttach point tag fields s).measures s := by
  unfold actAttach
  split
  · exact attachAt_measures ((State.MeasureFrame.commit s _ _).trans (.limitsChanged _)) _
  · exact attachAt_measures (.commit s _ _) _
  · exact attachAt_measures (.commit s _ _) _
  · trivial

/-- A staged copy written to the table moves neither Mtow nor anything measured. -/
theorem actAmend_measures (handle : Byte) (fields : FieldSet) (s : State) :
    (actAmend handle fields s).measures s := by
  have trailer (r : TrailerRecord) (put : TrailerRecord → State) (hp : ∀ r, s.measuresStand (put r)) :
      (amendTrailer r fields put).measures s := by
    unfold amendTrailer
    split
    · trivial
    · split
      · trivial
      · exact State.MeasureFrame.of_stand (hp _)
  unfold actAmend
  split
  · trivial
  · split
    · trivial
    · unfold amendImplement
      split
      · trivial
      · exact State.MeasureFrame.of_stand (by simp)
  all_goals
    split
    · trivial
    · exact trailer _ _ fun _ => by simp

theorem actRetire_measures (handle : Byte) (s : State) : (actRetire handle s).measures s := by
  have trailer (r : TrailerRecord) (p : Point) (put : Option TrailerRecord → Coupling) :
      (retireTrailer r p put s).measures s := by
    unfold retireTrailer
    split <;> exact State.MeasureFrame.commit s _ _
  unfold actRetire
  split
  · trivial
  · split
    · trivial
    · exact ((State.MeasureFrame.commit s _ _).trans (.retiredHitch _)).trans (.limitsChanged _)
  · split
    · trivial
    · split
      · trivial
      · exact trailer _ _ _
  · split
    · trivial
    · exact trailer _ _ _

theorem restoreTrailer_measures (r : TrailerRecord) (put : TrailerRecord → Coupling) (s : State) :
    (restoreTrailer r put s).measures s := by
  unfold restoreTrailer
  split
  · exact State.MeasureFrame.commit s _ _
  all_goals trivial

theorem actRestore_measures (handle : Byte) (s : State) : (actRestore handle s).measures s := by
  unfold actRestore
  split
  · trivial
  · trivial
  all_goals
    split
    · trivial
    · exact restoreTrailer_measures _ _ s

theorem travelRequest_measures (p : Purpose) (needsRecord : Bool) (opening : Nat) (s : State) :
    (travelRequest p needsRecord opening s).measures s := by
  unfold travelRequest
  split
  · trivial
  · exact State.MeasureFrame.of_stand (by simp [State.beginTravel, Hitch.enter])

theorem NoticeSet.take_enables {n n' : NoticeSet} {x : Notice} (h : n.take = some (x, n')) :
    n'.enables = n.enables := by
  unfold NoticeSet.take at h
  split at h
  · cases h
  · cases h
    rfl

/-- The requests that write the enables, reset the blocks, or set the estimator's parameters. -/
def writesMeasures (i : Instr) : Bool :=
  match i with
  | .enableNotice _ _ | .disableNotice _ _ | .softReset _ | .setTraction _ _ _ _ => true
  | _ => false

/-- Every other request is answered by a block that owns no measurement. -/
theorem requestAct_measures {i : Instr} {act : State → Answer} (h : requestAct i = some act)
    (hi : writesMeasures i = false) (s : State) : (act s).measures s := by
  have stand {t : State} (k : s.measuresStand t) : s.MeasureFrame t := .of_stand k
  cases i <;> simp only [requestAct, Option.some.injEq, reduceCtorEq] at h <;> subst h
  case enableNotice | disableNotice | softReset | setTraction => simp [writesMeasures] at hi
  case nop | status | setShiftProfile | setSupply | withhold | unwithhold => exact stand ⟨rfl, rfl, rfl, rfl, rfl, rfl⟩
  case takeNotice =>
    unfold actTakeNotice
    split
    · trivial
    next taken => exact stand ⟨rfl, rfl, rfl, rfl, rfl, NoticeSet.take_enables taken⟩
  case setCondition mask =>
    unfold actSetCondition
    split
    · exact State.MeasureFrame.putConditions s mask true
    · trivial
  case clearCondition mask =>
    unfold actClearCondition
    split
    · exact State.MeasureFrame.putConditions s mask false
    · trivial
  case attach => exact actAttach_measures _ _ _ s
  case amend => exact actAmend_measures _ _ s
  case retire => exact actRetire_measures _ s
  case restore => exact actRestore_measures _ s
  case lookup =>
    unfold actLookup
    split
    · trivial
    · trivial
    · split
      · trivial
      · exact .refl s
  case defineRatio =>
    unfold actDefineRatio
    simp only
    split
    · split
      · split
        · trivial
        · exact stand (by simp [State.defineEntry])
      · trivial
    · trivial
  case clearRatio =>
    unfold actClearRatio
    simp only
    split
    · split
      · trivial
      · split
        · trivial
        · exact stand (by simp)
    · trivial
  case readRatio =>
    unfold actReadRatio
    split
    · exact .refl s
    · trivial
  case readPack =>
    unfold actReadPack
    split
    · trivial
    · exact .refl s
  case amendPack =>
    unfold actAmendPack
    split
    · exact stand (by simp)
    · trivial
  case clearFault =>
    unfold actClearFault
    split
    · trivial
    · split
      · exact stand (by simp)
      · trivial
  case calibrate =>
    unfold actCalibrate
    split
    · trivial
    · split
      · trivial
      · exact State.MeasureFrame.startCal s _ _ _ _
  case select =>
    unfold actSelect
    split
    · trivial
    · exact State.MeasureFrame.acceptTarget s _
  case step =>
    unfold actStep
    split
    · trivial
    · exact State.MeasureFrame.acceptTarget s _
  case halt =>
    unfold actHalt
    split
    · trivial
    · split <;> exact stand (by simp)
  case setFront =>
    unfold actSetFront
    split
    · trivial
    · exact (stand (by simp)).trans (.evaluateFront _)
  case hitchHold =>
    unfold actHitchHold
    simp only
    split
    · exact .refl s
    · exact State.MeasureFrame.enter s .hold
  case hitchWork =>
    unfold actHitchWork
    split
    · trivial
    · exact State.MeasureFrame.enter s .work
  case hitchGoto | hitchTransport | hitchReturn => exact travelRequest_measures _ _ _ s

theorem State.softReset_loadLaw (s : State) : s.softReset.loadLaw := by
  have tre : s.softReset.tre = .afterReset := rfl
  have htc : s.softReset.htc = .afterReset := rfl
  have cpt : s.softReset.cpt = .afterReset := rfl
  rw [State.loadLaw, tre, htc, cpt]
  exact ⟨rfl, rfl⟩

/-- Every request keeps the load law. -/
theorem requestAct_keepsLoad (i : Instr) (act : State → Answer) (h : requestAct i = some act) (s : State) :
    (act s).keepsLoad s := by
  cases hi : writesMeasures i with
  | false => exact (requestAct_measures h hi s).keepsLoad
  | true =>
    cases i <;> simp only [writesMeasures, reduceCtorEq] at hi <;>
      simp only [requestAct, Option.some.injEq] at h <;> subst h
    case enableNotice =>
      unfold actEnableNotice
      split
      · trivial
      · exact id
    case disableNotice =>
      unfold actDisableNotice
      split
      · trivial
      · exact id
    case softReset => exact fun _ => s.softReset_loadLaw
    case setTraction => exact fun hs => State.loadLaw.withdrawSlip hs

/-! ### Every command -/

theorem event_keepsLoad {f : State → State} {s t : State} (hf : s.loadLaw → (f s).loadLaw) (hs : s.loadLaw)
    (h : event f s = .next t) : t.loadLaw :=
  event_keeps (fun n _ hs => hs.orderNotices n) hf hs h

theorem event_measures_keepsLoad {f : State → State} {s t : State} (hf : s.MeasureFrame (f s)) (hs : s.loadLaw)
    (h : event f s = .next t) : t.loadLaw :=
  event_keepsLoad (fun hs => hs.of_measure hf) hs h

theorem exec_keepsLoad (i : Instr) (s t : State) (hs : s.loadLaw) (h : exec i s = .next t) : t.loadLaw := by
  have taken {take : State → State × Reply} {k : Nat} (ht : ∀ u, u.loadLaw → (take u).1.loadLaw)
      (h : transaction k take s = .next t) : t.loadLaw :=
    transaction_keeps (fun n _ hs => hs.orderNotices n) (fun _ _ hs => hs) (ht _) hs h
  cases hr : requestParts i with
  | some parts =>
    obtain ⟨act, hact, he⟩ := exec_request (code := parts.1) (payload := parts.2.1) (extra := parts.2.2) hr s
    rw [he] at h
    refine taken (fun u hu => ?_) h
    have keeps := requestAct_keepsLoad i act hact u
    cases ha : act u with
    | ok v p =>
      rw [ha] at keeps
      exact keeps hu
    | refused status => exact hu
  | none =>
    cases i <;> simp only [requestParts, reduceCtorEq] at hr
    case frameRejected bytes =>
      cases bytes with
      | nil => exact next_keeps hs h
      | cons code rest =>
        exact taken (fun u hu => takeFrame_keeps (fun _ _ hs => hs) requestAct_keepsLoad code _ hu) h
    case windowTransaction =>
      refine next_keeps ?_ h
      split <;> exact hs
    case noByteTransaction => exact next_keeps hs h
    case powerOnReset | hardReset => exact next_keeps (State.fullReset_freshlyReset s _).loadLaw h
    case rstHeldLow => exact next_keeps (s := s.holdReset) s.softReset_loadLaw h
    case rawInputChange => exact next_keeps (s := s.rawInput _ _) hs h
    case startUpWindowClose => exact event_keepsLoad id hs h
    case speedPairArrival ne no => exact event_keepsLoad (fun hs => hs.speedPair ne no) hs h
    case groundSpeedArrival vg => exact event_keepsLoad (fun hs => hs.groundSpeed vg) hs h
    case hitchSetArrival p dl dr => exact event_keepsLoad (fun _ => s.hitchSet_loadLaw p dl dr) hs h
    case pedalSetArrival bl br => exact event_keepsLoad (fun hs => hs.pedalSet bl br) hs h
    case chargeArrival pc => exact event_keepsLoad (fun hs => hs.chargeSet pc) hs h
    case lineArrival pt => exact event_keepsLoad (fun hs => hs.lineSet pt) hs h
    case debounceTimerExpiry i => exact event_keepsLoad (fun hs => hs.debounceExpiry i) hs h
    case pendingTimerExpiry p => exact event_measures_keepsLoad (.pendingExpiry s p) hs h
    case seatTimerExpiry => exact event_measures_keepsLoad (.seatExpiry s) hs h
    case supplyWaitTimerExpiry => exact event_measures_keepsLoad (.phaseExpiry (.noSupply s) _) hs h
    case fillTimerExpiry => exact event_measures_keepsLoad (.phaseExpiry (.startHandover s) _) hs h
    case handoverTimerExpiry => exact event_measures_keepsLoad (.phaseExpiry (.startConfirm s) _) hs h
    case confirmTimerExpiry => exact event_measures_keepsLoad (.phaseExpiry (.confirmExpired s) _) hs h
    case intervalTimerExpiry => exact event_measures_keepsLoad (.intervalExpiry s) hs h
    case fillSupplyGrant => exact event_measures_keepsLoad (.grantDecision s) hs h
    case partnerFillTimerExpiry p => exact event_measures_keepsLoad (.partnerExpiry s p) hs h
    case settleTimerExpiry => exact event_measures_keepsLoad (.settleExpiry s) hs h
    case stepTimerExpiry => exact event_measures_keepsLoad (.stepExpiry s) hs h
    case releaseDelayTimerExpiry => exact event_measures_keepsLoad (.releaseExpiry s) hs h
    case fdpFillTimerExpiry => exact event_measures_keepsLoad (.fdpExpiry s) hs h
    case travelTimerExpiry => exact event_measures_keepsLoad (.travelExpiry s) hs h
    case retireWatch => exact event_measures_keepsLoad (.ite (.retireWatch s) (.refl s)) hs h

/-- Settles O57: whoever moves Mtow or the draft held forms the load index, and a hitch set forms the draft. -/
theorem everyStepKeepsTheLoadLaw : Obligations.EveryStepKeepsTheLoadLaw := by
  intro s t hs h
  exact step_keeps (P := State.loadLaw) (fun _ _ hs => hs) (fun _ hs => hs.tick) exec_keepsLoad hs h

end Sys2Proof.Machine

namespace Sys2Proof.Machine

/-! ## What the reset kinds leave and keep -/

/-- The blocks as every reset kind leaves them, whatever the map, the packs and the straps. -/
structure State.blocksReset (t : State) : Prop where
  mfe : t.mfe = .afterReset t.mfe.inputs
  tre : t.tre = .afterReset
  cpt : t.cpt = .afterReset
  fsa : t.fsa = .afterReset
  she : t.she = .afterReset
  cau : t.cau = .afterReset
  frd : t.frd = .afterReset
  htc : t.htc = .afterReset
  tbc : t.tbc = .afterReset
  nts : t.nts = .afterReset
  road : t.rlk.road = false
  shiftHold : t.rlk.shiftHold = false

/-- The reset values are those the rules give (R28, R33, R46, R69, R76, R113, R129, R142, R162, R173, R181,
R188). -/
theorem State.blocksReset.afterAnyReset {t : State} (h : t.blocksReset) : t.afterAnyReset := by
  obtain ⟨mfe, tre, cpt, fsa, she, cau, frd, htc, tbc, nts, road, shiftHold⟩ := h
  have channel : Chan.unsampled.isUnsampled := ⟨rfl, rfl, rfl⟩
  have enables : ∀ k, k < 23 → NoticeSet.afterReset.enables.getLsbD k = decide (k < 11) := by decide
  rw [State.afterAnyReset, mfe, tre, cpt, fsa, she, cau, frd, htc, tbc, nts]
  exact ⟨⟨channel, channel, channel, channel, channel, channel, channel, channel, channel, channel⟩,
    ⟨rfl, rfl, rfl, rfl, rfl, rfl, rfl, rfl, rfl, rfl, rfl⟩, ⟨rfl, rfl, rfl, rfl, rfl, rfl⟩,
    ⟨rfl, rfl, rfl, rfl, rfl⟩,
    ⟨rfl, rfl, rfl, rfl, rfl, rfl, rfl, rfl, rfl, rfl, ⟨rfl, rfl, rfl, rfl, rfl, rfl, rfl, rfl, rfl, rfl⟩⟩,
    ⟨rfl, rfl⟩, ⟨rfl, rfl, rfl, rfl, rfl, rfl, rfl, rfl, rfl, rfl⟩, ⟨rfl, rfl, rfl, rfl, rfl, rfl, rfl⟩,
    ⟨rfl, rfl, rfl, rfl⟩, road, shiftHold, ⟨rfl, rfl, enables⟩⟩

/-- A pack given up by a reset: RELEASED, with no fault cause and no staged copy (R63, R64). -/
structure PackRecord.givenUp (p : PackRecord) : Prop where
  state : p.state = .released
  cause : p.cause = .none
  staged : p.staged = none

theorem PackRecord.givenUp.command {p : PackRecord} (h : p.givenUp) (step : Nat) : p.command step = 0 := by
  rw [PackRecord.command, h.state]

theorem PackRecord.softReset_givenUp (p : PackRecord) : p.softReset.givenUp := ⟨rfl, rfl, rfl⟩

theorem PackFile.softReset_givenUp (f : PackFile) (p : PackId) : ((f.all PackRecord.softReset).get p).givenUp := by
  rw [PackFile.get_all]
  exact (f.get p).softReset_givenUp

theorem PackFile.afterReset_givenUp (p : PackId) : (PackFile.afterReset.get p).givenUp :=
  ⟨(afterReset_fresh p).state, (afterReset_fresh p).cause, (afterReset_fresh p).staged⟩

/-- A valve is driven at 0 where its command is 0, held in reset or not. -/
theorem ite_held_zero {b : Bool} {n : Nat} (h : n = 0) : (if b then 0 else n) = 0 := by
  rw [h, ite_self]

/-- With FDP RELEASED the front drive is engaged under the spring kind alone (R130). -/
theorem State.engaged_of_released {t : State} (h : t.packs.fdp.state = .released) :
    t.engaged = true ↔ t.straps.fdkind = .spring := by
  rw [State.engaged, h]
  cases t.straps.fdkind <;> simp

theorem State.softReset_blocksReset (s : State) : s.softReset.blocksReset :=
  ⟨rfl, rfl, rfl, rfl, rfl, rfl, rfl, rfl, rfl, rfl, rfl, rfl⟩

theorem State.fullReset_blocksReset (s : State) (straps : Straps) : (s.fullReset straps).blocksReset :=
  ⟨rfl, rfl, rfl, rfl, rfl, rfl, rfl, rfl, rfl, rfl, rfl, rfl⟩

/-- The reply in the buffer is no part of the blocks. -/
theorem State.blocksReset.pend {t : State} (h : t.blocksReset) (r : Reply) : (t.pend r).blocksReset := by
  obtain ⟨mfe, tre, cpt, fsa, she, cau, frd, htc, tbc, nts, road, shiftHold⟩ := h
  exact ⟨mfe, tre, cpt, fsa, she, cau, frd, htc, tbc, nts, road, shiftHold⟩

/-- A SOFT_RESET taken: the blocks reset, then the reply OK in the buffer (R180). -/
theorem exec_softReset_of_listens {s : State} (h : s.listens) (extra : Nat) :
    exec (.softReset extra) s = .next ((s.settleReply (3 + extra)).softReset.pend ⟨0x08, .ok, []⟩) := by
  rw [exec_softReset]
  exact request_ok (act := actSoftReset) (t := (s.settleReply (0 + 3 + extra)).softReset) h rfl (Nat.zero_le _)

/-- Settles O12. -/
theorem everyResetLeaves : Obligations.EveryResetLeaves := by
  unfold Obligations.EveryResetLeaves
  intro leaves
  have left {t : State} (blocks : t.blocksReset) (packs : ∀ p, (t.packs.get p).givenUp) : leaves t := by
    refine ⟨blocks.afterAnyReset, fun p => ?_, ite_held_zero ?_, ite_held_zero ?_, ite_held_zero ?_, ?_, ?_, ?_,
      State.engaged_of_released (packs .fdp).state⟩
    · exact ⟨(packs p).state, (packs p).cause, (packs p).staged, ite_held_zero ((packs p).command _)⟩
    · rw [blocks.htc]; rfl
    · rw [blocks.htc]; rfl
    · rw [blocks.tbc]; rfl
    · rw [State.liftLimit, blocks.cpt]; rfl
    · rw [State.depthLimit, blocks.cpt]; rfl
    · rw [State.loweringCeiling, blocks.cpt]; rfl
  refine ⟨fun extra s hs => ⟨_, exec_softReset_of_listens hs extra, ?_⟩, fun gearset fdkind s => ⟨_, rfl, ?_⟩,
    fun gearset fdkind s => ⟨_, rfl, ?_⟩⟩
  · exact left ((State.softReset_blocksReset _).pend _) (PackFile.softReset_givenUp s.packs)
  · exact left (s.fullReset_blocksReset _) PackFile.afterReset_givenUp
  · exact left (s.fullReset_blocksReset _) PackFile.afterReset_givenUp

/-! ### What is kept -/

theorem PackFile.afterReset_default (p : PackId) :
    if p = .fdp then (PackFile.afterReset.get p).isFdpDefault else (PackFile.afterReset.get p).isGearboxDefault := by
  cases p <;> exact ⟨rfl, rfl, rfl, rfl, rfl⟩

theorem Inputs.afterReset_isStarted (f : Inputs) (i : DInput) : (f.afterReset.get i).isStarted (f.get i).raw := by
  cases i <;> exact ⟨rfl, rfl, rfl⟩

/-- READ_RATIO of an undefined map with no withhold bit set: neutral usable, every other index undefined
(R52; log 31). -/
theorem State.ratioPayload_afterReset {t : State} (h : t.rmp = .afterReset) (i : Nat) :
    t.ratioPayload i =
      [byte i, byte (if i = 0 then 4 else 0), 0#8, 0#8, 0#8, 0#8, 0#8, byte (if i = 0 then 0 else 1)] := by
  have withheld : t.rmp.isWithheld i = false := by simp [h, RatioMap.isWithheld, RatioMap.afterReset]
  have undefined : t.rmp.entry i = none := by rw [h]; rfl
  unfold State.ratioPayload
  by_cases neutral : i = 0
  · subst neutral
    rfl
  · simp only [if_neg neutral, undefined, withheld]
    rfl

theorem formUsable_of_givenUp (m : RatioMap) {f : PackFile} (h : ∀ p, (f.get p).givenUp) (e : RatioEntry) :
    formUsable m f e = !m.withheld.getLsbD (e.index - 1) := by
  have sound : (e.packs.any fun p => (f.get p).faulted) = false := by
    simp [PackRecord.faulted, (h _).state]
  rw [formUsable, sound]
  simp [RatioMap.isWithheld]

/-- A soft reset keeps the map and forms the usability of its entries again: no pack being in FAULT, the
withhold mask alone decides (R54, R65). -/
theorem State.softReset_entries (s : State) :
    s.softReset.rmp.entries =
      s.rmp.entries.map fun e => { e with usable := !s.rmp.withheld.getLsbD (e.index - 1) } := by
  have formed : s.softReset.rmp.entries =
      s.rmp.entries.map fun e => { e with usable := formUsable s.rmp (s.packs.all PackRecord.softReset) e } := rfl
  simp only [formed, formUsable_of_givenUp s.rmp (PackFile.softReset_givenUp s.packs)]

/-- Settles O13. -/
theorem whatEachResetKindKeeps : Obligations.WhatEachResetKindKeeps := by
  unfold Obligations.WhatEachResetKindKeeps
  refine ⟨?_, fun extra s hs => ⟨_, exec_softReset_of_listens hs extra, rfl, ?_, fun p => ?_, fun p => ?_, rfl, rfl,
    rfl, ?_⟩⟩
  · intro leaves gearset fdkind s
    have left : leaves s (s.fullReset ⟨gearset, fdkind⟩) gearset fdkind :=
      ⟨rfl, rfl, rfl, rfl, PackFile.afterReset_default, fun p => (PackFile.afterReset_givenUp p).command _,
        s.mfe.inputs.afterReset_isStarted, fun i _ => State.ratioPayload_afterReset rfl i⟩
    exact ⟨⟨_, rfl, left⟩, _, rfl, left⟩
  · exact State.softReset_entries (s.settleReply (3 + extra))
  · exact PackFile.get_all s.packs PackRecord.softReset p
  · exact (PackFile.softReset_givenUp s.packs p).command _
  · obtain ⟨-, window⟩ := hs
    exact window

end Sys2Proof.Machine

namespace Sys2Proof.Machine

/-! ## The Measurement Front End -/

theorem State.sameButOrder.mfe {n : Nat} {u t : State} (h : State.sameButOrder n u t) : t.mfe = u.mfe := by
  obtain ⟨_, _, -, rfl⟩ := h
  rfl

/-- What a front end says of an event's next state, the event's effect having it. -/
theorem event_mfe {f : State → State} {s : State} {m : FrontEnd} {P : State → Prop} (h : s.heldInReset = false)
    (hm : (f s).mfe = m) (hp : ∀ t, t.mfe = m → P t) : ∃ t, event f s = .next t ∧ P t := by
  obtain ⟨t, done, same⟩ := event_sameButOrder f h
  exact ⟨t, done, hp t (same.mfe.trans hm)⟩

/-! ### The arrivals: their channels, and no other -/

theorem State.speedPair_mfe (s : State) (ne no : Sample) : (s.speedPair ne no).mfe = (s.sampleSpeeds ne no).mfe := by
  simp [State.speedPair, State.tractionPair]

theorem State.groundSpeed_mfe (s : State) (vg : Sample) :
    (s.groundSpeed vg).mfe = { s.mfe with vg := s.mfe.vg.sample 8000 vg } := by
  simp [State.groundSpeed, State.groundSlip]

theorem State.hitchTable_frame (s : State) (p dl dr : Sample) :
    (s.sampleHitch p dl dr).MeasureFrame (s.hitchTable p dl dr) :=
  (State.MeasureFrame.applyImplementCopy _).trans (.acceptImplement _ p.valid)

theorem State.hitchSet_mfe (s : State) (p dl dr : Sample) :
    (s.hitchSet p dl dr).mfe = (s.sampleHitch p dl dr).mfe :=
  (State.MeasureFrame.hitchArrival _).mfe.trans (s.hitchTable_frame p dl dr).mfe

theorem State.pedalSet_mfe (s : State) (bl br : Sample) : (s.pedalSet bl br).mfe = (s.samplePedals bl br).mfe := by
  rw [State.pedalSet_eq, (State.pedalEpisode_train _).2.1, (State.demandAndFront_frame _).mfe]
  exact (State.MeasureFrame.applyTrailerCopies _).mfe

theorem State.chargeSet_mfe (s : State) (pc : Sample) :
    (s.chargeSet pc).mfe = { s.mfe with pc := s.mfe.pc.sample 300 pc } := by
  unfold State.chargeSet
  simp only
  split
  · rfl
  · exact (State.MeasureFrame.chargeChanged _).mfe

theorem State.lineSet_mfe (s : State) (pt : Sample) : (s.lineSet pt).mfe = (s.sampleLine pt).mfe := by
  have judged := State.MeasureFrame.superviseLine (s.sampleLine pt)
  rw [State.lineSet_eq]
  exact (State.MeasureFrame.ite (judged.trans (.retireWatch _)) judged).mfe

/-- Settles O27: each arrival's channels take the sample step; every block after them leaves the front end. -/
theorem arrivalsUpdateTheirChannels : Obligations.ArrivalsUpdateTheirChannels := by
  intro s hs
  have step (hi : Nat) (x : Sample) (c : Chan) := Chan.sample_follows hi x c
  refine ⟨fun ne no => ?_, fun vg => ?_, fun p dl dr => ?_, fun bl br => ?_, fun pc => ?_, fun pt => ?_⟩
  · refine event_mfe hs (s.speedPair_mfe ne no) fun t mfe => ?_
    rw [mfe]
    exact ⟨step _ _ _, step _ _ _, rfl⟩
  · refine event_mfe hs (s.groundSpeed_mfe vg) fun t mfe => ?_
    rw [mfe]
    exact ⟨step _ _ _, rfl⟩
  · refine event_mfe hs (s.hitchSet_mfe p dl dr) fun t mfe => ?_
    rw [mfe]
    exact ⟨step _ _ _, step _ _ _, step _ _ _, rfl⟩
  · refine event_mfe hs (s.pedalSet_mfe bl br) fun t mfe => ?_
    rw [mfe]
    exact ⟨step _ _ _, step _ _ _, rfl⟩
  · refine event_mfe hs (s.chargeSet_mfe pc) fun t mfe => ?_
    rw [mfe]
    exact ⟨step _ _ _, rfl⟩
  · refine event_mfe hs (s.lineSet_mfe pt) fun t mfe => ?_
    rw [mfe]
    exact ⟨step _ _ _, rfl⟩

/-! ### The discrete inputs -/

theorem State.rawInput_eq {s : State} (h : s.heldInReset = false) (i : DInput) (raw : Bool) :
    s.rawInput i raw =
      { s with mfe := { s.mfe with inputs := s.mfe.inputs.set i ((s.mfe.inputs.get i).rawChange raw) } } := by
  simp [State.rawInput, h]

theorem Inputs.set_get (f : Inputs) (i : DInput) : f.set i (f.get i) = f := by
  cases i <;> rfl

/-- A raw level that does not change starts and stops nothing. -/
theorem Contact.rawChange_same (c : Contact) : c.rawChange c.raw = c := if_pos rfl

/-- A raw level that comes to differ from the debounced level starts the timer (R34). -/
theorem Contact.rawChange_differs {c : Contact} {raw : Bool} (hr : c.raw ≠ raw) (hl : c.level ≠ raw) :
    c.rawChange raw = { c with raw := raw, candidate := some ⟨raw, 20⟩ } := by
  rw [Contact.rawChange, if_neg hr.symm, if_neg hl.symm]

/-- A raw level that returns to the debounced level stops the timer (R34). -/
theorem Contact.rawChange_returns {c : Contact} {raw : Bool} (hr : c.raw ≠ raw) (hl : c.level = raw) :
    c.rawChange raw = { c with raw := raw, candidate := none } := by
  rw [Contact.rawChange, if_neg hr.symm, if_pos hl.symm]

/-- The blocks that use an input leave the front end and the enables, so the edge's own notice enters by
them as they stood (R35, R185). -/
theorem State.debouncedEdge_shows {s : State} {i : DInput} {level : Bool}
    (h : s.nts.enabled (.input i level) = true) :
    (s.debouncedEdge i level).nts.shows (.input i level) [byte (inputCode i)] := by
  have delivered := State.MeasureFrame.deliverEdge (s.settleInput i level) i level
  refine NoticeSet.offer_shows ?_ _
  rw [delivered.enabled]
  exact h

theorem State.debouncedEdge_mfe (s : State) (i : DInput) (level : Bool) :
    (s.debouncedEdge i level).mfe = (s.settleInput i level).mfe :=
  (State.MeasureFrame.deliverEdge (s.settleInput i level) i level).mfe

/-- Settles O28. -/
theorem inputsAreDebounced : Obligations.InputsAreDebounced := by
  intro i s hs
  refine ⟨fun raw same => ?_, fun raw hr hl => ?_, fun raw hr hl => ?_, fun stopped => ?_, fun c running => ?_⟩
  · subst same
    rw [exec_rawInputChange, State.rawInput_eq hs, Contact.rawChange_same, Inputs.set_get]
  · rw [exec_rawInputChange, State.rawInput_eq hs, Contact.rawChange_differs hr hl]
  · rw [exec_rawInputChange, State.rawInput_eq hs, Contact.rawChange_returns hr hl]
  · exact event_same hs (by rw [State.debounceExpiry, stopped])
  · have edge : s.debounceExpiry i = s.debouncedEdge i c.level := by rw [State.debounceExpiry, running]
    obtain ⟨t, done, same⟩ := event_sameButOrder (State.debounceExpiry i) hs
    rw [edge] at same
    exact ⟨t, done, same.mfe.trans (s.debouncedEdge_mfe i c.level),
      fun enabled => same.shows (State.debouncedEdge_shows enabled)⟩

end Sys2Proof.Machine

namespace Sys2Proof.Machine

/-! ## The Traction Estimator -/

theorem State.sameButOrder.tre {n : Nat} {u t : State} (h : State.sameButOrder n u t) : t.tre = u.tre := by
  obtain ⟨_, _, -, rfl⟩ := h
  rfl

theorem State.sameButOrder.tbc {n : Nat} {u t : State} (h : State.sameButOrder n u t) : t.tbc = u.tbc := by
  obtain ⟨_, _, -, rfl⟩ := h
  rfl

/-! ### The withdrawal of slip -/

/-- A valid slip has lost a condition: No is FAILED, or Vw is below Vmin (R40). -/
abbrev State.slipLost (s : State) : Prop :=
  s.tre.slipValid = true ∧ (s.mfe.no.state = .failed ∨ s.tre.vw < s.tre.vmin)

/-- A state with its slip withdrawn, before the front drive hears of it (R40). -/
def State.slipWithdrawn (s : State) : State := { s with tre := { s.tre with slip := 0, slipValid := false } }

theorem State.withdrawSlip_eq (s : State) :
    s.withdrawSlip = if s.slipLost then s.slipWithdrawn.slipUpdate else s := by
  simp only [State.withdrawSlip, Chan.failed, Bool.and_eq_true, Bool.or_eq_true, decide_eq_true_eq]
  rfl

/-- The estimate after the check (R40). -/
def State.checkedSlip (s : State) : Traction :=
  { s.tre with slip := if s.slipLost then 0 else s.tre.slip
               slipValid := if s.slipLost then false else s.tre.slipValid }

/-- The check withdraws a slip that has lost a condition, and the front drive's part in it owns no
measurement. -/
theorem State.withdrawSlip_frame (s : State) : State.MeasureFrame { s with tre := s.checkedSlip } s.withdrawSlip := by
  rw [State.withdrawSlip_eq]
  unfold State.checkedSlip
  split
  · exact .slipUpdate s.slipWithdrawn
  · exact .refl s

/-! ### The speed pair -/

/-- A speed pair's Vw and measured ratio (R37, R38). -/
def State.formPair (s : State) (ne no : Sample) : State :=
  { s.sampleSpeeds ne no with tre := { s.tre with
      vw := min 8000 ((s.mfe.no.sample 4000 no).held * s.tre.kw / 4096)
      rm := if ne.valid = true ∧ no.valid = true ∧ 500 ≤ (s.mfe.ne.sample 3500 ne).held then
          some ((s.mfe.no.sample 4000 no).held * 1000 / (s.mfe.ne.sample 3500 ne).held)
        else none } }

theorem State.tractionPair_eq (s : State) (ne no : Sample) :
    (s.sampleSpeeds ne no).tractionPair ne.valid no.valid = (s.formPair ne no).withdrawSlip := by
  simp only [State.tractionPair, measuredRatio, Bool.and_eq_true, decide_eq_true_eq, and_assoc]
  rfl

/-- The Shift Engine and the Calibration Unit take the pair after the estimator and own no measurement. -/
theorem State.speedPair_frame (s : State) (ne no : Sample) :
    State.MeasureFrame { s.formPair ne no with tre := (s.formPair ne no).checkedSlip } (s.speedPair ne no) := by
  have pair := (s.formPair ne no).withdrawSlip_frame
  rw [← State.tractionPair_eq] at pair
  exact (pair.trans (.shiftPair _ ne.valid)).trans (.calPair _ ne.valid)

/-! ### The ground-speed arrival -/

/-- The slip a ground-speed arrival forms, by the conditions of R39 in their order. -/
theorem formSlip_eq (no vg : Chan) (vw vmin : Nat) :
    formSlip no.failed vg.failed vg.held vw vmin =
      if no.state = .failed ∨ vg.state = .failed then (0, false)
      else if vw < vmin then (0, false)
      else if vw ≤ vg.held then (0, true)
      else ((vw - vg.held) * 1000 / vw, true) := by
  simp [formSlip, Chan.failed]

/-- A ground-speed sample at its channel, and the slip formed (R30, R31, R39). -/
def State.formGround (s : State) (vg : Sample) : State :=
  let c := s.mfe.vg.sample 8000 vg
  let slip := formSlip s.mfe.no.failed c.failed c.held s.tre.vw s.tre.vmin
  { s with mfe := { s.mfe with vg := c }, tre := { s.tre with slip := slip.1, slipValid := slip.2 } }

theorem State.groundSpeed_frame (s : State) (vg : Sample) :
    (s.formGround vg).MeasureFrame (s.groundSpeed vg) :=
  (State.MeasureFrame.slipUpdate (s.formGround vg)).trans (.calGround _)

/-! ### The pedal set -/

/-- Braking is detected: by both pedals, or by the one that has not FAILED (R42). -/
abbrev pedalsDetect (l r : Chan) (bth : Nat) : Prop :=
  (l.state ≠ .failed ∧ r.state ≠ .failed ∧ bth ≤ l.held ∧ bth ≤ r.held) ∨
    (l.state = .failed ∧ r.state ≠ .failed ∧ bth ≤ r.held) ∨ (l.state ≠ .failed ∧ r.state = .failed ∧ bth ≤ l.held)

/-- The braking flag and Bt, by which pedals have failed (R42). -/
theorem formBraking_eq (l r : Chan) (bth : Nat) :
    formBraking l r bth =
      if pedalsDetect l r bth then
        (true, max (if l.state = .failed then 0 else l.held) (if r.state = .failed then 0 else r.held))
      else (false, 0) := by
  by_cases hl : l.state = .failed
  · by_cases hr : r.state = .failed
    · simp [formBraking, pedalsDetect, Chan.failed, hl, hr]
    · simp [formBraking, pedalsDetect, Chan.failed, hl, hr]
  · by_cases hr : r.state = .failed
    · simp [formBraking, pedalsDetect, Chan.failed, hl, hr]
    · simp [formBraking, pedalsDetect, Chan.failed, hl, hr]

theorem formBraking_spec (l r : Chan) (bth : Nat) :
    ((formBraking l r bth).1 = true ↔ pedalsDetect l r bth) ∧
      (pedalsDetect l r bth → (formBraking l r bth).2 =
        max (if l.state = .failed then 0 else l.held) (if r.state = .failed then 0 else r.held)) ∧
      (¬ pedalsDetect l r bth → (formBraking l r bth).2 = 0) := by
  rw [formBraking_eq]
  by_cases detected : pedalsDetect l r bth
  · rw [if_pos detected]
    exact ⟨iff_of_true rfl detected, fun _ => rfl, fun h => absurd detected h⟩
  · rw [if_neg detected]
    exact ⟨iff_of_false nofun detected, fun h => absurd h detected, fun _ => rfl⟩

/-- A pedal set at its channels, the braking flag and Bt formed (R30, R31, R42). -/
def State.readPedals (s : State) (bl br : Sample) : State := (s.samplePedals bl br).tractionPedals

/-- The blocks that take a pedal set before its pedal-loss report. -/
def State.pedalsTaken (s : State) (bl br : Sample) : State :=
  (s.samplePedals bl br).applyTrailerCopies.tractionPedals.demandAndFront

/-- The estimator reads the pedals and Bth alone, which the table's change before it leaves. -/
theorem State.MeasureFrame.tractionPedals {s t : State} (h : s.MeasureFrame t) :
    s.tractionPedals.MeasureFrame t.tractionPedals := by
  refine ⟨h.mfe, ?_, h.formed, h.enables, h.load⟩
  change ({ t.tre with
    braking := (formBraking t.mfe.bl t.mfe.br t.tre.bth).1
    bt := (formBraking t.mfe.bl t.mfe.br t.tre.bth).2 } : Traction) = _
  rw [h.mfe, h.tre]
  rfl

theorem State.pedalsTaken_frame (s : State) (bl br : Sample) :
    (s.readPedals bl br).MeasureFrame (s.pedalsTaken bl br) :=
  (State.MeasureFrame.tractionPedals (.applyTrailerCopies _)).trans (.demandAndFront _)

theorem State.pedalEpisode_tre (s : State) :
    s.pedalEpisode.tre = { s.tre with pedalLoss := s.mfe.bl.failed && s.mfe.br.failed } := by
  unfold State.pedalEpisode
  simp only
  split <;> rfl

/-- The estimate after the episode, over what the table, the brake and the front drive left of it. -/
theorem State.MeasureFrame.pedalEpisode_tre {s t : State} (h : s.MeasureFrame t) :
    t.pedalEpisode.tre =
      { s.tre with pedalLoss := t.mfe.bl.failed && t.mfe.br.failed, loadIndex := t.pedalEpisode.tre.loadIndex } := by
  rw [State.pedalEpisode_tre, h.tre]

/-- The beginning of an episode is reported with the demand as it stands then (R43, R184). -/
theorem State.pedalEpisode_reports {s : State} (lost : s.pedalEpisode.tre.pedalLoss = true)
    (before : s.tre.pedalLoss = false) (h : s.nts.enabled (.trailer .sensor) = true) :
    s.pedalEpisode.nts.shows (.trailer .sensor)
      [byte (s.tbc.demand / 256), byte s.tbc.demand, byte (s.mfe.pt.held / 256), byte s.mfe.pt.held,
        byte s.mfe.pt.state.code, 0] := by
  rw [State.pedalEpisode_tre] at lost
  unfold State.pedalEpisode
  simp only
  rw [if_pos (by simpa [before] using lost)]
  exact NoticeSet.offer_shows h _

/-! ### SET_TRACTION -/

/-- The three parameters put in force, and Vw formed with the new Kw (R45). -/
def State.tractionSet (s : State) (kw vmin bth : Nat) : State :=
  { s with tre := { s.tre with kw := kw, vmin := vmin, bth := bth, vw := min 8000 (s.mfe.no.held * kw / 4096) } }

theorem actSetTraction_eq (kw vmin bth : Half) (s : State) :
    let kw' := max 1024 (min 16383 kw.toNat)
    let vmin' := max 50 (min 500 vmin.toNat)
    let bth' := max 50 (min 500 bth.toNat)
    actSetTraction kw vmin bth s =
      .ok (s.tractionSet kw' vmin' bth').withdrawSlip
        [byte (kw' / 256), byte kw', byte (vmin' / 256), byte vmin', byte (bth' / 256), byte bth'] := by
  simp only [actSetTraction, clamp_eq (show 1024 ≤ 16383 by omega), clamp_eq (show 50 ≤ 500 by omega)]
  rfl

/-! ### The estimate after each -/

/-- The slip after the check, as R40 has it. -/
theorem State.checkedSlip_pair (s : State) :
    (s.checkedSlip.slip, s.checkedSlip.slipValid) =
      if s.slipLost then (0, false) else (s.tre.slip, s.tre.slipValid) := by
  unfold State.checkedSlip
  split <;> rfl

theorem State.sameButOrder.speedPair {s t : State} {ne no : Sample} {n : Nat}
    (h : State.sameButOrder n (s.speedPair ne no) t) :
    t.mfe = (s.sampleSpeeds ne no).mfe ∧
      t.tre = { (s.formPair ne no).checkedSlip with loadIndex := t.tre.loadIndex } := by
  have frame := s.speedPair_frame ne no
  refine ⟨h.mfe.trans frame.mfe, ?_⟩
  rw [h.tre]
  exact frame.tre

theorem State.sameButOrder.groundSpeed {s t : State} {vg : Sample} {n : Nat}
    (h : State.sameButOrder n (s.groundSpeed vg) t) :
    t.mfe = (s.formGround vg).mfe ∧ t.tre = { (s.formGround vg).tre with loadIndex := t.tre.loadIndex } := by
  have frame := s.groundSpeed_frame vg
  refine ⟨h.mfe.trans frame.mfe, ?_⟩
  rw [h.tre]
  exact frame.tre

theorem State.sameButOrder.pedalSet {s t : State} {bl br : Sample} {n : Nat}
    (h : State.sameButOrder n (s.pedalSet bl br) t) :
    t.mfe = (s.pedalsTaken bl br).mfe ∧ t.tbc = (s.pedalsTaken bl br).tbc ∧
      t.tre = { (s.readPedals bl br).tre with
        pedalLoss := t.mfe.bl.failed && t.mfe.br.failed, loadIndex := t.tre.loadIndex } := by
  have frame := s.pedalsTaken_frame bl br
  have eq : s.pedalSet bl br = (s.pedalsTaken bl br).pedalEpisode := s.pedalSet_eq bl br
  rw [eq] at h
  obtain ⟨-, mfe, tbc⟩ := (s.pedalsTaken bl br).pedalEpisode_train
  refine ⟨h.mfe.trans mfe, h.tbc.trans tbc, ?_⟩
  rw [h.tre, h.mfe, mfe]
  exact frame.pedalEpisode_tre

/-- The braking flag and Bt after a pedal set are formed of the channels after it. -/
theorem State.sameButOrder.pedalBraking {s t : State} {bl br : Sample} {n : Nat}
    (h : State.sameButOrder n (s.pedalSet bl br) t) :
    (t.tre.braking, t.tre.bt) = formBraking t.mfe.bl t.mfe.br s.tre.bth := by
  obtain ⟨mfe, -, tre⟩ := h.pedalSet
  rw [(s.pedalsTaken_frame bl br).mfe] at mfe
  rw [tre, mfe]
  rfl

theorem State.sameButOrder.pedalLoss {s t : State} {bl br : Sample} {n : Nat}
    (h : State.sameButOrder n (s.pedalSet bl br) t) :
    t.tre.pedalLoss = true ↔ t.mfe.bl.state = .failed ∧ t.mfe.br.state = .failed := by
  obtain ⟨-, -, tre⟩ := h.pedalSet
  rw [tre]
  simp [Chan.failed]

/-- A pedal-loss episode that begins is shown, with the demand formed at the same arrival (R43). -/
theorem State.sameButOrder.pedalReport {s t : State} {bl br : Sample} {n : Nat}
    (h : State.sameButOrder n (s.pedalSet bl br) t) (lost : t.tre.pedalLoss = true) (before : s.tre.pedalLoss = false)
    (enabled : s.nts.enabled (.trailer .sensor) = true) :
    t.nts.shows (.trailer .sensor)
      [byte (t.tbc.demand / 256), byte t.tbc.demand, byte (t.mfe.pt.held / 256), byte t.mfe.pt.held,
        byte t.mfe.pt.state.code, 0] := by
  have frame := s.pedalsTaken_frame bl br
  obtain ⟨mfe, tbc, -⟩ := h.pedalSet
  rw [mfe, tbc]
  rw [h.tre] at lost
  refine h.shows (State.pedalEpisode_reports (s := s.pedalsTaken bl br) lost ?_ ?_)
  · rw [frame.tre]
    exact before
  · rw [frame.enabled]
    exact enabled

/-! ### SET_TRACTION's answer -/

theorem exec_setTraction_of_listens {s : State} (h : s.listens) (extra : Nat) (kw vmin bth : Half) :
    let kw' := max 1024 (min 16383 kw.toNat)
    let vmin' := max 50 (min 500 vmin.toNat)
    let bth' := max 50 (min 500 bth.toNat)
    ∃ t, exec (.setTraction extra kw vmin bth) s = .next t ∧
      State.sameButOrder s.nts.notices.length
        ((((s.settled (9 + extra)).tractionSet kw' vmin' bth').withdrawSlip).pend
          ⟨0x70, .ok, [byte (kw' / 256), byte kw', byte (vmin' / 256), byte vmin', byte (bth' / 256), byte bth']⟩) t := by
  have answer := actSetTraction_eq kw vmin bth (s.settleReply (6 + 3 + extra))
  rw [exec_setTraction, ← State.settleReply_eq]
  exact request_sameButOrder h answer

/-- Settles O29. -/
theorem tractionFollowsItsArrivalsAndParameters : Obligations.TractionFollowsItsArrivalsAndParameters := by
  unfold Obligations.TractionFollowsItsArrivalsAndParameters
  refine ⟨fun s hs => ⟨fun ne no => ?_, fun vg => ?_, fun bl br => ?_⟩, fun extra kw vmin bth s hs => ?_⟩
  · obtain ⟨t, done, same⟩ := event_sameButOrder (State.speedPair ne no) hs
    obtain ⟨mfe, tre⟩ := same.speedPair
    refine ⟨t, done, ?_⟩
    rw [mfe, tre]
    exact ⟨rfl, rfl, (s.formPair ne no).checkedSlip_pair, rfl, rfl, rfl, rfl, rfl, rfl⟩
  · obtain ⟨t, done, same⟩ := event_sameButOrder (State.groundSpeed vg) hs
    obtain ⟨mfe, tre⟩ := same.groundSpeed
    refine ⟨t, done, ?_⟩
    rw [mfe, tre]
    exact ⟨formSlip_eq _ _ _ _, rfl⟩
  · obtain ⟨t, done, same⟩ := event_sameButOrder (State.pedalSet bl br) hs
    refine ⟨t, done, ?_⟩
    intro l r detected
    obtain ⟨flag, bt⟩ := Prod.mk.inj same.pedalBraking
    obtain ⟨detects, most, none⟩ := formBraking_spec l r s.tre.bth
    rw [flag, bt]
    exact ⟨detects, most, none, same.pedalLoss, same.pedalReport⟩
  · obtain ⟨t, done, same⟩ := exec_setTraction_of_listens hs extra kw vmin bth
    intro kw' vmin' bth' vw' k u v
    have frame := (k.tractionSet kw' vmin' bth').withdrawSlip_frame
    have eq : v = (k.tractionSet kw' vmin' bth').withdrawSlip := (State.withdrawSlip_eq (k.tractionSet kw' vmin' bth')).symm
    have tre : t.tre = _ := same.tre.trans frame.tre
    refine ⟨t, done, ?_, ?_⟩
    · rw [eq]
      exact same
    · rw [tre]
      exact ⟨rfl, rfl, rfl, rfl, rfl, rfl⟩

end Sys2Proof.Machine

namespace Sys2Proof.Machine

/-! ## A hitch-set arrival at the controller -/

theorem State.sameButOrder.htc {n : Nat} {u t : State} (h : State.sameButOrder n u t) : t.htc = u.htc := by
  obtain ⟨_, _, -, rfl⟩ := h
  rfl

/-! ### The table before it -/

/-- A change that makes no record LOST and moves no member of the weighted set is handed over to no block
but the estimator. -/
theorem State.handOver_htc {s : State} {old : Coupling} (hl : s.cpt.anyLost = old.anyLost)
    (hm : s.cpt.members = old.members) : (s.handOver old).htc = s.htc := by
  have same : (s.handOver old).htc = (if s.cpt.mtow = old.mtow then s else s.formLoadIndex).htc := by
    unfold State.handOver
    split <;> simp [hl, hm]
  rw [same]
  split <;> rfl

theorem State.commit_hitch_htc (s : State) (e : Option ImplementRecord) (reports : List CplReport) :
    (s.commit { s.cpt with hitch := e } reports).htc = s.htc := by
  obtain ⟨n, tabled, -⟩ := s.tabled_eq { s.cpt with hitch := e } reports
  rw [State.commit_eq, State.handOver_htc, tabled]
  · rw [State.tabled_cpt]; rfl
  · rw [State.tabled_cpt]; rfl

theorem State.hitchTable_htc (s : State) (p dl dr : Sample) : (s.hitchTable p dl dr).htc = s.htc := by
  have copied (u : State) : u.applyImplementCopy.htc = u.htc := by
    unfold State.applyImplementCopy
    split
    · rfl
    · split
      · rfl
      · exact u.commit_hitch_htc _ _
  have accepted (u : State) : (u.acceptImplement p.valid).htc = u.htc := by
    unfold State.acceptImplement
    split
    · rfl
    · split
      · rfl
      · split
        · exact u.commit_hitch_htc _ _
        · rfl
  exact (accepted _).trans (copied _)

/-! ### The notice -/

/-- The detail of a HITCH notice: the mode, a code and the position channel's state in the first byte, four
ten-bit values in the other five (R161, R184). -/
def State.hitchDetail (s : State) (code second : Nat) : List Byte :=
  let v := s.mfe.p.held * 1073741824 + second * 1048576 + s.liftLimit * 1024 + s.depthLimit
  [byte (s.htc.mode.code + 8 * code + 32 * s.mfe.p.state.code), byte (v / 4294967296), byte (v / 16777216),
    byte (v / 65536), byte (v / 256), byte v]

theorem State.offerHitch_eq (s : State) (o : HitchOutcome) (code second : Nat) :
    s.offerHitch o code second = s.offer (.hitch o) (s.hitchDetail code second) := by
  have joined (a b c d : Nat) :
      ((a * 1024 + b) * 1024 + c) * 1024 + d = a * 1073741824 + b * 1048576 + c * 1024 + d := by ring
  simp only [State.offerHitch, State.hitchDetail, tenBits, joined]

/-! ### The draft and the error -/

theorem formDraft_eq (dl dr : Chan) :
    formDraft dl dr =
      if dl.state = .failed ∨ dr.state = .failed then ⟨0, false⟩ else ⟨dl.held + dr.held, true⟩ := by
  simp [formDraft, Chan.failed]

theorem clampInt_eq {lo hi : Int} (h : lo ≤ hi) (x : Int) : clampInt lo hi x = max lo (min hi x) := by
  unfold clampInt
  split_ifs <;> omega

/-- The draft block that takes part in a computation: one with a mix above 0, while the draft is usable
(R158). -/
def ImplementFields.mixed (f : ImplementFields) (draft : Draft) : Option DraftBlock :=
  f.draft.filter fun b => decide (0 < b.m) && draft.usable

/-- The error before the slip term: the position error mixed with the draft error (R158). -/
def ImplementFields.mixedError (f : ImplementFields) (pos : Nat) (draft : Draft) : Int :=
  let ep : Int := (f.ps : Int) - pos
  let ed : Int := match f.mixed draft with
    | none => 0
    | some b => max (-1000) (min 1000 (Int.tdiv (((draft.value : Int) - b.ds) * b.gd) 256))
  let m : Int := match f.mixed draft with
    | none => 0
    | some b => b.m
  Int.tdiv ((100 - m) * ep + m * ed) 100

theorem controlError_eq (f : ImplementFields) (pos : Nat) (draft : Draft) (slip : Nat) (valid : Bool) :
    controlError f pos draft slip valid =
      if 0 < f.sl ∧ valid = true ∧ f.sl < slip then max (f.mixedError pos draft) ((slip : Int) - f.sl)
      else f.mixedError pos draft := by
  unfold controlError ImplementFields.mixedError ImplementFields.mixed
  cases f.draft with
  | none => simp [and_assoc]
  | some b =>
    by_cases mixes : (decide (0 < b.m) && draft.usable) = true
    · simp [Option.filter, mixes, and_assoc, clampInt_eq]
    · simp [Option.filter, mixes, and_assoc]

/-- The error after the implement's limits (R159). -/
theorem limitError_eq (f : ImplementFields) (pos : Nat) (e : Int) :
    limitError f pos e = if (0 < e ∧ f.pmax ≤ pos) ∨ (e < 0 ∧ pos ≤ f.pmin) then 0 else e := by
  unfold limitError
  split_ifs <;> omega

/-- The openings of an error beyond the deadband, in its direction (R159). -/
theorem openings_eq (f : ImplementFields) (e : Int) :
    openings f e =
      (if (f.db : Int) < e then min 100 ((e.toNat - f.db) * f.kq / 16) else 0,
        if e < -(f.db : Int) then min f.drop (((-e).toNat - f.db) * f.kq / 16) else 0) := by
  unfold openings
  by_cases up : (f.db : Int) < e
  · have size : e.natAbs = e.toNat := by omega
    have beyond : ¬ e.toNat ≤ f.db := by omega
    have positive : 0 < e := by omega
    have notDown : ¬ e < -(f.db : Int) := by omega
    simp only [size, if_neg beyond, if_pos up, if_pos positive, if_neg notDown]
  · by_cases down : e < -(f.db : Int)
    · have size : e.natAbs = (-e).toNat := by omega
      have beyond : ¬ (-e).toNat ≤ f.db := by omega
      have notPositive : ¬ 0 < e := by omega
      simp only [size, if_neg beyond, if_neg up, if_pos down, if_neg notPositive]
    · have within : e.natAbs ≤ f.db := by omega
      simp only [if_neg up, if_neg down, if_pos within]

theorem draftMissing_eq (f : ImplementFields) (draft : Draft) :
    draftMissing f draft = ((f.draft.any fun b => decide (0 < b.m)) && !draft.usable) := by
  unfold draftMissing
  cases f.draft <;> rfl

/-! ### The end of a computation or a mode, with its notice -/

/-- A state `u` that leaves the controller at `h` and offers a HITCH notice with it. -/
def State.leavesWith (a u : State) (h : Hitch) (o : HitchOutcome) (code second : Nat) : Prop :=
  u.htc = h ∧
    (a.nts.enabled (.hitch o) = true → u.nts.shows (.hitch o) (State.hitchDetail { a with htc := h } code second))

theorem State.offerHitch_leavesWith (a : State) (h : Hitch) (o : HitchOutcome) (code second : Nat) :
    a.leavesWith (State.offerHitch { a with htc := h } o code second) h o code second := by
  rw [State.offerHitch_eq]
  exact ⟨rfl, fun enabled => NoticeSet.offer_shows enabled _⟩

theorem State.holdWith_leavesWith (a : State) (o : HitchOutcome) :
    a.leavesWith (a.holdWith o) (a.htc.enter .hold) o a.htc.mode.endedPurpose a.htc.mode.endedTarget :=
  a.offerHitch_leavesWith _ _ _ _

/-! ### WORK (R158, R159, R160) -/

theorem State.workArrival_htc {a : State} {r : ImplementRecord} (hr : a.cpt.hitch = some r) :
    let e := limitError r.fields a.mfe.p.held
      (controlError r.fields a.mfe.p.held a.htc.draft a.tre.slip a.tre.slipValid)
    a.workArrival.htc =
      { a.htc with raise := (openings r.fields e).1, lower := (openings r.fields e).2
                   draftLoss := draftMissing r.fields a.htc.draft } := by
  simp only [State.workArrival, hr]
  split <;> rfl

/-- A draft-loss episode that begins is reported (R160). -/
theorem State.workArrival_draftLost {a : State} {r : ImplementRecord} (hr : a.cpt.hitch = some r)
    (missing : draftMissing r.fields a.htc.draft = true) (before : a.htc.draftLoss = false) :
    a.leavesWith a.workArrival a.workArrival.htc .draftLost 0
      (a.mfe.dl.state.code * 4 + a.mfe.dr.state.code) := by
  have offers : a.workArrival = State.offerHitch { a with htc := a.workArrival.htc } .draftLost 0
      (a.mfe.dl.state.code * 4 + a.mfe.dr.state.code) := by
    rw [State.workArrival_htc hr]
    simp [State.workArrival, State.offerDraftLost, hr, missing, before]
  have leaves := a.offerHitch_leavesWith a.workArrival.htc .draftLost 0
    (a.mfe.dl.state.code * 4 + a.mfe.dr.state.code)
  rwa [← offers] at leaves

/-! ### TRAVEL (R152) -/

/-- The mode a travel ends in where its target is reached (R152). -/
def Purpose.reachedMode (p : Purpose) : HitchMode :=
  match p with
  | .goto _ => .hold
  | .transport => .hold
  | .return => .work

theorem distance_le_iff (a b n : Nat) : distance a b ≤ n ↔ a ≤ b + n ∧ b ≤ a + n := by
  unfold distance
  split <;> omega

theorem State.travelArrival_reached (a : State) (p : Purpose) (old timer : Nat)
    (below : a.mfe.p.held ≤ a.travelTarget p old + 10) (above : a.travelTarget p old ≤ a.mfe.p.held + 10) :
    a.leavesWith (a.travelArrival p old timer) (a.htc.enter p.reachedMode) .reached p.code
      (a.travelTarget p old) := by
  have near := (distance_le_iff _ _ 10).mpr ⟨below, above⟩
  simp only [State.travelArrival, if_pos near]
  exact a.offerHitch_leavesWith _ _ _ _

theorem State.travelArrival_below (a : State) (p : Purpose) (old timer : Nat)
    (below : a.mfe.p.held + 10 < a.travelTarget p old) :
    (a.travelArrival p old timer).htc =
      { a.htc with mode := .travel p (a.travelTarget p old) timer, raise := a.htc.travelOpening, lower := 0 } := by
  have far : ¬ distance a.mfe.p.held (a.travelTarget p old) ≤ 10 := by
    rw [distance_le_iff]
    omega
  have up : a.mfe.p.held < a.travelTarget p old := by omega
  simp only [State.travelArrival, if_neg far, if_pos up]

theorem State.travelArrival_above (a : State) (p : Purpose) (old timer : Nat)
    (above : a.travelTarget p old + 10 < a.mfe.p.held) :
    (a.travelArrival p old timer).htc =
      { a.htc with mode := .travel p (a.travelTarget p old) timer, raise := 0
                   lower := min a.htc.travelOpening a.loweringCeiling } := by
  have far : ¬ distance a.mfe.p.held (a.travelTarget p old) ≤ 10 := by
    rw [distance_le_iff]
    omega
  have down : ¬ a.mfe.p.held < a.travelTarget p old := by omega
  simp only [State.travelArrival, if_neg far, if_neg down]

/-! ### MANUAL (R155) -/

/-- The ground-speed test of MANUAL fails. -/
abbrev State.tooFast (a : State) : Prop := 300 ≤ a.mfe.vg.held ∨ a.mfe.vg.state = .failed

/-- The hitch stands at the limit it is driven to. -/
abbrev State.atLimit (a : State) (d : ManualDir) : Prop :=
  (d = .up ∧ a.liftLimit ≤ a.mfe.p.held) ∨ (d = .down ∧ a.mfe.p.held ≤ a.depthLimit)

/-- The controller with the openings of MANUAL. -/
def State.manualOpenings (a : State) (d : ManualDir) : Hitch :=
  { a.htc with raise := if d = .up then 30 else 0, lower := if d = .up then 0 else min 20 a.loweringCeiling }

theorem State.manualArrival_eq (a : State) (d : ManualDir) :
    a.manualArrival d =
      if a.tooFast then a.holdWith .interlock
      else if a.atLimit d then a.holdWith .limit
      else { a with htc := a.manualOpenings d } := by
  unfold State.manualArrival State.manualOpenings
  cases d <;> simp [Chan.failed, State.tooFast, State.atLimit]

/-! ### The limits in force -/

/-- The limits in force are read off the table (R144). -/
theorem State.limits_of_cpt {s t : State} (h : t.cpt = s.cpt) :
    t.liftLimit = s.liftLimit ∧ t.depthLimit = s.depthLimit ∧ t.loweringCeiling = s.loweringCeiling := by
  simp only [State.liftLimit, State.depthLimit, State.loweringCeiling, h, and_self]

/-! ### The arrival, mode by mode (R148) -/

theorem State.hitchArrival_stays {s : State} (hm : s.htc.mode.moving = false) : s.hitchArrival = s.withFormedDraft := by
  cases mode : s.htc.mode <;> simp_all [State.hitchArrival, State.withFormedDraft, HitchMode.moving]

theorem State.hitchArrival_sensor {s : State} (hm : s.htc.mode.moving = true) (lost : s.mfe.p.state = .failed) :
    s.hitchArrival = s.withFormedDraft.holdWith .sensor := by
  simp [State.hitchArrival, State.withFormedDraft, hm, Chan.failed, lost]

theorem State.hitchArrival_work {s : State} (hm : s.htc.mode = .work) (read : s.mfe.p.state ≠ .failed) :
    s.hitchArrival = s.withFormedDraft.workArrival := by
  simp [State.hitchArrival, State.withFormedDraft, hm, Chan.failed, read]

theorem State.hitchArrival_travel {s : State} {p : Purpose} {target timer : Nat}
    (hm : s.htc.mode = .travel p target timer) (read : s.mfe.p.state ≠ .failed) :
    s.hitchArrival = s.withFormedDraft.travelArrival p target timer := by
  simp [State.hitchArrival, State.withFormedDraft, hm, Chan.failed, read]

theorem State.hitchArrival_manual {s : State} {d : ManualDir}
    (hm : s.htc.mode = .manual d) (read : s.mfe.p.state ≠ .failed) :
    s.hitchArrival = s.withFormedDraft.manualArrival d := by
  simp [State.hitchArrival, State.withFormedDraft, hm, Chan.failed, read]

/-! ### The arrival at the controller, in the event's state -/

/-- The state the controller acts on: the table's part done, the draft formed. -/
def State.hitchFormed (s : State) (p dl dr : Sample) : State := (s.hitchTable p dl dr).withFormedDraft

theorem State.hitchFormed_htc (s : State) (p dl dr : Sample) :
    (s.hitchFormed p dl dr).htc =
      { s.htc with formed := formDraft (s.hitchFormed p dl dr).mfe.dl (s.hitchFormed p dl dr).mfe.dr } := by
  change ({ (s.hitchTable p dl dr).htc with
    formed := formDraft (s.hitchTable p dl dr).mfe.dl (s.hitchTable p dl dr).mfe.dr } : Hitch) = _
  rw [State.hitchTable_htc]
  rfl

/-- The table leaves the slip and its validity. -/
theorem State.hitchFormed_slip (s : State) (p dl dr : Sample) :
    (s.hitchFormed p dl dr).tre.slip = s.tre.slip ∧ (s.hitchFormed p dl dr).tre.slipValid = s.tre.slipValid := by
  have frame := (s.hitchTable_frame p dl dr).tre
  change (s.hitchTable p dl dr).tre.slip = _ ∧ (s.hitchTable p dl dr).tre.slipValid = _
  rw [frame]
  exact ⟨rfl, rfl⟩

theorem State.hitchFormed_enabled (s : State) (p dl dr : Sample) (r : Report) :
    (s.hitchFormed p dl dr).nts.enabled r = s.nts.enabled r :=
  (s.hitchTable_frame p dl dr).enabled r

/-- After the event the channels and the table are as the controller found them, and the load index is that of
the draft it holds (R44). -/
theorem State.sameButOrder.hitchSet {s t : State} {p dl dr : Sample} {n : Nat}
    (h : State.sameButOrder n (s.hitchSet p dl dr) t) :
    t.mfe = (s.hitchFormed p dl dr).mfe ∧ t.cpt = (s.hitchFormed p dl dr).cpt ∧
      t.htc = (s.hitchTable p dl dr).hitchArrival.htc ∧
      t.tre.loadIndex = loadIndexOf t.cpt.mtow (s.hitchFormed p dl dr).htc.draft.value := by
  obtain ⟨mfe, -, -, latch, formed, -⟩ := (s.hitchTable p dl dr).hitchArrival_stands
  have cpt : t.cpt = (s.hitchFormed p dl dr).cpt := h.cpt.trans (s.hitchSet_cpt p dl dr)
  refine ⟨h.mfe.trans mfe, cpt, h.htc, ?_⟩
  rw [h.tre, h.cpt, Hitch.draft_eq, State.hitchFormed, ← latch, ← formed, ← Hitch.draft_eq]
  rfl

/-- Settles O51, mode by mode. -/
theorem hitchArrivalWorksTheMode : Obligations.HitchArrivalWorksTheMode := by
  intro p dl dr s hs
  obtain ⟨t, done, same⟩ := event_sameButOrder (State.hitchSet p dl dr) hs
  obtain ⟨mfe, cpt, htc, load⟩ := same.hitchSet
  have shown {r : Report} {d : List Byte} : (s.hitchTable p dl dr).hitchArrival.nts.shows r d → t.nts.shows r d :=
    same.shows
  have mode : (s.hitchTable p dl dr).htc.mode = s.htc.mode := by rw [State.hitchTable_htc]
  have start := s.hitchFormed_htc p dl dr
  rw [formDraft_eq] at start
  obtain ⟨slip, slipValid⟩ := s.hitchFormed_slip p dl dr
  have enabled := s.hitchFormed_enabled p dl dr
  obtain ⟨sameLift, sameDepth, sameCeiling⟩ := State.limits_of_cpt cpt
  refine ⟨t, done, ?_⟩
  rw [load, Hitch.draft_eq, start, sameLift, sameDepth, sameCeiling, mfe, htc, cpt]
  intro pos lift depth ceiling formed draft base shut raised lost
  change (s.hitchFormed p dl dr).htc = base at start
  have ends {h : Hitch} {o : HitchOutcome} {code second : Nat}
      (e : (s.hitchFormed p dl dr).leavesWith (s.hitchTable p dl dr).hitchArrival h o code second) :
      (s.hitchTable p dl dr).hitchArrival.htc = h ∧ raised o code second := by
    obtain ⟨rfl, shows⟩ := e
    exact ⟨rfl, fun h => shown (shows ((enabled _).trans h))⟩
  have sensor (moving : s.htc.mode.moving = true) (h : lost) :
      (s.hitchTable p dl dr).hitchArrival.htc = shut .hold ∧
        raised .sensor s.htc.mode.endedPurpose s.htc.mode.endedTarget := by
    have hold := (s.hitchFormed p dl dr).holdWith_leavesWith .sensor
    rw [start] at hold
    refine ends ?_
    rw [← mode] at moving
    rw [State.hitchArrival_sensor moving h]
    exact hold
  refine ⟨rfl, ?_⟩
  cases hm : s.htc.mode with
  | hold =>
    rw [State.hitchArrival_stays (by rw [mode, hm]; rfl)]
    exact start
  | locked =>
    rw [State.hitchArrival_stays (by rw [mode, hm]; rfl)]
    exact start
  | work =>
    rw [hm] at sensor mode
    refine ⟨sensor rfl, fun read r hr => ?_⟩
    have arrives : _ = (s.hitchFormed p dl dr).workArrival := State.hitchArrival_work mode read
    rw [arrives] at ends ⊢
    have works := State.workArrival_htc hr
    have lost := State.workArrival_draftLost hr
    have stays : base.mode = .work := hm
    simp only [openings_eq, limitError_eq, controlError_eq, draftMissing_eq, Hitch.draft_eq, start, slip, slipValid,
      stays] at works lost
    exact ⟨works, fun missing before => (ends (lost missing before)).2⟩
  | travel purpose old timer =>
    rw [hm] at sensor mode
    refine ⟨sensor rfl, fun read => ?_⟩
    have arrives : _ = (s.hitchFormed p dl dr).travelArrival purpose old timer := State.hitchArrival_travel mode read
    have reached := (s.hitchFormed p dl dr).travelArrival_reached purpose old timer
    have under := (s.hitchFormed p dl dr).travelArrival_below purpose old timer
    have beyond := (s.hitchFormed p dl dr).travelArrival_above purpose old timer
    rw [start] at reached under beyond
    rw [arrives] at ends ⊢
    exact ⟨fun below above => ends (reached below above), under, beyond⟩
  | manual d =>
    rw [hm] at sensor mode
    have stays : base.mode = .manual d := hm
    have arrives (read : ¬ lost) : _ = (s.hitchFormed p dl dr).manualArrival d := State.hitchArrival_manual mode read
    have hold (o : HitchOutcome) := (s.hitchFormed p dl dr).holdWith_leavesWith o
    simp only [State.manualArrival_eq] at arrives
    simp only [start, stays] at hold
    refine ⟨sensor rfl, fun read fast => ends ?_, fun read slow limit => ends ?_, fun read slow free => ?_⟩
    · rw [arrives read, if_pos fast]
      exact hold .interlock
    · rw [arrives read, if_neg slow, if_pos limit]
      exact hold .limit
    · rw [arrives read, if_neg slow, if_neg free]
      simp only [State.manualOpenings, start, stays]
      rfl

end Sys2Proof.Machine

namespace Sys2Proof.Machine

/-! ## The packs under orders -/

theorem mem_gearboxPacks {p : PackId} : p ∈ gearboxPacks ↔ p ≠ .fdp := by cases p <;> decide

theorem PackFile.get_set (f : PackFile) (p q : PackId) (r : PackRecord) :
    (f.set p r).get q = if q = p then r else f.get q := by
  cases p <;> cases q <;> rfl

theorem PackFile.get_update (f : PackFile) (g : PackRecord → PackRecord) (p q : PackId) :
    (f.update g p).get q = if q = p then g (f.get q) else f.get q := by
  rw [PackFile.update, PackFile.get_set]
  split_ifs with h
  · rw [h]
  · rfl

/-- An order that changes nothing when it is given again, keeps every record's ranges, and neither makes nor
clears a FAULT. -/
structure PackRecord.isOrder (g : PackRecord → PackRecord) : Prop where
  again : ∀ p, g (g p) = g p
  fault : ∀ p, (g p).state = .fault ↔ p.state = .fault

/-- An order given to a list of packs reaches those and no other. -/
theorem PackFile.get_order {g : PackRecord → PackRecord} (hg : ∀ p, g (g p) = g p) (f : PackFile) (ps : List PackId)
    (q : PackId) : (f.order ps g).get q = if q ∈ ps then g (f.get q) else f.get q := by
  induction ps generalizing f with
  | nil => simp [PackFile.order]
  | cons p rest ih =>
    rw [PackFile.order, List.foldl_cons]
    refine (ih (f.update g p)).trans ?_
    rw [PackFile.get_update]
    by_cases hp : q = p
    · by_cases hr : q ∈ rest <;> simp [hp, hg]
    · by_cases hr : q ∈ rest <;> simp [hp, hr]

end Sys2Proof.Machine

namespace Sys2Proof.Machine

/-! ### One pack's record -/

/-- A pack record that meets its law: its fields, active and staged, and its count in their ranges, and a fault
cause exactly in FAULT (R56, R62). -/
structure PackRecord.sound (p : PackRecord) : Prop where
  active : p.active.inRange
  staged : ∀ f, p.staged = some f → f.inRange
  atLimit : p.atLimit ≤ 8
  cause : p.cause ≠ .none ↔ p.state = .fault

theorem State.packLaw_iff (s : State) :
    s.packLaw ↔ (∀ p, (s.packs.get p).sound) ∧ s.cau.stepCount ≤ 60 ∧ 50 ≤ s.cau.interval ∧ s.cau.interval ≤ 500 :=
  ⟨fun ⟨packs, unit⟩ => ⟨fun p => let ⟨a, b, c, d⟩ := packs p; ⟨a, b, c, d⟩, unit⟩,
    fun ⟨packs, unit⟩ => ⟨fun p => let ⟨a, b, c, d⟩ := packs p; ⟨a, b, c, d⟩, unit⟩⟩

/-- A pack that moves between states other than FAULT keeps its law. -/
theorem PackRecord.sound.move {p : PackRecord} (h : p.sound) {st : PackState} (hp : p.state ≠ .fault)
    (hst : st ≠ .fault) : PackRecord.sound { p with state := st } :=
  ⟨h.active, h.staged, h.atLimit, fun cause => absurd (h.cause.mp cause) hp, fun fault => absurd fault hst⟩

theorem PackRecord.sound.applyStaged {p : PackRecord} (h : p.sound) : p.applyStaged.sound := by
  unfold PackRecord.applyStaged
  split
  · exact h
  next f hf => exact ⟨h.staged f hf, nofun, Nat.zero_le _, h.cause⟩

@[simp] theorem PackRecord.applyStaged_state (p : PackRecord) : p.applyStaged.state = p.state := by
  unfold PackRecord.applyStaged
  split <;> rfl

/-- Fill time and fields come from the staged copy where one is held (R58). -/
theorem PackRecord.applyStaged_eq (p : PackRecord) :
    p.applyStaged =
      { p with active := p.staged.getD p.active, atLimit := if p.staged.isSome then 0 else p.atLimit, staged := none } := by
  obtain ⟨_, _, _, _, staged⟩ := p
  cases staged <;> rfl

/-! ### The orders

What each does from the state it acts from (R61), and what all of them keep. -/

section
variable {p : PackRecord}

theorem PackRecord.toFill_of_released (h : p.state = .released) :
    p.toFill = { p.applyStaged with state := .fill } := by simp [PackRecord.toFill, h]

theorem PackRecord.toCalStep_of_released (h : p.state = .released) :
    p.toCalStep = { p.applyStaged with state := .calStep } := by simp [PackRecord.toCalStep, h]

theorem PackRecord.toRising_of_fill (h : p.state = .fill) (d : Nat) :
    p.toRising d = { p with state := .rising d 0 } := by simp [PackRecord.toRising, h]

theorem PackRecord.toFalling_of_locked (h : p.state = .locked) (d : Nat) :
    p.toFalling d = { p with state := .falling p.active.pl d 0 } := by simp [PackRecord.toFalling, h]

theorem PackRecord.fillToLocked_of_fill (h : p.state = .fill) :
    p.fillToLocked = { p with state := .locked } := by simp [PackRecord.fillToLocked, h]

theorem PackRecord.risingToLocked_of_rising {d t : Nat} (h : p.state = .rising d t) :
    p.risingToLocked = { p with state := .locked } := by simp [PackRecord.risingToLocked, h]

theorem PackRecord.calFault_of_calStep (h : p.state = .calStep) :
    p.calFault = { p with state := .fault, cause := .cal } := by simp [PackRecord.calFault, h]

theorem PackRecord.release_of_fault (h : p.state = .fault) : p.release = p := by simp [PackRecord.release, h]

theorem PackRecord.release_of_ne_fault (h : p.state ≠ .fault) : p.release = { p with state := .released } := by
  unfold PackRecord.release
  split
  · contradiction
  · rfl

theorem PackRecord.release_state (h : p.state ≠ .fault) : p.release.state = .released := by
  rw [PackRecord.release_of_ne_fault h]

theorem PackRecord.resting.ne_fill (h : p.resting) : p.state ≠ .fill := by
  rcases h with h | h <;> rw [h] <;> nofun

/-- A pack ordered to release is at rest. -/
theorem PackRecord.release_resting (p : PackRecord) : p.release.resting := by
  by_cases h : p.state = .fault
  · rw [PackRecord.release_of_fault h]
    exact .inr h
  · rw [PackRecord.release_of_ne_fault h]
    exact .inl rfl

end

theorem PackRecord.toFill_isOrder : isOrder toFill := by
  constructor <;> intro p <;> cases h : p.state <;> simp [toFill, h]

theorem PackRecord.toCalStep_isOrder : isOrder toCalStep := by
  constructor <;> intro p <;> cases h : p.state <;> simp [toCalStep, h]

theorem PackRecord.toRising_isOrder (d : Nat) : isOrder (toRising d) := by
  constructor <;> intro p <;> cases h : p.state <;> simp [toRising, h]

theorem PackRecord.toFalling_isOrder (d : Nat) : isOrder (toFalling d) := by
  constructor <;> intro p <;> cases h : p.state <;> simp [toFalling, h]

theorem PackRecord.fillToLocked_isOrder : isOrder fillToLocked := by
  constructor <;> intro p <;> cases h : p.state <;> simp [fillToLocked, h]

theorem PackRecord.risingToLocked_isOrder : isOrder risingToLocked := by
  constructor <;> intro p <;> cases h : p.state <;> simp [risingToLocked, h]

theorem PackRecord.release_isOrder : isOrder release := by
  constructor <;> intro p <;> cases h : p.state <;> simp [release, h]

theorem PackRecord.confirmFault_again (p : PackRecord) : p.confirmFault.confirmFault = p.confirmFault := by
  cases h : p.state <;> simp [confirmFault, h]

theorem PackRecord.calFault_again (p : PackRecord) : p.calFault.calFault = p.calFault := by
  cases h : p.state <;> simp [calFault, h]

section
variable {p : PackRecord}

theorem PackRecord.sound.toFill (h : p.sound) : p.toFill.sound := by
  unfold PackRecord.toFill
  split
  next hp => exact h.applyStaged.move (by simp [hp]) nofun
  · exact h

theorem PackRecord.sound.toCalStep (h : p.sound) : p.toCalStep.sound := by
  unfold PackRecord.toCalStep
  split
  next hp => exact h.applyStaged.move (by simp [hp]) nofun
  · exact h

theorem PackRecord.sound.toRising (h : p.sound) (d : Nat) : (p.toRising d).sound := by
  unfold PackRecord.toRising
  split
  next hp => exact h.move (by simp [hp]) nofun
  · exact h

theorem PackRecord.sound.toFalling (h : p.sound) (d : Nat) : (p.toFalling d).sound := by
  unfold PackRecord.toFalling
  split
  next hp => exact h.move (by simp [hp]) nofun
  · exact h

theorem PackRecord.sound.fillToLocked (h : p.sound) : p.fillToLocked.sound := by
  unfold PackRecord.fillToLocked
  split
  next hp => exact h.move (by simp [hp]) nofun
  · exact h

theorem PackRecord.sound.risingToLocked (h : p.sound) : p.risingToLocked.sound := by
  unfold PackRecord.risingToLocked
  split
  next hp => exact h.move (by simp [hp]) nofun
  · exact h

theorem PackRecord.sound.confirmFault (h : p.sound) : p.confirmFault.sound := by
  unfold PackRecord.confirmFault
  split
  · exact ⟨h.active, h.staged, h.atLimit, fun _ => rfl, fun _ => nofun⟩
  · exact h

theorem PackRecord.sound.calFault (h : p.sound) : p.calFault.sound := by
  unfold PackRecord.calFault
  split
  · exact ⟨h.active, h.staged, h.atLimit, fun _ => rfl, fun _ => nofun⟩
  · exact h

theorem PackRecord.sound.release (h : p.sound) : p.release.sound := by
  by_cases hp : p.state = .fault
  · rwa [PackRecord.release_of_fault hp]
  · rw [PackRecord.release_of_ne_fault hp]
    exact h.move hp nofun

end

/-- An order keeps every record's law where it keeps one's. -/
theorem PackFile.sound_order {f : PackFile} (h : ∀ p, (f.get p).sound) {g : PackRecord → PackRecord}
    (hg : ∀ p, g (g p) = g p) (hs : ∀ p, p.sound → (g p).sound) (ps : List PackId) (p : PackId) :
    ((f.order ps g).get p).sound := by
  rw [PackFile.get_order hg]
  split
  · exact hs _ (h p)
  · exact h p

theorem PackFile.fault_order {g : PackRecord → PackRecord} (hg : PackRecord.isOrder g) (f : PackFile)
    (ps : List PackId) (p : PackId) : ((f.order ps g).get p).state = .fault ↔ (f.get p).state = .fault := by
  rw [PackFile.get_order hg.again]
  split
  · exact hg.fault _
  · exact Iff.rfl

end Sys2Proof.Machine

namespace Sys2Proof.Machine

/-! ## The driveline law in parts

The nine laws of the driveline and the law of the packs hold because of each other, and some stand only at the
end of an event. `State.linked` says what holds also inside one: all of them but what the signals say of the
engine, which a predicate of the engine stands in for, and with the braking law only where it is due. -/

/-! ### A ratio that may be engaged, and the route of a shift -/

/-- A ratio is defined and none of its packs is in FAULT. -/
def State.engageable (s : State) (i : Nat) : Prop :=
  ∃ e, s.rmp.entry i = some e ∧ ∀ p ∈ e.packs, (s.packs.get p).state ≠ .fault

theorem State.engageable.congr {s t : State} {i : Nat} (h : s.engageable i) (hm : t.rmp = s.rmp)
    (hf : ∀ p, (t.packs.get p).state = .fault → (s.packs.get p).state = .fault) : t.engageable i := by
  obtain ⟨e, he, hp⟩ := h
  exact ⟨e, by rw [hm]; exact he, fun p hpe fault => hp p hpe (hf p fault)⟩

theorem State.engageable.no_fault {s : State} {i : Nat} (h : s.engageable i) {p : PackId} (hp : p ∈ s.packsOf i) :
    (s.packs.get p).state ≠ .fault := by
  obtain ⟨e, he, sound⟩ := h
  rw [State.packsOf, he] at hp
  exact sound p hp

theorem State.packsOf_congr {s t : State} (h : t.rmp = s.rmp) (i : Nat) : t.packsOf i = s.packsOf i := by
  rw [State.packsOf, State.packsOf, h]

/-- What R96 says of a shift record: it leads from PR into another ratio, which may be engaged, and its lists
are those of the two ratios. -/
structure State.routed (s : State) (r : ShiftRecord) : Prop where
  origin : r.origin = s.she.pr
  dest : r.dest ≠ s.she.pr
  offGoing : r.offGoing = (s.packsOf r.origin).filter fun p => !(s.packsOf r.dest).contains p
  onComing : r.onComing = (s.packsOf r.dest).filter fun p => !(s.packsOf r.origin).contains p
  common : r.common = (s.packsOf r.dest).filter fun p => (s.packsOf r.origin).contains p
  engageable : s.engageable r.dest

/-- Two shift records of one route: they differ in what the spec fills in later. -/
def ShiftRecord.sameRoute (r' r : ShiftRecord) : Prop :=
  r'.origin = r.origin ∧ r'.dest = r.dest ∧ r'.offGoing = r.offGoing ∧ r'.onComing = r.onComing ∧ r'.common = r.common

/-- The route stands where PR, the packs of its two ratios and the soundness of its destination do. -/
theorem State.routed.congr {s t : State} {r r' : ShiftRecord} (h : s.routed r) (hr : r'.sameRoute r)
    (hpr : t.she.pr = s.she.pr) (ho : t.packsOf r.origin = s.packsOf r.origin)
    (hd : t.packsOf r.dest = s.packsOf r.dest) (he : s.engageable r.dest → t.engageable r.dest) : t.routed r' := by
  obtain ⟨origin, dest, offGoing, onComing, common⟩ := hr
  constructor
  · rw [origin, hpr, h.origin]
  · rw [dest, hpr]; exact h.dest
  · rw [offGoing, origin, dest, ho, hd]; exact h.offGoing
  · rw [onComing, origin, dest, ho, hd]; exact h.onComing
  · rw [common, origin, dest, ho, hd]; exact h.common
  · rw [dest]; exact he h.engageable

section
variable {s : State} {r : ShiftRecord} {p : PackId}

theorem State.routed.mem_onComing (h : s.routed r) :
    p ∈ r.onComing ↔ p ∈ s.packsOf r.dest ∧ p ∉ s.packsOf r.origin := by
  rw [h.onComing]; simp

theorem State.routed.mem_offGoing (h : s.routed r) :
    p ∈ r.offGoing ↔ p ∈ s.packsOf r.origin ∧ p ∉ s.packsOf r.dest := by
  rw [h.offGoing]; simp

theorem State.routed.mem_common (h : s.routed r) :
    p ∈ r.common ↔ p ∈ s.packsOf r.dest ∧ p ∈ s.packsOf r.origin := by
  rw [h.common]; simp

end

theorem State.recordLaw_iff (s : State) :
    s.recordLaw ↔ s.she.record.isSome = s.she.state.inFlight ∧
      (s.she.nr ≠ 0 → (s.rmp.entry s.she.nr).isSome = true) ∧ ∀ r, s.she.record = some r → s.routed r :=
  ⟨fun ⟨flight, nr, route⟩ => ⟨flight, nr, fun r hr => let ⟨a, b, c, d, e, f⟩ := route r hr; ⟨a, b, c, d, e, f⟩⟩,
    fun ⟨flight, nr, route⟩ => ⟨flight, nr, fun r hr => let ⟨a, b, c, d, e, f⟩ := route r hr; ⟨a, b, c, d, e, f⟩⟩⟩

/-! ### The fill supply -/

/-- Whether the Calibration Unit is in a phase. -/
def CalUnit.inPhase (c : CalUnit) (phase : CalPhase) : Prop := ∃ j, c.job = some j ∧ j.phase = phase

@[simp] theorem CalUnit.inPhase_of_none {c : CalUnit} (h : c.job = none) (phase : CalPhase) : ¬ c.inPhase phase := by
  rintro ⟨j, hj, -⟩
  rw [h] at hj
  cases hj

@[simp] theorem CalUnit.inPhase_of_some {c : CalUnit} {j : CalJob} (h : c.job = some j) (phase : CalPhase) :
    c.inPhase phase ↔ j.phase = phase := by
  simp [CalUnit.inPhase, h]

/-- The fill-supply law, its clauses named (R70, R73, R97, R99, R119). -/
structure State.supplied (s : State) : Prop where
  fills : ∀ p, (s.packs.get p).state = .fill ↔ p ∈ s.fsa.fillList
  holds : s.fsa.holder = none ↔ s.fsa.fillList = []
  shiftWaits : s.she.state = .supplyWait ↔ s.fsa.waiting.shift = true
  shiftHolds : s.she.state = .fill ↔ s.fsa.holder = some .shift
  calWaits : s.cau.inPhase .waiting ↔ s.fsa.waiting.cal = true
  calHolds : s.cau.inPhase .filling ↔ s.fsa.holder = some .cal

theorem State.supplyLaw_iff (s : State) : s.supplyLaw ↔ s.supplied :=
  ⟨fun ⟨a, b, c, d, e, f⟩ => ⟨a, b, c, d, e, f⟩, fun ⟨a, b, c, d, e, f⟩ => ⟨a, b, c, d, e, f⟩⟩

theorem State.supplied.stand {s t : State} (h : s.supplied) (packs : t.packs = s.packs) (fsa : t.fsa = s.fsa)
    (state : t.she.state = s.she.state) (cau : t.cau = s.cau) : t.supplied := by
  obtain ⟨fills, holds, shiftWaits, shiftHolds, calWaits, calHolds⟩ := h
  constructor <;> simpa only [packs, fsa, state, cau]

/-! ### Where the gearbox packs stand -/

/-- Where a gearbox pack stands with no shift in flight and no calibration (R81). -/
def State.restPlaces (s : State) (id : PackId) (p : PackRecord) : Prop :=
  if id ∈ s.packsOf s.she.pr then p.state = .locked else p.resting

theorem State.gearLaw_of_rest {s : State} (hj : s.cau.job = none) (hr : s.she.record = none)
    (h : ∀ id ∈ gearboxPacks, s.restPlaces id (s.packs.get id)) : s.gearLaw := by
  intro id hid
  rw [hj, hr]
  exact ⟨fun _ e => (nomatch e), fun _ e => (nomatch e), fun _ _ => h id hid⟩

theorem State.gearLaw_of_shift {s : State} {r : ShiftRecord} (hj : s.cau.job = none) (hr : s.she.record = some r)
    (h : ∀ id ∈ gearboxPacks, s.shiftPlaces r id (s.packs.get id)) : s.gearLaw := by
  intro id hid
  rw [hj, hr]
  refine ⟨fun _ e => (nomatch e), fun r' e => ?_, fun _ e => (nomatch e)⟩
  obtain rfl := Option.some.inj e
  exact h id hid

theorem State.gearLaw_of_cal {s : State} {j : CalJob} (hj : s.cau.job = some j) (hr : s.she.record = none)
    (h : ∀ id ∈ gearboxPacks, j.places id (s.packs.get id)) : s.gearLaw := by
  intro id hid
  rw [hj, hr]
  refine ⟨fun j' e => ?_, fun _ e => (nomatch e), fun e => (nomatch e)⟩
  obtain rfl := Option.some.inj e
  exact h id hid

theorem State.gearLaw.rest {s : State} (h : s.gearLaw) (hj : s.cau.job = none) (hr : s.she.record = none)
    {id : PackId} (hid : id ∈ gearboxPacks) : s.restPlaces id (s.packs.get id) := by
  obtain ⟨-, -, rest⟩ := h id hid
  exact rest hj hr

theorem State.gearLaw.shift {s : State} (h : s.gearLaw) {r : ShiftRecord} (hr : s.she.record = some r)
    {id : PackId} (hid : id ∈ gearboxPacks) : s.shiftPlaces r id (s.packs.get id) := by
  obtain ⟨-, shift, -⟩ := h id hid
  exact shift r hr

theorem State.gearLaw.cal {s : State} (h : s.gearLaw) {j : CalJob} (hj : s.cau.job = some j)
    {id : PackId} (hid : id ∈ gearboxPacks) : j.places id (s.packs.get id) := by
  obtain ⟨cal, -, -⟩ := h id hid
  exact cal j hj

/-! Where a shift in flight has a pack, engine state by engine state (R97, R99, R101, R102). -/

section
variable {s : State} {r : ShiftRecord} {id : PackId} {p : PackRecord}

theorem State.shiftPlaces_supplyWait (he : s.she.state = .supplyWait) :
    s.shiftPlaces r id p ↔
      if id ∈ s.packsOf r.origin then p.state = .locked
      else if id ∈ r.onComing then p.state = .released else p.resting := by
  simp only [State.shiftPlaces, he]

theorem State.shiftPlaces_fill (he : s.she.state = .fill) :
    s.shiftPlaces r id p ↔
      if id ∈ r.onComing then p.state = .fill
      else if id ∈ s.packsOf r.origin then p.state = .locked else p.resting := by
  simp only [State.shiftPlaces, he]

theorem State.shiftPlaces_handover (he : s.she.state = .handover) :
    s.shiftPlaces r id p ↔
      if id ∈ r.onComing then ∃ d t, p.state = .rising d t
      else if id ∈ r.offGoing then ∃ c d t, p.state = .falling c d t
      else if id ∈ r.common then p.state = .locked else p.resting := by
  simp only [State.shiftPlaces, he]

theorem State.shiftPlaces_confirm (he : s.she.state = .confirm) :
    s.shiftPlaces r id p ↔ if id ∈ s.packsOf r.dest then p.state = .locked else p.resting := by
  simp only [State.shiftPlaces, he]

end

/-! Where a running calibration has a pack, phase by phase (R123, R124). -/

section
variable {j : CalJob} {id : PackId} {p : PackRecord}

theorem CalJob.places_waiting (hj : j.phase = .waiting) :
    j.places id p ↔ if id ∈ j.packs then p.state = .released else p.resting := by
  simp only [CalJob.places, CalJob.packs, hj, reduceCtorEq, if_false, List.mem_cons, List.not_mem_nil, or_false]
  split_ifs <;> simp_all

theorem CalJob.places_filling (hj : j.phase = .filling) :
    j.places id p ↔
      if id = j.pack then p.state = .released
      else if id = j.partner1 then (if j.fill1.isSome then p.state = .fill else p.state = .locked)
      else if id = j.partner2 then (if j.fill2.isSome then p.state = .fill else p.state = .locked)
      else p.resting := by
  simp only [CalJob.places, hj, reduceCtorEq, if_false]

theorem CalJob.places_settling (hj : j.phase = .settling) :
    j.places id p ↔
      if id = j.pack then p.state = .released
      else if id = j.partner1 ∨ id = j.partner2 then p.state = .locked else p.resting := by
  simp only [CalJob.places, hj, reduceCtorEq, if_false]
  split_ifs <;> simp_all

theorem CalJob.places_stepping (hj : j.phase = .stepping) :
    j.places id p ↔
      if id = j.pack then p.state = .calStep
      else if id = j.partner1 ∨ id = j.partner2 then p.state = .locked else p.resting := by
  simp only [CalJob.places, hj, if_true]
  split_ifs <;> simp_all

end

/-- A calibration places packs by their states alone. -/
theorem CalJob.places.congr {j : CalJob} {id : PackId} {p q : PackRecord} (h : j.places id p)
    (hq : q.state = p.state) : j.places id q := by
  unfold CalJob.places PackRecord.resting at *
  rwa [hq]

/-- A shift places packs by their states, the engine state and the packs of its two ratios alone. -/
theorem State.shiftPlaces.congr {s t : State} {r r' : ShiftRecord} {id : PackId} {p q : PackRecord}
    (h : s.shiftPlaces r id p) (hr : r'.sameRoute r) (he : t.she.state = s.she.state)
    (ho : t.packsOf r.origin = s.packsOf r.origin) (hd : t.packsOf r.dest = s.packsOf r.dest)
    (hq : q.state = p.state) : t.shiftPlaces r' id q := by
  obtain ⟨origin, dest, offGoing, onComing, common⟩ := hr
  unfold State.shiftPlaces PackRecord.resting at *
  rwa [he, origin, dest, offGoing, onComing, common, ho, hd, hq]

theorem State.restPlaces.congr {s t : State} {id : PackId} {p q : PackRecord} (h : s.restPlaces id p)
    (ho : t.packsOf t.she.pr = s.packsOf s.she.pr) (hq : q.state = p.state) : t.restPlaces id q := by
  unfold State.restPlaces PackRecord.resting at *
  rwa [ho, hq]

/-! ### The laws together -/

/-- What the signal law says of the engine alone (R101, R108). -/
def Engine.flagged (e : Engine) : Prop :=
  (e.latchSignal = true ↔ e.state = .fill ∨ e.state = .handover ∨ e.state = .confirm) ∧
    (e.downshift = true ↔ e.state = .handover ∧ ∃ r, e.record = some r ∧ r.kind = .downshift)

/-- The driveline and pack laws but for the signals: the braking law where `due`, and `F` of the engine. -/
structure State.linked (due : Prop) (F : Engine → Prop) (s : State) : Prop where
  ratio : s.ratioLaw
  present : s.she.pr ≠ 0 → s.engageable s.she.pr
  inFlight : s.she.record.isSome = s.she.state.inFlight
  target : s.she.nr ≠ 0 → (s.rmp.entry s.she.nr).isSome = true
  route : ∀ r, s.she.record = some r → s.routed r
  cal : s.calLaw
  gear : s.gearLaw
  supply : s.supplied
  front : s.frontLaw
  latch : s.htc.latch.isSome = s.she.latchSignal
  braking : due → s.brakingLaw
  packs : ∀ p, (s.packs.get p).sound
  unit : s.cau.stepCount ≤ 60 ∧ 50 ≤ s.cau.interval ∧ s.cau.interval ≤ 500
  engine : F s.she

/-- Every law of the driveline and of the packs. -/
abbrev State.driven (s : State) : Prop := s.linked True Engine.flagged

theorem State.driven_iff (s : State) : s.driven ↔ s.drivelineLaw ∧ s.packLaw := by
  rw [State.drivelineLaw, State.recordLaw_iff, State.supplyLaw_iff, State.packLaw_iff]
  constructor
  · intro h
    obtain ⟨latched, downshift⟩ := h.engine
    exact ⟨⟨h.ratio, h.present, ⟨h.inFlight, h.target, h.route⟩, h.cal, h.gear, h.supply, h.front,
      ⟨latched, h.latch, downshift⟩, h.braking trivial⟩, h.packs, h.unit⟩
  · rintro ⟨⟨ratio, present, ⟨inFlight, target, route⟩, cal, gear, supply, front, ⟨latched, latch, downshift⟩, braking⟩,
      packs, unit⟩
    exact ⟨ratio, present, inFlight, target, route, cal, gear, supply, front, latch, fun _ => braking, packs, unit,
      ⟨latched, downshift⟩⟩

/-! ### What each law reads -/

theorem State.ratioLaw.congr {s t : State} (h : s.ratioLaw) (hm : t.rmp = s.rmp)
    (hf : ∀ p, (t.packs.get p).state = .fault ↔ (s.packs.get p).state = .fault) : t.ratioLaw := by
  unfold State.ratioLaw at *
  simpa only [hm, ne_eq, hf] using h

theorem State.calLaw_of_none {s : State} (hj : s.cau.job = none) (he : s.she.state ≠ .calHold) : s.calLaw := by
  rw [State.calLaw, hj]
  exact ⟨(decide_eq_false he).symm, fun _ e => (nomatch e)⟩

theorem State.calLaw_of_some {s : State} {j : CalJob} (hj : s.cau.job = some j) (he : s.she.state = .calHold)
    (hpr : s.she.pr = 0) (hnr : s.she.nr = 0) (hp : j.pack.partners = some (j.partner1, j.partner2))
    (hf : j.phase = .filling → j.fill1.isSome = true ∨ j.fill2.isSome = true) : s.calLaw := by
  rw [State.calLaw, hj]
  refine ⟨(decide_eq_true he).symm, fun j' e => ?_⟩
  obtain rfl := Option.some.inj e
  exact ⟨hpr, hnr, hp, hf⟩

/-- The law of the front drive reads the phase, FDP, and FRONT at the arbiter. -/
theorem State.frontLaw.congr {s t : State} (h : s.frontLaw) (hp : t.frd.phase = s.frd.phase)
    (hf : t.packs.fdp.state = s.packs.fdp.state) (hw : t.fsa.waiting.front = s.fsa.waiting.front)
    (hh : t.fsa.holder = some .front ↔ s.fsa.holder = some .front) : t.frontLaw := by
  unfold State.frontLaw at *
  simpa only [hp, hf, hw, ne_eq, hh] using h

/-! ### What follows from the laws -/

section
variable {due : Prop} {F : Engine → Prop} {s : State}

theorem State.linked.weaken (h : s.linked due F) {due' : Prop} {G : Engine → Prop} (hd : due' → due)
    (hG : F s.she → G s.she) : s.linked due' G :=
  { h with braking := fun d => h.braking (hd d), engine := hG h.engine }

theorem State.linked.no_record (h : s.linked due F) (he : s.she.state.inFlight = false) : s.she.record = none := by
  rw [← Option.not_isSome_iff_eq_none, h.inFlight, he]
  exact Bool.false_ne_true

theorem State.linked.no_job (h : s.linked due F) (he : s.she.state ≠ .calHold) : s.cau.job = none := by
  obtain ⟨job, -⟩ := h.cal
  rw [← Option.not_isSome_iff_eq_none, job, decide_eq_false he]
  exact Bool.false_ne_true

theorem State.linked.record (h : s.linked due F) (he : s.she.state.inFlight = true) : ∃ r, s.she.record = some r := by
  rw [← Option.isSome_iff_exists, h.inFlight, he]

theorem State.linked.flying (h : s.linked due F) {r : ShiftRecord} (hr : s.she.record = some r) :
    s.she.state.inFlight = true := by
  rw [← h.inFlight, hr]
  rfl

/-- With a shift in flight no calibration runs. -/
theorem State.linked.no_job_of_flying (h : s.linked due F) (he : s.she.state.inFlight = true) : s.cau.job = none :=
  h.no_job fun hold => by rw [hold] at he; cases he

theorem State.linked.calHold (h : s.linked due F) {j : CalJob} (hj : s.cau.job = some j) : s.she.state = .calHold := by
  obtain ⟨job, -⟩ := h.cal
  rw [hj] at job
  simpa using job

theorem State.linked.no_record_of_job (h : s.linked due F) {j : CalJob} (hj : s.cau.job = some j) :
    s.she.record = none :=
  h.no_record (by rw [h.calHold hj]; rfl)

end

/-- The packs of an entry are gearbox packs. -/
theorem RatioEntry.packs_gearbox {e : RatioEntry} {p : PackId} (h : p ∈ e.packs) : p ∈ gearboxPacks := by
  obtain ⟨_, direction, speed, range, _, _⟩ := e
  simp only [RatioEntry.packs, List.mem_cons, List.not_mem_nil, or_false] at h
  rcases h with rfl | rfl | rfl
  · cases direction <;> decide
  · cases speed <;> decide
  · cases range <;> decide

theorem State.packsOf_gearbox {s : State} {i : Nat} {p : PackId} (h : p ∈ s.packsOf i) : p ∈ gearboxPacks := by
  unfold State.packsOf at h
  split at h
  · cases h
  · exact RatioEntry.packs_gearbox h

theorem State.routed.onComing_gearbox {s : State} {r : ShiftRecord} (h : s.routed r) {p : PackId}
    (hp : p ∈ r.onComing) : p ∈ gearboxPacks :=
  State.packsOf_gearbox (h.mem_onComing.mp hp).1

theorem State.routed.offGoing_gearbox {s : State} {r : ShiftRecord} (h : s.routed r) {p : PackId}
    (hp : p ∈ r.offGoing) : p ∈ gearboxPacks :=
  State.packsOf_gearbox (h.mem_offGoing.mp hp).1

theorem fdp_not_gearbox : PackId.fdp ∉ gearboxPacks := by decide

/-! ### The ratio map -/

theorem RatioMap.entry_mem {m : RatioMap} {i : Nat} {e : RatioEntry} (h : m.entry i = some e) :
    e ∈ m.entries ∧ e.index = i :=
  ⟨List.mem_of_find?_eq_some h, by simpa using List.find?_some h⟩

theorem RatioMap.entry_isSome {m : RatioMap} {i : Nat} : (m.entry i).isSome = true ↔ ∃ e ∈ m.entries, e.index = i := by
  simp [RatioMap.entry]

/-- In index order, an entry is found at its index. -/
theorem RatioMap.entry_of_mem {m : RatioMap} (order : (m.entries.map fun e => e.index).Pairwise (· < ·))
    {e : RatioEntry} (he : e ∈ m.entries) : m.entry e.index = some e := by
  obtain ⟨x, hx⟩ := Option.isSome_iff_exists.mp (RatioMap.entry_isSome.mpr ⟨e, he, rfl⟩)
  obtain ⟨hxm, hxi⟩ := RatioMap.entry_mem hx
  have distinct : (m.entries.map fun e => e.index).Nodup := order.imp Nat.ne_of_lt
  rw [hx, List.inj_on_of_nodup_map distinct hxm he hxi]

theorem State.ratioLaw.entry_of_mem {s : State} (h : s.ratioLaw) {e : RatioEntry} (he : e ∈ s.rmp.entries) :
    s.rmp.entry e.index = some e :=
  RatioMap.entry_of_mem h.1 he

theorem State.packsOf_of_entry {s : State} {i : Nat} {e : RatioEntry} (h : s.rmp.entry i = some e) :
    s.packsOf i = e.packs := by
  rw [State.packsOf, h]

/-- Neutral is no entry (R47). -/
theorem State.ratioLaw.neutral {s : State} (h : s.ratioLaw) : s.rmp.entry 0 = none := by
  obtain ⟨-, ranges, -⟩ := h
  refine Option.not_isSome_iff_eq_none.mp fun some => ?_
  obtain ⟨e, he, hi⟩ := RatioMap.entry_isSome.mp some
  obtain ⟨low, -⟩ := ranges e he
  omega

/-! A pack names its kind: an entry's packs tell its direction, speed and range (R47). -/

theorem Direction.pack_injective {d d' : Direction} (h : d.pack = d'.pack) : d = d' := by
  revert h
  cases d <;> cases d' <;> decide

theorem SpeedPack.pack_injective {p p' : SpeedPack} (h : p.pack = p'.pack) : p = p' := by
  revert h
  cases p <;> cases p' <;> decide

theorem RangePack.pack_injective {g g' : RangePack} (h : g.pack = g'.pack) : g = g' := by
  revert h
  cases g <;> cases g' <;> decide

theorem Direction.pack_ne_speed (d : Direction) (p : SpeedPack) : d.pack ≠ p.pack := by
  cases d <;> cases p <;> decide

theorem Direction.pack_ne_range (d : Direction) (g : RangePack) : d.pack ≠ g.pack := by
  cases d <;> cases g <;> decide

theorem SpeedPack.pack_ne_range (p : SpeedPack) (g : RangePack) : p.pack ≠ g.pack := by
  cases p <;> cases g <;> decide

theorem RatioEntry.direction_pack_mem {e : RatioEntry} {d : Direction} : d.pack ∈ e.packs ↔ d = e.direction := by
  simp only [RatioEntry.packs, List.mem_cons, List.not_mem_nil, or_false, Direction.pack_ne_speed,
    Direction.pack_ne_range]
  exact ⟨Direction.pack_injective, congrArg _⟩

theorem RatioEntry.speed_pack_mem {e : RatioEntry} {p : SpeedPack} : p.pack ∈ e.packs ↔ p = e.speed := by
  simp only [RatioEntry.packs, List.mem_cons, List.not_mem_nil, or_false, (Direction.pack_ne_speed _ _).symm,
    SpeedPack.pack_ne_range, false_or]
  exact ⟨SpeedPack.pack_injective, congrArg _⟩

theorem RatioEntry.range_pack_mem {e : RatioEntry} {g : RangePack} : g.pack ∈ e.packs ↔ g = e.range := by
  simp only [RatioEntry.packs, List.mem_cons, List.not_mem_nil, or_false, (Direction.pack_ne_range _ _).symm,
    (SpeedPack.pack_ne_range _ _).symm, false_or]
  exact ⟨RangePack.pack_injective, congrArg _⟩

/-- Entries of the same three packs are one. -/
theorem State.ratioLaw.index_of_packs {s : State} (h : s.ratioLaw) {e e' : RatioEntry} (he : e ∈ s.rmp.entries)
    (he' : e' ∈ s.rmp.entries) (hp : ∀ p ∈ e.packs, p ∈ e'.packs) : e.index = e'.index := by
  obtain ⟨-, -, -, distinct, -⟩ := h
  exact distinct e he e' he' (RatioEntry.direction_pack_mem.mp (hp _ (RatioEntry.direction_pack_mem.mpr rfl)))
    (RatioEntry.speed_pack_mem.mp (hp _ (RatioEntry.speed_pack_mem.mpr rfl)))
    (RatioEntry.range_pack_mem.mp (hp _ (RatioEntry.range_pack_mem.mpr rfl)))

/-- A shift has a pack to fill: its destination is another ratio than its origin. -/
theorem State.routed.onComing_ne_nil {s : State} {r : ShiftRecord} (h : s.routed r) (hr : s.ratioLaw) :
    ∃ p, p ∈ r.onComing := by
  by_contra none
  obtain ⟨e, he, -⟩ := h.engageable
  have dest := State.packsOf_of_entry he
  have sub : ∀ p ∈ e.packs, p ∈ s.packsOf r.origin := fun p hp => by
    by_contra new
    exact none ⟨p, h.mem_onComing.mpr ⟨by rw [dest]; exact hp, new⟩⟩
  cases ho : s.rmp.entry r.origin with
  | none =>
    have := sub e.direction.pack (by simp [RatioEntry.packs])
    simp [State.packsOf, ho] at this
  | some x =>
    rw [State.packsOf_of_entry ho] at sub
    obtain ⟨hem, hei⟩ := RatioMap.entry_mem he
    obtain ⟨hxm, hxi⟩ := RatioMap.entry_mem ho
    have same := hr.index_of_packs hem hxm sub
    exact h.dest (by rw [← hei, same, hxi, h.origin])

end Sys2Proof.Machine

namespace Sys2Proof.Machine

/-! ## A grant of the fill supply -/

/-- A predicate of the engine that a grant to the waiting shift keeps. -/
def grantStable (F : Engine → Prop) : Prop :=
  ∀ e r time ne, F e → e.state = .supplyWait → e.record = some r →
    F { e with state := .fill, timer := some time, record := some { r with neRef := ne }, latchSignal := true }

theorem Engine.flagged_grantStable : grantStable Engine.flagged := by
  rintro e r time ne ⟨-, downshift⟩ he hr
  refine ⟨by simp, ?_⟩
  change e.downshift = true ↔ _
  rw [downshift, he]
  simp

/-- An engine that waits for no supply is granted none. -/
theorem grantStable_eq {e : Engine} (he : e.state ≠ .supplyWait) : grantStable (· = e) := by
  rintro _ r time ne rfl wait
  exact absurd wait he

/-! ### What a grant does -/

/-- The packs of a list that are in FILL once each has been ordered there from RELEASED are all of them. -/
theorem PackFile.filling_order {f : PackFile} {ps : List PackId} (h : ∀ p ∈ ps, (f.get p).state = .released) :
    (f.order ps PackRecord.toFill).filling ps = ps := by
  refine List.filter_eq_self.mpr fun p hp => ?_
  rw [PackFile.get_order PackRecord.toFill_isOrder.again, if_pos hp, PackRecord.toFill_of_released (h p hp)]
  exact decide_eq_true rfl

/-- The arbiter after a grant: the requester holds, with its packs in the fill list (R72). -/
def Supply.granted (f : Supply) (r : Requester) (ps : List PackId) : Supply :=
  { f with holder := some r, fillList := ps, waiting := f.waiting.put r false }

theorem State.grantTo_shift {s : State} {r : ShiftRecord} (hr : s.she.record = some r)
    (rest : ∀ p ∈ r.onComing, (s.packs.get p).state = .released) :
    s.grantTo .shift =
      State.formLoadIndex { s with
        packs := s.packs.order r.onComing PackRecord.toFill
        fsa := s.fsa.granted .shift r.onComing
        she := { s.she with
          state := .fill, timer := some ((s.packs.order r.onComing PackRecord.toFill).longestFill r.onComing)
          record := some { r with neRef := s.mfe.ne.held }, latchSignal := true }
        htc := { s.htc with latch := some s.htc.formed } } := by
  have fills := PackFile.filling_order rest
  simp only [State.grantTo, State.grantShift, hr, State.startFill, fills]
  rfl

theorem State.grantTo_front {s : State} (rest : s.packs.fdp.state = .released) :
    s.grantTo .front =
      { s with
        packs := s.packs.order [.fdp] PackRecord.toFill
        fsa := s.fsa.granted .front [.fdp]
        frd := { s.frd with
          phase := .filling, fillTimer := some (s.packs.order [.fdp] PackRecord.toFill).fdp.active.tf } } := by
  have fills : (s.packs.order [.fdp] PackRecord.toFill).filling [.fdp] = [.fdp] :=
    PackFile.filling_order fun p hp => by
      obtain rfl := List.mem_singleton.mp hp
      exact rest
  simp only [State.grantTo, State.grantFront, State.startFill, fills]
  rfl

theorem State.grantTo_cal {s : State} {j : CalJob} (hj : s.cau.job = some j)
    (rest : ∀ p ∈ [j.partner1, j.partner2], (s.packs.get p).state = .released) :
    s.grantTo .cal =
      { s with
        packs := s.packs.order [j.partner1, j.partner2] PackRecord.toFill
        fsa := s.fsa.granted .cal [j.partner1, j.partner2]
        cau := { s.cau with job := some { j with
          phase := .filling
          fill1 := some ((s.packs.order [j.partner1, j.partner2] PackRecord.toFill).get j.partner1).active.tf
          fill2 := some ((s.packs.order [j.partner1, j.partner2] PackRecord.toFill).get j.partner2).active.tf } } } := by
  have fills := PackFile.filling_order rest
  simp only [State.grantTo, State.grantCal, hj, State.startFill, fills]
  rfl

/-! ### The packs that wait stand RELEASED -/

/-- The packs of a calibration are three gearbox packs. -/
theorem PackId.partners_spec {p a b : PackId} (h : p.partners = some (a, b)) :
    p ≠ .fdp ∧ a ≠ .fdp ∧ b ≠ .fdp ∧ a ≠ p ∧ b ≠ p ∧ a ≠ b := by
  cases p <;> cases h <;> decide

/-- A shift waits for its on-coming packs to be filled, RELEASED. -/
theorem State.routed.onComing_released {s : State} {r : ShiftRecord} (h : s.routed r) (gear : s.gearLaw)
    (hr : s.she.record = some r) (he : s.she.state = .supplyWait) {p : PackId} (hp : p ∈ r.onComing) :
    (s.packs.get p).state = .released := by
  have places := gear.shift hr (h.onComing_gearbox hp)
  have notOrigin : p ∉ s.packsOf r.origin := (h.mem_onComing.mp hp).2
  simpa only [State.shiftPlaces, he, if_neg notOrigin, if_pos hp] using places

/-- A calibration waits with its three packs RELEASED. -/
theorem State.calLaw.packs_released {s : State} {j : CalJob} (h : s.calLaw) (gear : s.gearLaw) (hj : s.cau.job = some j)
    (hp : j.phase = .waiting) {p : PackId} (hm : p ∈ j.packs) : (s.packs.get p).state = .released := by
  obtain ⟨-, job⟩ := h
  obtain ⟨-, -, partners, -⟩ := job j hj
  obtain ⟨pack, first, second, -⟩ := PackId.partners_spec partners
  have hid : p ∈ gearboxPacks := by
    simp only [CalJob.packs, List.mem_cons, List.not_mem_nil, or_false] at hm
    rcases hm with rfl | rfl | rfl <;> exact mem_gearboxPacks.mpr ‹_›
  simpa only [if_pos hm] using (CalJob.places_waiting hp).mp (gear.cal hj hid)

section
variable {due : Prop} {F : Engine → Prop} {s : State}

/-! ### A grant keeps the laws -/

/-- With the supply free no pack is in FILL. -/
theorem State.linked.no_fill (h : s.linked due F) (free : s.fsa.holder = none) (p : PackId) :
    (s.packs.get p).state ≠ .fill := by
  rw [Ne, h.supply.fills p, h.supply.holds.mp free]
  exact List.not_mem_nil

/-- Ordered into FILL from RELEASED, with no other pack there, the packs are those in FILL. -/
theorem PackFile.fill_order {f : PackFile} {ps : List PackId} (none : ∀ p, (f.get p).state ≠ .fill)
    (rest : ∀ p ∈ ps, (f.get p).state = .released) (p : PackId) :
    ((f.order ps PackRecord.toFill).get p).state = .fill ↔ p ∈ ps := by
  rw [PackFile.get_order PackRecord.toFill_isOrder.again]
  by_cases hp : p ∈ ps
  · simp [hp, PackRecord.toFill_of_released (rest p hp)]
  · simp [hp, none p]

theorem PackFile.get_order_not_mem {g : PackRecord → PackRecord} (hg : ∀ p, g (g p) = g p) {f : PackFile}
    {ps : List PackId} {q : PackId} (h : q ∉ ps) : (f.order ps g).get q = f.get q := by
  rw [PackFile.get_order hg, if_neg h]

theorem State.linked.grantTo_shift (hF : grantStable F) (h : s.linked due F) (free : s.fsa.holder = none)
    (waits : s.fsa.waiting.shift = true) : (s.grantTo .shift).linked due F ∧ (s.grantTo .shift).fsa.fillList ≠ [] := by
  have state : s.she.state = .supplyWait := h.supply.shiftWaits.mpr waits
  obtain ⟨r, hr⟩ := h.record (by rw [state]; rfl)
  have route := h.route r hr
  have job := h.no_job_of_flying (by rw [state]; rfl)
  have rest : ∀ p ∈ r.onComing, (s.packs.get p).state = .released := fun _ hp =>
    route.onComing_released h.gear hr state hp
  have coming : r.onComing ≠ [] := let ⟨_, hp⟩ := route.onComing_ne_nil h.ratio; List.ne_nil_of_mem hp
  have fault := PackFile.fault_order PackRecord.toFill_isOrder s.packs r.onComing
  have engage {i : Nat} (hi : s.engageable i) : (s.grantTo .shift).engageable i := by
    rw [State.grantTo_shift hr rest]
    exact hi.congr rfl fun p => (fault p).mp
  rw [State.grantTo_shift hr rest] at engage ⊢
  refine ⟨?_, ?_⟩
  · constructor
    case ratio => exact h.ratio.congr rfl fault
    case present => exact fun hp => engage (h.present hp)
    case inFlight => rfl
    case target => exact h.target
    case route =>
      rintro _ ⟨⟩
      exact route.congr ⟨rfl, rfl, rfl, rfl, rfl⟩ rfl rfl rfl engage
    case cal => exact State.calLaw_of_none job nofun
    case gear =>
      refine State.gearLaw_of_shift job rfl fun id hid => ?_
      have places := (State.shiftPlaces_supplyWait state).mp (h.gear.shift hr hid)
      refine (State.shiftPlaces_fill rfl).mpr ?_
      by_cases coming : id ∈ r.onComing
      · rw [if_pos coming]
        exact (PackFile.fill_order (h.no_fill free) rest id).mpr coming
      · rw [if_neg coming] at places ⊢
        exact (PackFile.get_order_not_mem PackRecord.toFill_isOrder.again coming).symm ▸ places
    case supply =>
      exact ⟨PackFile.fill_order (h.no_fill free) rest, by simp [Supply.granted, coming],
        by simp [Supply.granted, Waiting.put], by simp [Supply.granted], h.supply.calWaits, by simp [Supply.granted, job]⟩
    case front =>
      refine h.front.congr rfl ?_ rfl ?_
      · exact congrArg PackRecord.state (PackFile.get_order_not_mem (q := .fdp) PackRecord.toFill_isOrder.again
          fun hp => fdp_not_gearbox (route.onComing_gearbox hp))
      · simp [Supply.granted, free]
    case latch => rfl
    case braking => exact h.braking
    case packs => exact PackFile.sound_order h.packs PackRecord.toFill_isOrder.again (fun _ hp => hp.toFill) _
    case unit => exact h.unit
    case engine => exact hF _ _ _ _ h.engine state hr
  · exact coming

/-- In every phase FDP stands out of FAULT. -/
theorem State.frontLaw.fdp_no_fault (h : s.frontLaw) : s.packs.fdp.state ≠ .fault := by
  unfold State.frontLaw at h
  split at h <;> obtain ⟨fdp, -, -⟩ := h <;> rw [fdp] <;> nofun

/-- What the front drive does on FDP and at the arbiter concerns no law of the gearbox. -/
theorem State.linked.front_step (h : s.linked due F) {t : State} {due' : Prop}
    (others : ∀ p, p ≠ .fdp → t.packs.get p = s.packs.get p) (fdp : t.packs.fdp.sound)
    (same : t.rmp = s.rmp ∧ t.she = s.she ∧ t.cau = s.cau ∧ t.htc.latch = s.htc.latch)
    (supply : t.supplied) (front : t.frontLaw) (braking : due' → t.brakingLaw) : t.linked due' F := by
  obtain ⟨rmp, she, cau, latch⟩ := same
  have fault (p : PackId) : (t.packs.get p).state = .fault ↔ (s.packs.get p).state = .fault := by
    by_cases hp : p = .fdp
    · subst hp
      exact iff_of_false front.fdp_no_fault h.front.fdp_no_fault
    · rw [others p hp]
  have engage {i : Nat} (hi : s.engageable i) : t.engageable i := hi.congr rmp fun p => (fault p).mp
  have packsOf (i : Nat) : t.packsOf i = s.packsOf i := State.packsOf_congr rmp i
  constructor
  case ratio => exact h.ratio.congr rmp fault
  case present => rw [she]; exact fun hp => engage (h.present hp)
  case inFlight => rw [she]; exact h.inFlight
  case target => rw [she, rmp]; exact h.target
  case route =>
    rw [she]
    exact fun r hr => (h.route r hr).congr ⟨rfl, rfl, rfl, rfl, rfl⟩ (by rw [she]) (packsOf _) (packsOf _) engage
  case cal =>
    unfold State.calLaw
    rw [she, cau]
    exact h.cal
  case gear =>
    intro id hid
    obtain ⟨cal, shift, rest⟩ := h.gear id hid
    rw [others id (mem_gearboxPacks.mp hid), she, cau, packsOf]
    exact ⟨cal, fun r hr => (shift r hr).congr ⟨rfl, rfl, rfl, rfl, rfl⟩ (by rw [she]) (packsOf _) (packsOf _) rfl,
      rest⟩
  case supply => exact supply
  case front => exact front
  case latch => rw [latch, she]; exact h.latch
  case braking => exact braking
  case packs =>
    intro p
    by_cases hp : p = .fdp
    · subst hp
      exact fdp
    · rw [others p hp]
      exact h.packs p
  case unit => rw [cau]; exact h.unit
  case engine => rw [she]; exact h.engine

theorem State.frontLaw.of_waits (h : s.frontLaw) (waits : s.fsa.waiting.front = true) :
    s.frd.phase = .waiting ∧ s.packs.fdp.state = .released := by
  unfold State.frontLaw at h
  split at h <;> obtain ⟨fdp, waiting, -⟩ := h <;> simp_all

theorem State.linked.grantTo_front (h : s.linked due F) (free : s.fsa.holder = none)
    (waits : s.fsa.waiting.front = true) : (s.grantTo .front).linked due F ∧ (s.grantTo .front).fsa.fillList ≠ [] := by
  obtain ⟨phase, rest⟩ := h.front.of_waits waits
  have wait : ∀ p ∈ [PackId.fdp], (s.packs.get p).state = .released := fun p hp => by
    obtain rfl := List.mem_singleton.mp hp
    exact rest
  rw [State.grantTo_front rest]
  refine ⟨h.front_step (fun p hp => ?_) ?_ ⟨rfl, rfl, rfl, rfl⟩ ?_ ?_ ?_, List.cons_ne_nil _ _⟩
  · exact PackFile.get_order_not_mem PackRecord.toFill_isOrder.again (by simpa using hp)
  · exact PackFile.sound_order h.packs PackRecord.toFill_isOrder.again (fun _ hp => hp.toFill) [.fdp] .fdp
  · have noShift : s.she.state ≠ .fill := by rw [Ne, h.supply.shiftHolds, free]; nofun
    have noCal : ¬ s.cau.inPhase .filling := by rw [h.supply.calHolds, free]; nofun
    exact ⟨PackFile.fill_order (h.no_fill free) wait,
      by simp [Supply.granted], h.supply.shiftWaits, by simp [Supply.granted, noShift], h.supply.calWaits,
      by simp [Supply.granted, noCal]⟩
  · exact ⟨(PackFile.fill_order (h.no_fill free) wait .fdp).mpr List.mem_cons_self, rfl, rfl⟩
  · intro d spring braking
    have := h.braking d spring braking
    rw [phase] at this
    cases this

theorem State.linked.grantTo_cal (h : s.linked due F) (free : s.fsa.holder = none)
    (waits : s.fsa.waiting.cal = true) : (s.grantTo .cal).linked due F ∧ (s.grantTo .cal).fsa.fillList ≠ [] := by
  obtain ⟨j, hj, phase⟩ := h.supply.calWaits.mpr waits
  have hold := h.calHold hj
  have record := h.no_record_of_job hj
  obtain ⟨-, job⟩ := h.cal
  obtain ⟨pr, nr, partners, -⟩ := job j hj
  obtain ⟨-, first, second, ne1, ne2, -⟩ := PackId.partners_spec partners
  have rest : ∀ p ∈ [j.partner1, j.partner2], (s.packs.get p).state = .released := fun p hp =>
    h.cal.packs_released h.gear hj phase (List.mem_cons_of_mem _ hp)
  have fault := PackFile.fault_order PackRecord.toFill_isOrder s.packs [j.partner1, j.partner2]
  rw [State.grantTo_cal hj rest]
  refine ⟨?_, List.cons_ne_nil _ _⟩
  · constructor
    case ratio => exact h.ratio.congr rfl fault
    case present => exact fun hp => (h.present hp).congr rfl fun p => (fault p).mp
    case inFlight => exact h.inFlight
    case target => exact h.target
    case route => exact fun r hr => nomatch record.symm.trans hr
    case cal => exact State.calLaw_of_some rfl hold pr nr partners fun _ => .inl rfl
    case gear =>
      refine State.gearLaw_of_cal rfl record fun id hid => (CalJob.places_filling rfl).mpr ?_
      have places := (CalJob.places_waiting phase).mp (h.gear.cal hj hid)
      by_cases hp : id ∈ [j.partner1, j.partner2]
      · have fill := (PackFile.fill_order (h.no_fill free) rest id).mpr hp
        simp only [List.mem_cons, List.not_mem_nil, or_false] at hp
        rcases hp with rfl | rfl <;> simpa [ne1, ne2] using fill
      · rw [PackFile.get_order_not_mem PackRecord.toFill_isOrder.again hp]
        simp_all [CalJob.packs]
    case supply =>
      exact ⟨PackFile.fill_order (h.no_fill free) rest, by simp [Supply.granted], h.supply.shiftWaits,
        by simp [Supply.granted, hold], by simp [Supply.granted, Waiting.put],
        by simp [Supply.granted]⟩
    case front =>
      refine h.front.congr rfl ?_ rfl ?_
      · exact congrArg PackRecord.state (PackFile.get_order_not_mem (q := .fdp) PackRecord.toFill_isOrder.again
          (by simp [first.symm, second.symm]))
      · simp [Supply.granted, free]
    case latch => exact h.latch
    case braking => exact h.braking
    case packs => exact PackFile.sound_order h.packs PackRecord.toFill_isOrder.again (fun _ hp => hp.toFill) _
    case unit => exact h.unit
    case engine => exact h.engine

end

end Sys2Proof.Machine

namespace Sys2Proof.Machine

/-! ## What no law of the driveline reads -/

/-- What the laws of the driveline and of the packs read of a state. -/
structure Driveline where
  map : RatioMap
  packs : PackFile
  holder : Option Requester
  fillList : List PackId
  waiting : Waiting
  present : Nat
  target : Nat
  engine : EngineState
  record : Option ShiftRecord
  downshift : Bool
  latchSignal : Bool
  unit : CalUnit
  phase : FrontPhase
  latched : Bool
  braking : Bool
  kind : FdKind

/-- The driveline of a state. -/
def State.driveline (s : State) : Driveline :=
  { map := s.rmp, packs := s.packs, holder := s.fsa.holder, fillList := s.fsa.fillList, waiting := s.fsa.waiting
    present := s.she.pr, target := s.she.nr, engine := s.she.state, record := s.she.record
    downshift := s.she.downshift, latchSignal := s.she.latchSignal, unit := s.cau, phase := s.frd.phase
    latched := s.htc.latch.isSome, braking := s.tre.braking, kind := s.straps.fdkind }

section
variable {due : Prop} {F G : Engine → Prop} {s t : State}

/-- States of one driveline meet the same laws, but for what is said of the engine. -/
theorem State.linked.of_driveline (h : s.linked due F) (k : t.driveline = s.driveline)
    (engine : G t.she) : t.linked due G := by
  simp only [State.driveline, Driveline.mk.injEq] at k
  obtain ⟨map, packs, holder, fillList, waiting, pr, nr, state, record, -, signal, unit, phase, latched, braking,
    kind⟩ := k
  have packsOf (i : Nat) : t.packsOf i = s.packsOf i := State.packsOf_congr map i
  have engage {i : Nat} (hi : s.engageable i) : t.engageable i := hi.congr map fun p => by rw [packs]; exact id
  constructor
  case ratio => exact h.ratio.congr map fun p => by rw [packs]
  case present => rw [pr]; exact fun hp => engage (h.present hp)
  case inFlight => rw [record, state]; exact h.inFlight
  case target => rw [nr, map]; exact h.target
  case route =>
    rw [record]
    exact fun r hr => (h.route r hr).congr ⟨rfl, rfl, rfl, rfl, rfl⟩ pr (packsOf _) (packsOf _) engage
  case cal =>
    unfold State.calLaw
    rw [unit, state, pr, nr]
    exact h.cal
  case gear =>
    intro id hid
    obtain ⟨cal, shift, rest⟩ := h.gear id hid
    rw [packs, unit, record, packsOf, pr]
    exact ⟨cal, fun r hr => (shift r hr).congr ⟨rfl, rfl, rfl, rfl, rfl⟩ state (packsOf _) (packsOf _) rfl, rest⟩
  case supply =>
    obtain ⟨fills, holds, shiftWaits, shiftHolds, calWaits, calHolds⟩ := h.supply
    constructor <;> simpa only [packs, fillList, holder, state, waiting, unit]
  case front => exact h.front.congr phase (by rw [packs]) (by rw [waiting]) (by rw [holder])
  case latch => rw [latched, signal]; exact h.latch
  case braking =>
    unfold State.brakingLaw
    rw [kind, braking, phase]
    exact h.braking
  case packs => rw [packs]; exact h.packs
  case unit => rw [unit]; exact h.unit
  case engine => exact engine

theorem State.flagged_of_driveline (h : Engine.flagged s.she) (k : t.driveline = s.driveline) :
    Engine.flagged t.she := by
  simp only [State.driveline, Driveline.mk.injEq] at k
  obtain ⟨-, -, -, -, -, -, -, state, record, downshift, signal, -⟩ := k
  unfold Engine.flagged
  rw [signal, state, downshift, record]
  exact h

theorem State.linked.flag_of_driveline (h : s.linked due Engine.flagged) (k : t.driveline = s.driveline) :
    t.linked due Engine.flagged :=
  h.of_driveline k (State.flagged_of_driveline h.engine k)

/-- A notice is no part of the driveline. -/
theorem State.linked.offer (h : s.linked due F) (r : Report) (d : List Byte) : (s.offer r d).linked due F :=
  h.of_driveline rfl h.engine

end

/-! ## The fill supply keeps the laws -/

theorem Supply.grantee_eq_some {f : Supply} {r : Requester} (h : f.grantee = some r) :
    f.holder = none ∧ f.waiting.has r = true := by
  unfold Supply.grantee at h
  split at h
  next free _ =>
    refine ⟨free, ?_⟩
    unfold Waiting.first at h
    split_ifs at h with shift front cal <;> cases h <;> assumption
  · cases h

theorem Supply.grantee_first {f : Supply} {r : Requester} (h : f.grantee = some r) : f.waiting.first = some r := by
  unfold Supply.grantee at h
  split at h
  · exact h
  · cases h

section
variable {due : Prop} {F : Engine → Prop} {s : State}

theorem State.linked.grantTo (hF : grantStable F) (h : s.linked due F) {r : Requester} (hr : s.fsa.grantee = some r) :
    (s.grantTo r).linked due F ∧ (s.grantTo r).fsa.fillList ≠ [] := by
  obtain ⟨free, waits⟩ := Supply.grantee_eq_some hr
  cases r with
  | shift => exact h.grantTo_shift hF free waits
  | front => exact h.grantTo_front free waits
  | cal => exact h.grantTo_cal free waits

/-- Under the laws a grant puts a pack into FILL: the decision is made once. -/
theorem State.linked.grantRounds_succ (hF : grantStable F) (h : s.linked due F) (n : Nat) :
    s.grantRounds (n + 1) = match s.fsa.grantee with | none => s | some r => s.grantTo r := by
  unfold State.grantRounds
  cases hr : s.fsa.grantee with
  | none => rfl
  | some r => exact if_neg (by simpa using (h.grantTo hF hr).2)

theorem State.linked.grantDecision (hF : grantStable F) (h : s.linked due F) : s.grantDecision.linked due F := by
  rw [State.grantDecision, h.grantRounds_succ hF]
  split
  · exact h
  next r hr => exact (h.grantTo hF hr).1

/-- A request taken into the waiting set. -/
def State.waitSupply (s : State) (r : Requester) : State :=
  { s with fsa := { s.fsa with waiting := s.fsa.waiting.put r true } }

theorem State.linked.requestSupply (hF : grantStable F) {r : Requester} (waits : s.fsa.waiting.has r = false)
    (holds : s.fsa.holder ≠ some r) (h : (s.waitSupply r).linked due F) : (s.requestSupply r).linked due F := by
  rw [State.requestSupply, if_neg (by simp [waits, holds])]
  exact h.grantDecision hF

/-- Whether the fill list empties as packs leave FILL (R73). -/
def State.freedBy (s : State) (ps : List PackId) : Bool :=
  !s.fsa.fillList.isEmpty && (s.fsa.fillList.filter fun p => !ps.contains p).isEmpty

theorem State.leaveFill_of_freed {ps : List PackId} (h : s.freedBy ps = true) :
    s.leaveFill ps = State.grantDecision { s with fsa := { s.fsa with holder := none, fillList := [] } } := if_pos h

theorem State.leaveFill_of_kept {ps : List PackId} (h : ¬ s.freedBy ps = true) :
    s.leaveFill ps = { s with fsa := { s.fsa with fillList := s.fsa.fillList.filter fun p => !ps.contains p } } :=
  if_neg h

/-- Packs have left FILL: the list is shortened, or the supply is free and granted again (R73). -/
theorem State.linked.leaveFill (hF : grantStable F) {ps : List PackId} (listed : s.fsa.fillList ≠ [])
    (kept : (s.fsa.fillList.filter fun p => !ps.contains p) ≠ [] → State.linked due F
      { s with fsa := { s.fsa with fillList := s.fsa.fillList.filter fun p => !ps.contains p } })
    (freed : (s.fsa.fillList.filter fun p => !ps.contains p) = [] →
      State.linked due F { s with fsa := { s.fsa with holder := none, fillList := [] } }) :
    (s.leaveFill ps).linked due F := by
  by_cases h : s.freedBy ps = true
  · rw [State.leaveFill_of_freed h]
    rw [State.freedBy, Bool.and_eq_true, List.isEmpty_iff] at h
    exact (freed h.2).grantDecision hF
  · rw [State.leaveFill_of_kept h]
    refine kept fun empty => h ?_
    rw [State.freedBy, List.isEmpty_iff.mpr empty]
    simp [listed]

/-- The packs that hold the supply have all left FILL. -/
theorem State.linked.leaveFill_all (hF : grantStable F) {ps : List PackId} (listed : s.fsa.fillList ≠ [])
    (all : ∀ p ∈ s.fsa.fillList, p ∈ ps)
    (h : State.linked due F { s with fsa := { s.fsa with holder := none, fillList := [] } }) :
    (s.leaveFill ps).linked due F := by
  have none : (s.fsa.fillList.filter fun p => !ps.contains p) = [] := by simpa using all
  exact State.linked.leaveFill hF listed (fun ne => absurd none ne) fun _ => h

/-! ## The front drive keeps the laws -/

/-- FRONT at the arbiter, by the phase of the front drive (R130). -/
theorem State.frontLaw.waits (h : s.frontLaw) (hp : s.frd.phase ≠ .waiting) : s.fsa.waiting.front = false := by
  unfold State.frontLaw at h
  split at h <;> simp_all

theorem CalJob.places_fill {j : CalJob} {id : PackId} {p : PackRecord} (h : j.places id p)
    (fill : p.state = .fill) : j.phase = .filling := by
  cases hp : j.phase with
  | filling => rfl
  | waiting =>
    have places := (CalJob.places_waiting hp).mp h
    split_ifs at places <;> simp_all [PackRecord.resting]
  | settling =>
    have places := (CalJob.places_settling hp).mp h
    split_ifs at places <;> simp_all [PackRecord.resting]
  | stepping =>
    have places := (CalJob.places_stepping hp).mp h
    split_ifs at places <;> simp_all [PackRecord.resting]

theorem State.shiftPlaces_filled {r : ShiftRecord} {id : PackId} {p : PackRecord} (flying : s.she.state.inFlight = true)
    (h : s.shiftPlaces r id p) (fill : p.state = .fill) : s.she.state = .fill := by
  cases state : s.she.state with
  | fill => rfl
  | supplyWait =>
    have places := (State.shiftPlaces_supplyWait state).mp h
    split_ifs at places <;> simp_all [PackRecord.resting]
  | handover =>
    have places := (State.shiftPlaces_handover state).mp h
    split_ifs at places <;> simp_all [PackRecord.resting]
  | confirm =>
    have places := (State.shiftPlaces_confirm state).mp h
    split_ifs at places <;> simp_all [PackRecord.resting]
  | settled | interval | calHold => simp [state, EngineState.inFlight] at flying

/-- A gearbox pack in FILL is filled for the shift or the calibration that holds the supply. -/
theorem State.linked.holder_of_gearbox_fill (h : s.linked due F) {p : PackId} (hp : p ∈ gearboxPacks)
    (fill : (s.packs.get p).state = .fill) : s.fsa.holder = some .shift ∨ s.fsa.holder = some .cal := by
  cases hj : s.cau.job with
  | some j => exact .inr (h.supply.calHolds.mp ⟨j, hj, CalJob.places_fill (h.gear.cal hj hp) fill⟩)
  | none =>
    cases hr : s.she.record with
    | some r =>
      exact .inl (h.supply.shiftHolds.mp (State.shiftPlaces_filled (h.flying hr) (h.gear.shift hr hp) fill))
    | none =>
      have places := h.gear.rest hj hr hp
      simp [State.restPlaces, PackRecord.resting, fill] at places

/-- The only pack that fills for the front drive is FDP. -/
theorem State.linked.front_fills (h : s.linked due F) (holds : s.fsa.holder = some .front) :
    ∀ p ∈ s.fsa.fillList, p = .fdp := by
  intro p hp
  by_contra gear
  have := h.holder_of_gearbox_fill (mem_gearboxPacks.mpr gear) ((h.supply.fills p).mpr hp)
  simp [holds] at this

/-- FDP fills for the front drive alone. -/
theorem State.frontLaw.fdp_fill (h : s.frontLaw) : s.packs.fdp.state = .fill ↔ s.fsa.holder = some .front := by
  unfold State.frontLaw at h
  split at h <;> simp_all

/-- Where FRONT does not hold the supply, what fills are gearbox packs. -/
theorem State.linked.fillList_gearbox (h : s.linked due F) (holds : s.fsa.holder ≠ some .front) {p : PackId}
    (hp : p ∈ s.fsa.fillList) : p ∈ gearboxPacks :=
  mem_gearboxPacks.mpr fun fdp => holds (h.front.fdp_fill.mp ((h.supply.fills .fdp).mpr (fdp ▸ hp)))

theorem State.frontLaw.filling (h : s.frontLaw) (hp : s.frd.phase = .filling) :
    s.packs.fdp.state = .fill ∧ s.fsa.waiting.front = false ∧ s.fsa.holder = some .front := by
  simpa only [State.frontLaw, hp] using h

theorem State.frontLaw.holding (h : s.frontLaw) (hp : s.frd.phase = .holding) :
    s.packs.fdp.state = .locked ∧ s.fsa.waiting.front = false ∧ s.fsa.holder ≠ some .front := by
  simpa only [State.frontLaw, hp] using h

theorem State.frontLaw.rest (h : s.frontLaw) (hp : s.frd.phase = .rest) :
    s.packs.fdp.state = .released ∧ s.fsa.waiting.front = false ∧ s.fsa.holder ≠ some .front := by
  simpa only [State.frontLaw, hp] using h

theorem State.frontLaw.waiting (h : s.frontLaw) (hp : s.frd.phase = .waiting) :
    s.packs.fdp.state = .released ∧ s.fsa.waiting.front = true ∧ s.fsa.holder ≠ some .front := by
  simpa only [State.frontLaw, hp] using h

/-- FDP moved out of FILL, and the supply it held set free (R73). -/
theorem State.linked.front_freed (hF : grantStable F) (h : s.linked due F) (holds : s.fsa.holder = some .front)
    {g : PackRecord → PackRecord} (sound : (g s.packs.fdp).sound) (out : (g s.packs.fdp).state ≠ .fill)
    {phase : FrontPhase}
    (front : State.frontLaw { s with frd := { s.frd with phase := phase, fillTimer := none }
                                     packs := s.packs.update g .fdp
                                     fsa := { s.fsa with holder := none, fillList := [] } })
    {due' : Prop} (braking : due' → s.straps.fdkind = .spring → s.tre.braking = true → phase = .rest) :
    (State.leaveFill { s with frd := { s.frd with phase := phase, fillTimer := none }
                              packs := s.packs.update g .fdp } [.fdp]).linked due' F := by
  have only := h.front_fills holds
  have noShift : s.she.state ≠ .fill := by rw [Ne, h.supply.shiftHolds, holds]; nofun
  have noCal : ¬ s.cau.inPhase .filling := by rw [h.supply.calHolds, holds]; nofun
  have others (p : PackId) (hp : p ≠ .fdp) : (s.packs.update g .fdp).get p = s.packs.get p := by
    rw [PackFile.get_update, if_neg hp]
  have empty (p : PackId) : ((s.packs.update g .fdp).get p).state ≠ .fill := by
    by_cases hp : p = .fdp
    · subst hp
      exact out
    · rw [others p hp]
      exact fun fill => hp (only p ((h.supply.fills p).mp fill))
  refine State.linked.leaveFill_all hF (fun none => ?_) (fun p hp => ?_) ?_
  · simp [h.supply.holds.mpr none] at holds
  · exact List.mem_singleton.mpr (only p hp)
  · refine h.front_step others sound ⟨rfl, rfl, rfl, rfl⟩ ?_ front braking
    exact ⟨fun p => by simp [empty p], by simp, h.supply.shiftWaits, by simp [noShift], h.supply.calWaits,
      by simp [noCal]⟩

/-- The demand to be engaged stands while braking is detected (R132, R133). -/
def State.engagedForBraking (s : State) : Prop := s.tre.braking = true → s.frd.engage = true

/-- With SPRING, FDP is not called LOCKED while braking is detected (R136, R139). -/
theorem State.engagedForBraking.brakingLaw (h : s.engagedForBraking)
    (called : calledLocked s.straps.fdkind s.frd.engage = true) {t : State} (hs : t.straps = s.straps)
    (ht : t.tre = s.tre) : t.brakingLaw := by
  rw [State.brakingLaw, hs, ht]
  intro spring braking
  simp [spring, h braking, calledLocked] at called

theorem State.linked.actOnFdp (hF : grantStable F) (h : s.linked due F) (engaged : s.engagedForBraking) {due' : Prop} :
    s.actOnFdp.linked due' F := by
  unfold State.actOnFdp
  split
  next phase called =>
    obtain ⟨fdp, waiting, holder⟩ := h.front.rest phase
    refine State.linked.requestSupply hF waiting holder ?_
    refine h.front_step (fun p _ => rfl) (h.packs .fdp) ⟨rfl, rfl, rfl, rfl⟩ ?_ ⟨fdp, rfl, holder⟩ fun _ =>
      engaged.brakingLaw called rfl rfl
    exact ⟨h.supply.fills, h.supply.holds, h.supply.shiftWaits, h.supply.shiftHolds, h.supply.calWaits,
      h.supply.calHolds⟩
  next phase called =>
    obtain ⟨fdp, waiting, holder⟩ := h.front.waiting phase
    refine h.front_step (fun p _ => rfl) (h.packs .fdp) ⟨rfl, rfl, rfl, rfl⟩ ?_ ⟨fdp, rfl, holder⟩ fun _ _ _ => rfl
    exact ⟨h.supply.fills, h.supply.holds, h.supply.shiftWaits, h.supply.shiftHolds, h.supply.calWaits,
      h.supply.calHolds⟩
  next phase called =>
    obtain ⟨fdp, waiting, holder⟩ := h.front.filling phase
    have released := PackRecord.release_state (p := s.packs.fdp) (by simp [fdp])
    exact h.front_freed hF holder (h.packs .fdp).release (by simp [released]) (phase := .rest)
      ⟨released, waiting, nofun⟩ fun _ _ _ => rfl
  next phase called =>
    obtain ⟨fdp, waiting, holder⟩ := h.front.holding phase
    have released := PackRecord.release_state (p := s.packs.fdp) (by simp [fdp])
    have stopped : State.linked due' F { s with frd := { s.frd with phase := .rest }
                                                packs := s.packs.update PackRecord.release .fdp } := by
      refine h.front_step (fun p hp => ?_) (h.packs .fdp).release ⟨rfl, rfl, rfl, rfl⟩ ?_ ⟨released, waiting, holder⟩
        fun _ _ _ => rfl
      · rw [PackFile.get_update, if_neg hp]
      · refine ⟨fun p => ?_, h.supply.holds, h.supply.shiftWaits, h.supply.shiftHolds, h.supply.calWaits,
          h.supply.calHolds⟩
        rw [← h.supply.fills, PackFile.get_update]
        split_ifs with hp
        · subst hp
          exact iff_of_false (released ▸ nofun) (fdp ▸ nofun)
        · rfl
    exact stopped.offer _ _
  next phase called => exact { h with braking := fun _ _ _ => phase }
  all_goals
    next called => exact { h with braking := fun _ => engaged.brakingLaw called rfl rfl }

end

end Sys2Proof.Machine

namespace Sys2Proof.Machine

/-! ### The demands keep the laws -/

section
variable {due due' : Prop} {F G : Engine → Prop} {s t : State}

theorem State.linked.evaluateFront (hF : grantStable F) (h : s.linked due F) : s.evaluateFront.linked due' F := by
  have evaluated : State.linked due F { s with frd := s.frd.evaluate s.causes } := h.of_driveline rfl h.engine
  refine evaluated.actOnFdp hF fun braking => ?_
  change s.tre.braking = true at braking
  simp [FrontDrive.evaluate, Causes.brakingCause, State.causes, braking]

theorem State.linked.computeDemand (hF : grantStable F) (h : s.linked due F) : s.computeDemand.linked due F :=
  State.computeDemand_rule (P := State.linked due F) (h.of_driveline rfl h.engine) fun h => h.evaluateFront hF

/-- The count of the free choices is no part of the driveline. -/
theorem State.linked.draw (h : s.linked due F) (k : Nat) : State.linked due F { s with draws := k } :=
  h.of_driveline rfl h.engine

theorem State.linked.demandAndFront (hF : grantStable F) (h : s.linked due F) : s.demandAndFront.linked due' F :=
  eitherOrder_rule (P := State.linked due' F) ((h.computeDemand hF).evaluateFront hF)
    ((h.evaluateFront hF).computeDemand hF) fun _ k h => h.draw k

theorem State.linked.setDownshift (hF : grantStable F) {b : Bool}
    (h : State.linked due F { s with she := { s.she with downshift := b } }) : (s.setDownshift b).linked due F := by
  unfold State.setDownshift
  split
  next same => rwa [← same] at h
  · exact h.computeDemand hF

theorem State.linked.handOver (hF : grantStable F) (h : s.linked due F) (old : Coupling) :
    (s.handOver old).linked due F := by
  have formed : (if s.cpt.mtow = old.mtow then s else s.formLoadIndex).linked due F := by
    split
    · exact h
    · exact h.of_driveline rfl h.engine
  unfold State.handOver
  revert formed
  generalize (if s.cpt.mtow = old.mtow then s else s.formLoadIndex) = u
  intro formed
  simp only
  split_ifs
  · exact formed.demandAndFront hF
  · exact formed.computeDemand hF
  · exact formed

theorem State.linked.commit (hF : grantStable F) (h : s.linked due F) (c : Coupling) (reports : List CplReport) :
    (s.commit c reports).linked due F := by
  rw [State.commit_eq]
  obtain ⟨n, tabled, -⟩ := s.tabled_eq c reports
  have changed : (s.tabled c reports).linked due F := by
    rw [tabled]
    exact h.of_driveline rfl h.engine
  exact changed.handOver hF _

end

end Sys2Proof.Machine

namespace Sys2Proof.Machine

/-! ## The engine at rest, and a shift begun -/

/-- The engine states with no shift in flight and no calibration (R81). -/
def EngineState.atRest (e : EngineState) : Prop := e = .settled ∨ e = .interval

theorem EngineState.atRest.not_inFlight {e : EngineState} (h : e.atRest) : e.inFlight = false := by
  rcases h with rfl | rfl <;> rfl

theorem EngineState.atRest.ne {e : EngineState} (h : e.atRest) :
    e ≠ .supplyWait ∧ e ≠ .fill ∧ e ≠ .handover ∧ e ≠ .confirm ∧ e ≠ .calHold := by
  rcases h with rfl | rfl <;> decide

/-- At rest no signal is raised, and with none raised the engine at rest is as the signal law has it. -/
theorem Engine.flagged_iff_of_rest {e : Engine} (h : e.state.atRest) :
    e.flagged ↔ e.latchSignal = false ∧ e.downshift = false := by
  obtain ⟨-, fill, handover, confirm, -⟩ := h.ne
  simp [Engine.flagged, fill, handover, confirm]

section
variable {due due' : Prop} {F G : Engine → Prop} {s t : State}

/-- A target is neutral or a defined ratio. -/
def State.targets (s : State) (nr : Nat) : Prop := nr ≠ 0 → (s.rmp.entry nr).isSome = true

theorem State.linked.targets_present (h : s.linked due F) : s.targets s.she.pr := fun hp => by
  obtain ⟨e, he, -⟩ := h.present hp
  rw [he]
  rfl

/-- An engine at rest given another target, or moved to another state at rest. -/
theorem State.linked.settle (h : s.linked due Engine.flagged) (rest : s.she.state.atRest) {e : Engine}
    (he : e.state.atRest) (target : s.targets e.nr)
    (same : e.pr = s.she.pr ∧ e.record = s.she.record ∧ e.latchSignal = s.she.latchSignal ∧
      e.downshift = s.she.downshift) :
    State.linked due Engine.flagged { s with she := e } := by
  obtain ⟨pr, record, signal, downshift⟩ := same
  have noRecord := h.no_record rest.not_inFlight
  have noJob := h.no_job rest.ne.2.2.2.2
  constructor
  case ratio => exact h.ratio
  case present => 
    change e.pr ≠ 0 → _
    rw [pr]
    exact h.present
  case inFlight =>
    change e.record.isSome = e.state.inFlight
    rw [record, noRecord, he.not_inFlight]
    rfl
  case target => exact target
  case route =>
    intro r hr
    change e.record = some r at hr
    rw [record, noRecord] at hr
    cases hr
  case cal => exact State.calLaw_of_none noJob he.ne.2.2.2.2
  case gear =>
    refine State.gearLaw_of_rest noJob (record.trans noRecord) fun id hid => ?_
    exact (h.gear.rest noJob noRecord hid).congr (congrArg s.packsOf pr) rfl
  case supply =>
    obtain ⟨fills, holds, shiftWaits, shiftHolds, calWaits, calHolds⟩ := h.supply
    exact ⟨fills, holds, by simpa [he.ne, rest.ne] using shiftWaits, by simpa [he.ne, rest.ne] using shiftHolds,
      calWaits, calHolds⟩
  case front => exact h.front
  case latch => exact h.latch.trans signal.symm
  case braking => exact h.braking
  case packs => exact h.packs
  case unit => exact h.unit
  case engine =>
    obtain ⟨latched, shifting⟩ := (Engine.flagged_iff_of_rest rest).mp h.engine
    exact (Engine.flagged_iff_of_rest he).mpr ⟨signal.trans latched, downshift.trans shifting⟩

/-! ### Neutral -/

/-- The arbiter with nobody but FRONT. -/
def Supply.frontOnly (f : Supply) : Supply :=
  { f with
    holder := if f.holder = some .front then some .front else none
    fillList := if f.holder = some .front then f.fillList else []
    waiting := ⟨false, f.waiting.front, false⟩ }

theorem Supply.frontOnly_eq {f : Supply} (shift : f.waiting.shift = false ∧ f.holder ≠ some .shift)
    (cal : f.waiting.cal = false ∧ f.holder ≠ some .cal) (holds : f.holder = none → f.fillList = []) :
    f.frontOnly = f := by
  obtain ⟨charge, pcMin, holder, fillList, ⟨waitShift, waitFront, waitCal⟩⟩ := f
  cases holder with
  | none => simp_all [Supply.frontOnly]
  | some r => cases r <;> simp_all [Supply.frontOnly]

theorem Supply.frontOnly_of_holder {f : Supply} (shift : f.waiting.shift = false) (cal : f.waiting.cal = false)
    (holds : f.holder ≠ some .front) : f.frontOnly = { f with holder := none, fillList := [] } := by
  obtain ⟨charge, pcMin, holder, fillList, ⟨waitShift, waitFront, waitCal⟩⟩ := f
  simp_all [Supply.frontOnly]

/-- With no shift and no calibration at it, the arbiter has nobody but FRONT. -/
theorem State.linked.frontOnly (h : s.linked due F) (shift : s.she.state ≠ .supplyWait ∧ s.she.state ≠ .fill)
    (cal : ¬ s.cau.inPhase .waiting ∧ ¬ s.cau.inPhase .filling) : s.fsa.frontOnly = s.fsa := by
  obtain ⟨fills, holds, shiftWaits, shiftHolds, calWaits, calHolds⟩ := h.supply
  rw [Ne, shiftWaits, Bool.not_eq_true, Ne, shiftHolds] at shift
  rw [calWaits, Bool.not_eq_true, calHolds] at cal
  exact Supply.frontOnly_eq shift cal holds.mp

/-- In neutral, with the packs of the gearbox at rest and nobody but FRONT at the arbiter, the laws hold. -/
theorem State.linked.neutral (h : s.linked due F)
    (engine : t.she.pr = 0 ∧ t.she.state.atRest ∧ t.she.record = none) (job : t.cau.job = none)
    (target : t.targets t.she.nr) (ratio : t.ratioLaw) (gear : ∀ id ∈ gearboxPacks, (t.packs.get id).resting)
    (sound : ∀ p, (t.packs.get p).sound) (fdp : t.packs.fdp = s.packs.fdp) (fsa : t.fsa = s.fsa.frontOnly)
    (same : t.straps = s.straps ∧ t.tre.braking = s.tre.braking ∧ t.frd.phase = s.frd.phase)
    (latch : t.htc.latch.isSome = t.she.latchSignal)
    (unit : t.cau.stepCount ≤ 60 ∧ 50 ≤ t.cau.interval ∧ t.cau.interval ≤ 500) (hG : G t.she) : t.linked due G := by
  obtain ⟨pr, rest, record⟩ := engine
  obtain ⟨straps, braking, phase⟩ := same
  have holder : t.fsa.holder = some .front ↔ s.fsa.holder = some .front := by
    rw [fsa]
    simp [Supply.frontOnly]
  constructor
  case ratio => exact ratio
  case present => exact fun hp => absurd pr hp
  case inFlight => rw [record, rest.not_inFlight]; rfl
  case target => exact target
  case route => rw [record]; nofun
  case cal => exact State.calLaw_of_none job rest.ne.2.2.2.2
  case gear =>
    refine State.gearLaw_of_rest job record fun id hid => ?_
    have none : t.packsOf t.she.pr = [] := by rw [pr, State.packsOf, ratio.neutral]
    simpa [State.restPlaces, none] using gear id hid
  case supply =>
    obtain ⟨shift, fill, -, -, -⟩ := rest.ne
    refine ⟨fun p => ?_, ?_, by simp [fsa, Supply.frontOnly, shift], ?_, by simp [fsa, Supply.frontOnly, job],
      ?_⟩
    · by_cases hp : p = .fdp
      · subst hp
        change t.packs.fdp.state = .fill ↔ _
        rw [fdp, h.front.fdp_fill, fsa, Supply.frontOnly]
        have := (h.supply.fills .fdp).symm.trans h.front.fdp_fill
        split_ifs with holds <;> simp [holds, this]
      · refine iff_of_false (gear p (mem_gearboxPacks.mpr hp)).ne_fill ?_
        rw [fsa, Supply.frontOnly]
        split_ifs with holds
        · exact fun hm => hp (h.front_fills holds p hm)
        · simp
    · rw [fsa, Supply.frontOnly]
      split_ifs with holds
      · simpa [holds] using h.supply.holds
      · simp
    · simp only [fill, false_iff, fsa, Supply.frontOnly]
      split_ifs <;> simp
    · simp only [CalUnit.inPhase_of_none job, false_iff, fsa, Supply.frontOnly]
      split_ifs <;> simp
  case front => exact h.front.congr phase (by rw [fdp]) (by rw [fsa]; rfl) holder
  case latch => exact latch
  case braking =>
    unfold State.brakingLaw
    rw [straps, braking, phase]
    exact h.braking
  case packs => exact sound
  case unit => exact unit
  case engine => exact hG

/-- At rest no unit but FRONT is at the arbiter. -/
theorem State.linked.frontOnly_of_rest (h : s.linked due F) (rest : s.she.state.atRest) : s.fsa = s.fsa.frontOnly := by
  obtain ⟨wait, fill, -, -, hold⟩ := rest.ne
  have job := h.no_job hold
  exact (h.frontOnly ⟨wait, fill⟩ ⟨by simp [job], by simp [job]⟩).symm

theorem PackFile.fdp_order {g : PackRecord → PackRecord} (hg : ∀ p, g (g p) = g p) {f : PackFile} {ps : List PackId}
    (h : ∀ p ∈ ps, p ∈ gearboxPacks) : (f.order ps g).fdp = f.fdp :=
  PackFile.get_order_not_mem (q := .fdp) hg fun hp => fdp_not_gearbox (h _ hp)

theorem State.linked.neutralShift (h : s.linked due Engine.flagged) (rest : s.she.state.atRest) :
    s.neutralShift.linked due Engine.flagged := by
  have noRecord := h.no_record rest.not_inFlight
  have noJob := h.no_job rest.ne.2.2.2.2
  refine h.neutral ⟨rfl, .inr rfl, noRecord⟩ noJob h.target ?_ (fun id hid => ?_) ?_ ?_ (h.frontOnly_of_rest rest)
    ⟨rfl, rfl, rfl⟩ h.latch h.unit ?_
  · exact h.ratio.congr rfl (PackFile.fault_order PackRecord.release_isOrder _ _)
  · have places := h.gear.rest noJob noRecord hid
    change ((s.packs.order (s.packsOf s.she.pr) PackRecord.release).get id).resting
    rw [PackFile.get_order PackRecord.release_isOrder.again]
    split
    · exact PackRecord.release_resting _
    next other => simpa [State.restPlaces, other] using places
  · exact PackFile.sound_order h.packs PackRecord.release_isOrder.again (fun _ hp => hp.release) _
  · exact PackFile.fdp_order PackRecord.release_isOrder.again fun p hp => State.packsOf_gearbox hp
  · exact (Engine.flagged_iff_of_rest (.inr rfl)).mpr ((Engine.flagged_iff_of_rest rest).mp h.engine)

/-- A step decision that finds no destination keeps the laws: the target becomes PR (R95). -/
theorem State.linked.blocked (h : s.linked due Engine.flagged) (rest : s.she.state.atRest) :
    s.blocked.linked due Engine.flagged := by
  refine State.linked.offer ?_ _ _
  exact h.settle rest (.inl rfl) h.targets_present ⟨rfl, rfl, rfl, rfl⟩

/-! ### A shift begun -/

/-- A ratio a step decision may choose: a usable entry other than PR. -/
structure State.eligible (s : State) (dest : RatioEntry) : Prop where
  mem : dest ∈ s.rmp.entries
  usable : dest.usable = true
  ne : dest.index ≠ s.she.pr

theorem State.eligible.engageable {dest : RatioEntry} (h : s.eligible dest) (hr : s.ratioLaw) :
    s.engageable dest.index := by
  refine ⟨dest, hr.entry_of_mem h.mem, ?_⟩
  obtain ⟨-, -, -, -, usable⟩ := hr
  exact ((usable dest h.mem).mp h.usable).2

theorem State.linked.beginShift (h : s.linked due Engine.flagged) (rest : s.she.state.atRest) {dest : RatioEntry}
    (hd : s.eligible dest) (kind : ShiftKind) : (s.beginShift dest kind).linked due Engine.flagged := by
  obtain ⟨wait, fill, -, -, hold⟩ := rest.ne
  have noRecord := h.no_record rest.not_inFlight
  have noJob := h.no_job hold
  have engage := hd.engageable h.ratio
  have packs : s.packsOf dest.index = dest.packs := State.packsOf_of_entry (h.ratio.entry_of_mem hd.mem)
  have route : s.routed (s.formRecord dest kind) :=
    ⟨rfl, hd.ne, by simp only [State.formRecord, packs], by simp only [State.formRecord, packs],
      by simp only [State.formRecord, packs], engage⟩
  have waits : s.fsa.waiting.has .shift = false := by
    simpa [Waiting.has] using mt h.supply.shiftWaits.mpr wait
  refine State.linked.requestSupply Engine.flagged_grantStable waits (mt h.supply.shiftHolds.mpr fill) ?_
  constructor
  case ratio => exact h.ratio
  case present => exact h.present
  case inFlight => rfl
  case target => exact h.target
  case route =>
    rintro _ ⟨⟩
    exact route.congr ⟨rfl, rfl, rfl, rfl, rfl⟩ rfl rfl rfl id
  case cal => exact State.calLaw_of_none noJob nofun
  case gear =>
    refine State.gearLaw_of_shift noJob rfl fun id hid => (State.shiftPlaces_supplyWait rfl).mpr ?_
    have places := h.gear.rest noJob noRecord hid
    by_cases present : id ∈ s.packsOf s.she.pr
    · exact (if_pos present).mpr ((if_pos present).mp places)
    · refine (if_neg present).mpr ?_
      have resting := (if_neg present).mp places
      split
      next coming => exact resting.resolve_right (engage.no_fault (route.mem_onComing.mp coming).1)
      · exact resting
  case supply =>
    obtain ⟨fills, holds, shiftWaits, shiftHolds, calWaits, calHolds⟩ := h.supply
    exact ⟨fills, holds, by simp [State.waitSupply, Waiting.put], iff_of_false nofun (mt shiftHolds.mpr fill),
      calWaits, calHolds⟩
  case front => exact h.front
  case latch => exact h.latch
  case braking => exact h.braking
  case packs => exact h.packs
  case unit => exact h.unit
  case engine =>
    obtain ⟨latched, shifting⟩ := (Engine.flagged_iff_of_rest rest).mp h.engine
    exact ⟨by simp [State.waitSupply, latched], by simp [State.waitSupply, shifting]⟩

theorem State.linked.shiftTo (h : s.linked due Engine.flagged) (rest : s.she.state.atRest) {dest : Option RatioEntry}
    (hd : ∀ e, dest = some e → s.eligible e) (kind : RatioEntry → ShiftKind) :
    (s.shiftTo dest kind).linked due Engine.flagged := by
  cases dest with
  | none => exact h.blocked rest
  | some e => exact h.beginShift rest (hd e rfl) _

/-! ### Where a step decision leads -/

theorem RatioMap.mem_ofDirection {m : RatioMap} {d : Direction} {e : RatioEntry} :
    e ∈ m.ofDirection d ↔ e ∈ m.entries ∧ e.direction = d := by
  simp [RatioMap.ofDirection]

theorem RatioMap.mem_candidates {m : RatioMap} {d : Direction} {nr : Nat} {e : RatioEntry}
    (h : e ∈ m.candidates d nr) : e ∈ m.entries ∧ e.usable = true := by
  obtain ⟨mem, usable⟩ := List.mem_filter.mp h
  exact ⟨(RatioMap.mem_ofDirection.mp mem).1, (Bool.and_eq_true_iff.mp usable).1⟩

theorem RatioMap.startOff_mem {m : RatioMap} {d : Direction} {nr rstart : Nat} {e : RatioEntry}
    (h : m.startOff d nr rstart = some e) : e ∈ m.candidates d nr :=
  (List.mem_filter.mp (List.mem_of_getLast? h)).1

theorem nearerEntry_fold_mem {ne kw vg : Nat} {l : List RatioEntry} {best : Option RatioEntry} {e : RatioEntry}
    (h : l.foldl (nearerEntry ne kw vg) best = some e) : best = some e ∨ e ∈ l := by
  induction l generalizing best with
  | nil => exact .inl h
  | cons x rest ih =>
    rcases ih h with first | later
    · unfold nearerEntry at first
      split at first
      · exact .inr (by simp_all)
      · split at first
        · exact .inr (by simp_all)
        · exact .inl first
    · exact .inr (List.mem_cons_of_mem _ later)

theorem RatioMap.rolling_mem {m : RatioMap} {d : Direction} {nr ne kw vg : Nat} {e : RatioEntry}
    (h : m.rolling d nr ne kw vg = some e) : e ∈ m.candidates d nr :=
  (nearerEntry_fold_mem h).resolve_left nofun

/-- A span step leads to a usable entry that is not PR. -/
theorem RatioMap.spanStep_spec {m : RatioMap} {d : Direction} {pr nr span : Nat} {e : RatioEntry}
    (h : m.spanStep d pr nr span = some e) : e ∈ m.entries ∧ e.usable = true ∧ e.index ≠ pr := by
  obtain ⟨mem, usable⟩ := List.mem_filter.mp (List.mem_of_getLast? h)
  refine ⟨?_, usable, ?_⟩
  all_goals
    unfold RatioMap.window at mem
    split at mem
  · exact (RatioMap.mem_ofDirection.mp (List.mem_filter.mp (List.mem_of_mem_take mem)).1).1
  · exact (RatioMap.mem_ofDirection.mp (List.mem_filter.mp (List.mem_reverse.mp (List.mem_of_mem_take mem))).1).1
  · have := (List.mem_filter.mp (List.mem_of_mem_take mem)).2
    simp at this
    omega
  · have := (List.mem_filter.mp (List.mem_reverse.mp (List.mem_of_mem_take mem))).2
    simp at this
    omega

/-- From neutral any usable entry may be chosen. -/
theorem State.ratioLaw.eligible_of_neutral (h : s.ratioLaw) (hp : s.she.pr = 0) {e : RatioEntry}
    (he : e ∈ s.rmp.entries ∧ e.usable = true) : s.eligible e := by
  obtain ⟨-, ranges, -⟩ := h
  obtain ⟨low, -⟩ := ranges e he.1
  exact ⟨he.1, he.2, by omega⟩

/-- The step decision keeps the laws: where it begins a shift, it is into a usable ratio other than PR (R89). -/
theorem State.linked.stepDecision (h : s.linked due Engine.flagged) (rest : s.she.state.atRest) :
    s.stepDecision.linked due Engine.flagged := by
  unfold State.stepDecision
  split
  · exact h.neutralShift rest
  split
  · exact h.blocked rest
  next target ht =>
    obtain ⟨targetMem, targetIndex⟩ := RatioMap.entry_mem ht
    split
    next neutral =>
      split
      · exact h.shiftTo rest (fun e he => h.ratio.eligible_of_neutral neutral
          (RatioMap.mem_candidates (RatioMap.startOff_mem he))) _
      · exact h.shiftTo rest (fun e he => h.ratio.eligible_of_neutral neutral
          (RatioMap.mem_candidates (RatioMap.rolling_mem he))) _
    next =>
      split
      · exact h.blocked rest
      next present hp =>
        split
        · refine h.shiftTo rest (fun e he => ?_) _
          obtain ⟨mem, usable, ne⟩ := RatioMap.spanStep_spec he
          exact ⟨mem, usable, ne⟩
        next turn =>
          refine h.shiftTo rest (fun e he => ?_) _
          obtain ⟨usable, rfl⟩ : target.usable = true ∧ target = e := by simpa using he
          refine ⟨targetMem, usable, fun same => turn ?_⟩
          rw [← targetIndex.symm.trans same, ht] at hp
          rw [Option.some.inj hp]

end

end Sys2Proof.Machine

namespace Sys2Proof.Machine

/-! ### A target accepted, and the engine's requests -/

section
variable {due due' : Prop} {F G : Engine → Prop} {s t : State}

/-- The target is the engine's own: outside a calibration another defined one keeps the laws. -/
theorem State.linked.retarget (h : s.linked due F) (hold : s.she.state ≠ .calHold) {e : Engine} (target : s.targets e.nr)
    (same : e.pr = s.she.pr ∧ e.state = s.she.state ∧ e.record = s.she.record ∧ e.latchSignal = s.she.latchSignal)
    (hG : G e) : State.linked due G { s with she := e } := by
  obtain ⟨pr, state, record, signal⟩ := same
  have noJob := h.no_job hold
  constructor
  case ratio => exact h.ratio
  case present => exact fun hp => (pr ▸ h.present) hp
  case inFlight => exact (congrArg Option.isSome record).trans (h.inFlight.trans (congrArg _ state.symm))
  case target => exact target
  case route =>
    intro r hr
    exact (h.route r (record.symm.trans hr)).congr ⟨rfl, rfl, rfl, rfl, rfl⟩ pr rfl rfl id
  case cal => exact State.calLaw_of_none noJob (state ▸ hold)
  case gear =>
    intro id hid
    obtain ⟨cal, shift, rest⟩ := h.gear id hid
    refine ⟨cal, fun r hr => ?_, fun hj hr => ?_⟩
    · exact (shift r (record.symm.trans hr)).congr ⟨rfl, rfl, rfl, rfl, rfl⟩ state rfl rfl rfl
    · exact State.restPlaces.congr (rest hj (record.symm.trans hr)) (congrArg s.packsOf pr) rfl
  case supply =>
    obtain ⟨fills, holds, shiftWaits, shiftHolds, calWaits, calHolds⟩ := h.supply
    exact ⟨fills, holds, state ▸ shiftWaits, state ▸ shiftHolds, calWaits, calHolds⟩
  case front => exact h.front
  case latch => exact h.latch.trans signal.symm
  case braking => exact h.braking
  case packs => exact h.packs
  case unit => exact h.unit
  case engine => exact hG

theorem State.linked.acceptTarget (h : s.linked due Engine.flagged) (hold : s.she.state ≠ .calHold) {nr : Nat}
    (target : s.targets nr) : (s.acceptTarget nr).linked due Engine.flagged := by
  have set : State.linked due Engine.flagged { s with she := { s.she with nr := nr, halt := false } } :=
    h.retarget hold target ⟨rfl, rfl, rfl, rfl⟩ h.engine
  unfold State.acceptTarget
  simp only
  split
  next settled =>
    simp only [Bool.and_eq_true, decide_eq_true_eq] at settled
    exact set.stepDecision (.inl settled.1.1)
  · exact set

theorem State.linked.shiftHoldCleared (h : s.linked due Engine.flagged) :
    s.shiftHoldCleared.linked due Engine.flagged := by
  unfold State.shiftHoldCleared
  split
  next settled =>
    simp only [Bool.and_eq_true, decide_eq_true_eq] at settled
    exact h.stepDecision (.inl settled.1)
  · exact h

theorem State.linked.intervalExpiry (h : s.linked due Engine.flagged) : s.intervalExpiry.linked due Engine.flagged := by
  unfold State.intervalExpiry
  split
  · exact h
  · split
    next interval =>
      have settled : State.linked due Engine.flagged { s with she := { s.she with state := .settled, timer := none } } :=
        h.settle (.inr interval) (.inl rfl) h.target ⟨rfl, rfl, rfl, rfl⟩
      unfold State.intervalExpired
      split_ifs
      · exact settled.offer _ _
      · exact settled
      · exact h.stepDecision (.inr interval)
    · exact h

theorem State.linked.chargeAtShift (h : s.linked due Engine.flagged) : s.chargeAtShift.linked due Engine.flagged := by
  unfold State.chargeAtShift
  split
  · exact h.flag_of_driveline rfl
  · exact h

/-! The requests. -/

theorem EngineState.atRest_of {e : EngineState} (hold : e ≠ .calHold) (flying : e.inFlight = false) : e.atRest := by
  cases e with
  | settled => exact .inl rfl
  | interval => exact .inr rfl
  | calHold => exact absurd rfl hold
  | supplyWait | fill | handover | confirm => simp [inFlight] at flying

/-- A request keeps the laws. -/
abbrev Answer.keepsDriven (s : State) (a : Answer) : Prop := a.relates (fun s t => s.driven → t.driven) s

theorem State.targets_of_selectCheck {i : Nat} (h : s.selectCheck i = none) : s.she.state ≠ .calHold ∧ s.targets i := by
  unfold State.selectCheck at h
  split_ifs at h with range hold
  refine ⟨hold, fun hi => ?_⟩
  simp only [Bool.and_eq_true, Bool.or_eq_true, decide_eq_true_eq, not_and, not_or] at range
  exact Option.ne_none_iff_isSome.mp (by simpa using (range hi).2)

theorem actSelect_keepsDriven (index : Byte) (s : State) : (actSelect index s).keepsDriven s := by
  unfold actSelect
  split
  · trivial
  next check =>
    obtain ⟨hold, target⟩ := State.targets_of_selectCheck check
    exact fun h => h.acceptTarget hold target

theorem placeFrom_mem (start : Nat) (l : List Nat) (n : Nat) :
    placeFrom start l n = start ∨ placeFrom start l n ∈ l := by
  induction l generalizing start n with
  | nil => exact .inl (by rw [placeFrom])
  | cons x rest ih =>
    cases n with
    | zero => exact .inr List.mem_cons_self
    | succ n =>
      refine .inr ?_
      rcases ih x n with h | h
      · rw [placeFrom, h]
        exact List.mem_cons_self
      · exact List.mem_cons_of_mem _ h

/-- A STEP leads to a defined entry, to PR or to neutral (R86). -/
theorem State.targets_stepTarget (hp : s.targets s.she.pr) (n : Int) : s.targets (s.stepTarget n) := by
  have defined (i : Nat) (hi : i ∈ (s.rmp.ofDirection s.stepDirection).map fun e => e.index) : s.targets i := fun _ => by
    obtain ⟨e, he, rfl⟩ := List.mem_map.mp hi
    exact RatioMap.entry_isSome.mpr ⟨e, (RatioMap.mem_ofDirection.mp he).1, rfl⟩
  have place (start : Nat) (hs : s.targets start) (l : List Nat)
      (hl : ∀ i ∈ l, i ∈ (s.rmp.ofDirection s.stepDirection).map fun e => e.index) (k : Nat) :
      s.targets (placeFrom start l k) := by
    rcases placeFrom_mem start l k with h | h
    · rw [h]
      exact hs
    · exact defined _ (hl _ h)
  have neutral : s.targets 0 := fun h => absurd rfl h
  unfold State.stepTarget
  simp only
  split_ifs
  · exact place _ neutral _ (fun _ h => h) _
  · exact neutral
  · exact place _ hp _ (fun _ h => List.mem_of_mem_filter h) _
  · exact place _ hp _ (fun _ h => List.mem_of_mem_filter (List.mem_reverse.mp h)) _

theorem actStep_keepsDriven (count : Byte) (s : State) : (actStep count s).keepsDriven s := by
  unfold actStep
  split
  · trivial
  next check =>
    refine fun h => h.acceptTarget ?_ (State.targets_stepTarget h.targets_present _)
    unfold State.stepCheck at check
    split_ifs at check
    assumption

theorem actHalt_keepsDriven (s : State) : (actHalt s).keepsDriven s := by
  unfold actHalt
  split
  · trivial
  next hold =>
    split
    · exact fun h => h.flag_of_driveline rfl
    next flying =>
      intro h
      have rest := EngineState.atRest_of hold (Bool.eq_false_iff.mpr flying)
      refine State.linked.offer ?_ _ _
      exact h.settle rest (.inl rfl) h.targets_present ⟨rfl, rfl, rfl, rfl⟩

end

end Sys2Proof.Machine

namespace Sys2Proof.Machine

/-! ## The phases of a shift -/

section
variable {due due' : Prop} {F G : Engine → Prop} {s t : State}

/-- The downshift flag is read by the signal law alone. -/
theorem State.linked.withDownshift (h : s.linked due F) {b : Bool} (hG : G { s.she with downshift := b }) :
    State.linked due G { s with she := { s.she with downshift := b } } :=
  ⟨h.ratio, h.present, h.inFlight, h.target, fun r hr => (h.route r hr).congr ⟨rfl, rfl, rfl, rfl, rfl⟩ rfl rfl rfl id,
    h.cal, h.gear, h.supply.stand rfl rfl rfl rfl, h.front, h.latch, h.braking, h.packs, h.unit, hG⟩

/-- The draft latch dropped: what is said of the engine is then said of one whose signal is low. -/
theorem State.linked.dropLatch (h : s.linked due F) (hG : G { s.she with latchSignal := false }) :
    s.dropLatch.linked due G := by
  unfold State.dropLatch
  split
  · exact ⟨h.ratio, h.present, h.inFlight, h.target,
      fun r hr => (h.route r hr).congr ⟨rfl, rfl, rfl, rfl, rfl⟩ rfl rfl rfl id,
      h.cal, h.gear, h.supply.stand rfl rfl rfl rfl, h.front, rfl, h.braking, h.packs, h.unit, hG⟩
  next low =>
    refine h.weaken id fun _ => ?_
    rwa [← Bool.eq_false_iff.mpr low] at hG

/-- While the shift fills, what fills are its on-coming packs. -/
theorem State.linked.shift_fills (h : s.linked due F) {r : ShiftRecord} (hr : s.she.record = some r)
    (he : s.she.state = .fill) {p : PackId} (hp : p ∈ s.fsa.fillList) : p ∈ r.onComing := by
  have fill := (h.supply.fills p).mpr hp
  have holds := h.supply.shiftHolds.mp he
  have gear := h.fillList_gearbox (by simp [holds]) hp
  by_contra other
  have places := (State.shiftPlaces_fill he).mp (h.gear.shift hr gear)
  rw [if_neg other] at places
  split_ifs at places
  · simp [fill] at places
  · exact places.ne_fill fill

/-- The packs as HANDOVER starts: the on-coming ones rise, the off-going ones fall (R100). -/
def PackFile.handover (f : PackFile) (r : ShiftRecord) (t : Nat) : PackFile :=
  (f.order r.onComing (PackRecord.toRising t)).order r.offGoing (PackRecord.toFalling (fallTime r.kind t))

theorem PackFile.get_handover (f : PackFile) (r : ShiftRecord) (t : Nat) (p : PackId) :
    (f.handover r t).get p =
      let q := if p ∈ r.onComing then (f.get p).toRising t else f.get p
      if p ∈ r.offGoing then q.toFalling (fallTime r.kind t) else q := by
  rw [PackFile.handover, PackFile.get_order (PackRecord.toFalling_isOrder _).again,
    PackFile.get_order (PackRecord.toRising_isOrder _).again]

theorem PackFile.fault_handover (f : PackFile) (r : ShiftRecord) (t : Nat) (p : PackId) :
    ((f.handover r t).get p).state = .fault ↔ (f.get p).state = .fault :=
  (PackFile.fault_order (PackRecord.toFalling_isOrder _) _ _ _).trans
    (PackFile.fault_order (PackRecord.toRising_isOrder _) _ _ _)

/-- HANDOVER has the packs where it wants them when FILL had (R99, R101). -/
theorem State.linked.handover_places (h : s.linked due F) {r : ShiftRecord} (hr : s.she.record = some r)
    (he : s.she.state = .fill) (time : Nat) {id : PackId} (hid : id ∈ gearboxPacks) :
    let p := (s.packs.handover r time).get id
    if id ∈ r.onComing then ∃ d t, p.state = .rising d t
    else if id ∈ r.offGoing then ∃ c d t, p.state = .falling c d t
    else if id ∈ r.common then p.state = .locked else p.resting := by
  have route := h.route r hr
  have places := (State.shiftPlaces_fill he).mp (h.gear.shift hr hid)
  simp only
  rw [PackFile.get_handover]
  by_cases coming : id ∈ r.onComing
  · have other : id ∉ r.offGoing := fun hm => (route.mem_onComing.mp coming).2 (route.mem_offGoing.mp hm).1
    rw [if_pos coming] at places
    rw [if_pos coming, if_neg other, if_pos coming, PackRecord.toRising_of_fill places]
    exact ⟨time, 0, rfl⟩
  rw [if_neg coming] at places ⊢
  rw [if_neg coming]
  by_cases going : id ∈ r.offGoing
  · rw [if_pos (route.mem_offGoing.mp going).1] at places
    rw [if_pos going, if_pos going, PackRecord.toFalling_of_locked places]
    exact ⟨_, _, 0, rfl⟩
  rw [if_neg going, if_neg going]
  by_cases common : id ∈ r.common
  · rw [if_pos (route.mem_common.mp common).2] at places
    rwa [if_pos common]
  · have out : id ∉ s.packsOf r.origin := fun hm => by
      by_cases hd : id ∈ s.packsOf r.dest
      · exact common (route.mem_common.mpr ⟨hd, hm⟩)
      · exact going (route.mem_offGoing.mpr ⟨hm, hd⟩)
    rw [if_neg out] at places
    rwa [if_neg common]

/-- The engine as HANDOVER starts (R100). -/
def Engine.handover (e : Engine) (r : ShiftRecord) (load time : Nat) : Engine :=
  { e with state := .handover, timer := some time
           record := some { r with loadIndex := load, handover := time, sinceHandover := 0 } }

/-- HANDOVER with the supply free: every law but that of the downshift flag. -/
theorem State.linked.handover (h : s.linked due F) {r : ShiftRecord} (hr : s.she.record = some r)
    (he : s.she.state = .fill) (load time : Nat) :
    State.linked due (· = s.she.handover r load time)
      { s with packs := s.packs.handover r time, she := s.she.handover r load time
               fsa := { s.fsa with holder := none, fillList := [] } } := by
  have route := h.route r hr
  have noJob := h.no_job_of_flying (by rw [he]; rfl)
  have holds := h.supply.shiftHolds.mp he
  have fault := PackFile.fault_handover s.packs r time
  have fdp : (s.packs.handover r time).fdp = s.packs.fdp := by
    refine (PackFile.fdp_order (PackRecord.toFalling_isOrder _).again fun p hp => route.offGoing_gearbox hp).trans ?_
    exact PackFile.fdp_order (PackRecord.toRising_isOrder _).again fun p hp => route.onComing_gearbox hp
  have noFill (p : PackId) : ((s.packs.handover r time).get p).state ≠ .fill := by
    by_cases hp : p = .fdp
    · subst hp
      change (s.packs.handover r time).fdp.state ≠ .fill
      rw [fdp, Ne, h.front.fdp_fill, holds]
      nofun
    · have places := h.handover_places hr he time (mem_gearboxPacks.mpr hp)
      simp only at places
      intro fill
      rw [PackRecord.resting, fill] at places
      split_ifs at places <;> simp at places
  have engage {i : Nat} (hi : s.engageable i) : State.engageable { s with packs := s.packs.handover r time } i :=
    hi.congr rfl fun p => (fault p).mp
  constructor
  case ratio => exact h.ratio.congr rfl fault
  case present => exact fun hp => engage (h.present hp)
  case inFlight => rfl
  case target => exact h.target
  case route =>
    rintro _ ⟨⟩
    exact route.congr ⟨rfl, rfl, rfl, rfl, rfl⟩ rfl rfl rfl engage
  case cal => exact State.calLaw_of_none noJob nofun
  case gear =>
    exact State.gearLaw_of_shift noJob rfl fun id hid =>
      (State.shiftPlaces_handover rfl).mpr (h.handover_places hr he time hid)
  case supply =>
    obtain ⟨fills, -, shiftWaits, shiftHolds, calWaits, calHolds⟩ := h.supply
    refine ⟨fun p => iff_of_false (noFill p) List.not_mem_nil, iff_of_true rfl rfl, ?_, iff_of_false nofun nofun,
      calWaits, iff_of_false (by simp [noJob]) nofun⟩
    exact iff_of_false nofun (mt shiftWaits.mpr (by rw [he]; nofun))
  case front => exact h.front.congr rfl (by rw [fdp]) rfl (iff_of_false nofun (by rw [holds]; nofun))
  case latch => exact h.latch
  case braking => exact h.braking
  case packs =>
    exact PackFile.sound_order
      (PackFile.sound_order h.packs (PackRecord.toRising_isOrder _).again (fun _ hp => hp.toRising _) _)
      (PackRecord.toFalling_isOrder _).again (fun _ hp => hp.toFalling _) _
  case unit => exact h.unit
  case engine => rfl

theorem Engine.flagged.latch_low {e : Engine} (h : e.flagged)
    (he : ¬ (e.state = .fill ∨ e.state = .handover ∨ e.state = .confirm)) : e.latchSignal = false := by
  obtain ⟨latched, -⟩ := h
  exact Bool.eq_false_iff.mpr (mt latched.mp he)

theorem Engine.flagged.downshift_low {e : Engine} (h : e.flagged) (he : e.state ≠ .handover) :
    e.downshift = false := by
  obtain ⟨-, downshift⟩ := h
  exact Bool.eq_false_iff.mpr fun set => he (downshift.mp set).1

theorem State.linked.startHandover (h : s.linked due Engine.flagged) {r : ShiftRecord} (hr : s.she.record = some r)
    (he : s.she.state = .fill) : (s.startHandover r).linked due Engine.flagged := by
  have latched : s.she.latchSignal = true := h.engine.1.mpr (.inl he)
  have downshift := h.engine.downshift_low (by simp [he])
  have holds := h.supply.shiftHolds.mp he
  unfold State.startHandover
  simp only
  generalize hl : s.tre.loadIndex = load
  generalize ht : handoverTime s.she.profile r.kind load = time
  have freed : (State.leaveFill { s with packs := s.packs.handover r time, she := s.she.handover r load time }
      r.onComing).linked due (· = s.she.handover r load time) := by
    refine State.linked.leaveFill_all (grantStable_eq (e := s.she.handover r load time) nofun) (fun none => ?_)
      (fun p hp => h.shift_fills hr he hp) (h.handover hr he load time)
    rw [h.supply.holds.mpr none] at holds
    cases holds
  change State.linked due Engine.flagged
    (if r.kind = .downshift then
      State.setDownshift
        (State.leaveFill { s with packs := s.packs.handover r time, she := s.she.handover r load time } r.onComing) true
    else _)
  split
  next down =>
    refine State.linked.setDownshift Engine.flagged_grantStable (freed.withDownshift ?_)
    rw [freed.engine]
    refine ⟨?_, ?_⟩
    all_goals simp [Engine.handover, latched, down]
  next other =>
    refine freed.weaken id fun e => ?_
    rw [e]
    refine ⟨?_, ?_⟩
    all_goals simp [Engine.handover, latched, downshift, other]

/-- The packs as CONFIRM starts: the on-coming ones lock, the off-going ones are released (R102). -/
def PackFile.confirm (f : PackFile) (r : ShiftRecord) : PackFile :=
  (f.order r.onComing PackRecord.risingToLocked).order r.offGoing PackRecord.release

theorem PackFile.get_confirm (f : PackFile) (r : ShiftRecord) (p : PackId) :
    (f.confirm r).get p =
      let q := if p ∈ r.onComing then (f.get p).risingToLocked else f.get p
      if p ∈ r.offGoing then q.release else q := by
  rw [PackFile.confirm, PackFile.get_order PackRecord.release_isOrder.again,
    PackFile.get_order PackRecord.risingToLocked_isOrder.again]

theorem PackFile.fault_confirm (f : PackFile) (r : ShiftRecord) (p : PackId) :
    ((f.confirm r).get p).state = .fault ↔ (f.get p).state = .fault :=
  (PackFile.fault_order PackRecord.release_isOrder _ _ _).trans
    (PackFile.fault_order PackRecord.risingToLocked_isOrder _ _ _)

/-- CONFIRM has the packs where it wants them when HANDOVER had (R101, R102). -/
theorem State.linked.confirm_places (h : s.linked due F) {r : ShiftRecord} (hr : s.she.record = some r)
    (he : s.she.state = .handover) {id : PackId} (hid : id ∈ gearboxPacks) :
    let p := (s.packs.confirm r).get id
    if id ∈ s.packsOf r.dest then p.state = .locked else p.resting := by
  have route := h.route r hr
  have places := (State.shiftPlaces_handover he).mp (h.gear.shift hr hid)
  simp only
  rw [PackFile.get_confirm]
  by_cases coming : id ∈ r.onComing
  · obtain ⟨dest, out⟩ := route.mem_onComing.mp coming
    have other : id ∉ r.offGoing := fun hm => out (route.mem_offGoing.mp hm).1
    rw [if_pos coming] at places
    obtain ⟨_, _, rising⟩ := places
    rw [if_pos dest, if_neg other, if_pos coming, PackRecord.risingToLocked_of_rising rising]
  rw [if_neg coming] at places ⊢
  by_cases going : id ∈ r.offGoing
  · rw [if_neg (route.mem_offGoing.mp going).2, if_pos going]
    exact PackRecord.release_resting _
  rw [if_neg going] at places ⊢
  by_cases common : id ∈ r.common
  · rw [if_pos common] at places
    rwa [if_pos (route.mem_common.mp common).1]
  · rw [if_neg common] at places
    rwa [if_neg]
    intro hd
    by_cases ho : id ∈ s.packsOf r.origin
    · exact common (route.mem_common.mpr ⟨hd, ho⟩)
    · exact coming (route.mem_onComing.mpr ⟨hd, ho⟩)

/-- A gearbox pack in FILL belongs to the FILL of a shift or a calibration (R97, R123). -/
theorem State.linked.no_fill_of_flying (h : s.linked due F) (flying : s.she.state.inFlight = true)
    (hf : s.she.state ≠ .fill) {p : PackId} (hp : p ∈ gearboxPacks) : (s.packs.get p).state ≠ .fill := by
  have noJob := h.no_job_of_flying flying
  intro fill
  rcases h.holder_of_gearbox_fill hp fill with shift | cal
  · exact hf (h.supply.shiftHolds.mpr shift)
  · simpa [noJob] using h.supply.calHolds.mpr cal

theorem State.linked.startConfirm (h : s.linked due Engine.flagged) {r : ShiftRecord} (hr : s.she.record = some r)
    (he : s.she.state = .handover) : (s.startConfirm r).linked due Engine.flagged := by
  have route := h.route r hr
  have flying : s.she.state.inFlight = true := by rw [he]; rfl
  have noJob := h.no_job_of_flying flying
  have fault := PackFile.fault_confirm s.packs r
  have fdp : (s.packs.confirm r).fdp = s.packs.fdp := by
    refine (PackFile.fdp_order PackRecord.release_isOrder.again fun p hp => route.offGoing_gearbox hp).trans ?_
    exact PackFile.fdp_order PackRecord.risingToLocked_isOrder.again fun p hp => route.onComing_gearbox hp
  have fill (p : PackId) : ((s.packs.confirm r).get p).state = .fill ↔ (s.packs.get p).state = .fill := by
    by_cases hp : p = .fdp
    · subst hp
      change (s.packs.confirm r).fdp.state = .fill ↔ s.packs.fdp.state = .fill
      rw [fdp]
    · have gear := mem_gearboxPacks.mpr hp
      refine iff_of_false (fun fill => ?_) (h.no_fill_of_flying flying (by rw [he]; nofun) gear)
      have places := h.confirm_places hr he gear
      simp only at places
      split_ifs at places
      · simp [fill] at places
      · exact places.ne_fill fill
  have engage {i : Nat} (hi : s.engageable i) : State.engageable { s with packs := s.packs.confirm r } i :=
    hi.congr rfl fun p => (fault p).mp
  refine State.linked.setDownshift Engine.flagged_grantStable ?_
  constructor
  case ratio => exact h.ratio.congr rfl fault
  case present => exact fun hp => engage (h.present hp)
  case inFlight => rfl
  case target => exact h.target
  case route =>
    rintro _ ⟨⟩
    exact route.congr ⟨rfl, rfl, rfl, rfl, rfl⟩ rfl rfl rfl engage
  case cal => exact State.calLaw_of_none noJob nofun
  case gear =>
    exact State.gearLaw_of_shift noJob rfl fun id hid =>
      (State.shiftPlaces_confirm rfl).mpr (h.confirm_places hr he hid)
  case supply =>
    obtain ⟨fills, holds, shiftWaits, shiftHolds, calWaits, calHolds⟩ := h.supply
    refine ⟨fun p => (fill p).trans (fills p), holds, ?_, ?_, calWaits, calHolds⟩
    · exact iff_of_false nofun (mt shiftWaits.mpr (by rw [he]; nofun))
    · exact iff_of_false nofun (mt shiftHolds.mpr (by rw [he]; nofun))
  case front => exact h.front.congr rfl (congrArg PackRecord.state fdp) rfl Iff.rfl
  case latch => exact h.latch
  case braking => exact h.braking
  case packs =>
    exact PackFile.sound_order
      (PackFile.sound_order h.packs PackRecord.risingToLocked_isOrder.again (fun _ hp => hp.risingToLocked) _)
      PackRecord.release_isOrder.again (fun _ hp => hp.release) _
  case unit => exact h.unit
  case engine =>
    obtain ⟨latched, -⟩ := h.engine
    exact ⟨iff_of_true (latched.mpr (.inr (.inl he))) (.inr (.inr rfl)), iff_of_false nofun nofun⟩

end

end Sys2Proof.Machine

namespace Sys2Proof.Machine

/-! ## The ends of a shift -/

/-! ### Usability formed again -/

theorem RatioEntry.uses_false {e : RatioEntry} {ps : List PackId} (h : e.uses ps = false) {p : PackId}
    (hp : p ∈ e.packs) : p ∉ ps := by
  simp only [RatioEntry.uses, List.any_eq_false] at h
  simpa using h p hp

/-- Where usability is formed again for the entries whose withhold bit or faults changed, the ratio law holds
again (R54). -/
theorem State.ratioLaw.reform {s t : State} (h : s.ratioLaw) {concerned : RatioEntry → Bool}
    (entries : t.rmp.entries = s.rmp.entries.map fun e =>
      if concerned e then { e with usable := formUsable t.rmp t.packs e } else e)
    (others : ∀ e ∈ s.rmp.entries, concerned e = false →
      t.rmp.withheld.getLsbD (e.index - 1) = s.rmp.withheld.getLsbD (e.index - 1) ∧
        ∀ p ∈ e.packs, (t.packs.get p).state = .fault ↔ (s.packs.get p).state = .fault) : t.ratioLaw := by
  obtain ⟨order, ranges, rising, distinct, usable⟩ := h
  have kept (e : RatioEntry) : ∃ u, (if concerned e then { e with usable := formUsable t.rmp t.packs e } else e) =
      { e with usable := u } := by
    split
    · exact ⟨_, rfl⟩
    · exact ⟨e.usable, rfl⟩
  rw [State.ratioLaw, entries]
  simp only [List.map_map, List.forall_mem_map]
  refine ⟨?_, fun e he => ?_, fun e he e' he' => ?_, fun e he e' he' => ?_, fun e he => ?_⟩
  · rwa [List.map_congr_left (g := fun e => e.index)]
    intro e _
    obtain ⟨u, hu⟩ := kept e
    simp [hu]
  · obtain ⟨u, hu⟩ := kept e
    rw [hu]
    exact ranges e he
  · obtain ⟨u, hu⟩ := kept e
    obtain ⟨u', hu'⟩ := kept e'
    rw [hu, hu']
    exact rising e he e' he'
  · obtain ⟨u, hu⟩ := kept e
    obtain ⟨u', hu'⟩ := kept e'
    rw [hu, hu']
    exact distinct e he e' he'
  · split
    · exact formUsable_iff _ _ _
    next other =>
      obtain ⟨bit, fault⟩ := others e he (Bool.eq_false_iff.mpr other)
      rw [usable e he, bit]
      exact and_congr_right fun _ => forall₂_congr fun p hp => not_congr (fault p hp).symm

/-! ### Into neutral -/

section
variable {due due' : Prop} {F G : Engine → Prop} {s t : State}

theorem State.dropLatch_of_raised (h : s.she.latchSignal = true) :
    s.dropLatch =
      State.formLoadIndex { s with she := { s.she with latchSignal := false }, htc := { s.htc with latch := none } } :=
  if_pos h

/-- Every gearbox pack ordered to release is at rest. -/
theorem PackFile.release_gearbox (f : PackFile) {id : PackId} (hid : id ∈ gearboxPacks) :
    ((f.order gearboxPacks PackRecord.release).get id).resting := by
  rw [PackFile.get_order PackRecord.release_isOrder.again, if_pos hid]
  exact PackRecord.release_resting _

theorem State.linked.sound_release (h : s.linked due F) (ps : List PackId) (p : PackId) :
    ((s.packs.order ps PackRecord.release).get p).sound :=
  PackFile.sound_order h.packs PackRecord.release_isOrder.again (fun _ hp => hp.release) ps p

theorem PackFile.release_gearbox_fdp (f : PackFile) : (f.order gearboxPacks PackRecord.release).fdp = f.fdp :=
  PackFile.fdp_order PackRecord.release_isOrder.again fun _ hp => hp

/-- In HANDOVER and CONFIRM nobody but FRONT is at the arbiter. -/
theorem State.linked.frontOnly_of_flying (h : s.linked due F) (flying : s.she.state.inFlight = true)
    (he : s.she.state ≠ .supplyWait ∧ s.she.state ≠ .fill) : s.fsa = s.fsa.frontOnly := by
  have noJob := h.no_job_of_flying flying
  exact (h.frontOnly he ⟨by simp [noJob], by simp [noJob]⟩).symm

/-- The engine at rest in neutral with its signals low. -/
theorem Engine.flagged_rest {e : Engine} (latched : e.latchSignal = false) (downshift : e.downshift = false)
    (he : e.state = .settled) : e.flagged :=
  (Engine.flagged_iff_of_rest (.inl he)).mpr ⟨latched, downshift⟩

theorem State.linked.stall (h : s.linked due Engine.flagged) {r : ShiftRecord} (hr : s.she.record = some r)
    (he : s.she.state = .confirm) : (s.stall r).linked due Engine.flagged := by
  have flying := h.flying hr
  have raised : s.she.latchSignal = true := h.engine.1.mpr (.inr (.inr he))
  have low := h.engine.downshift_low (by simp [he])
  unfold State.stall
  simp only
  rw [State.dropLatch_of_raised]
  · refine State.linked.offer ?_ _ _
    exact h.neutral ⟨rfl, .inl rfl, rfl⟩ (h.no_job_of_flying flying) (fun hn => absurd rfl hn)
      (h.ratio.congr rfl (PackFile.fault_order PackRecord.release_isOrder _ _))
      (fun _ hid => PackFile.release_gearbox _ hid) (h.sound_release _) (PackFile.release_gearbox_fdp _)
      (h.frontOnly_of_flying flying (by rw [he]; exact ⟨nofun, nofun⟩)) ⟨rfl, rfl, rfl⟩ rfl h.unit
      (Engine.flagged_rest rfl low rfl)
  · exact raised

/-- The packs after a failed confirmation: the on-coming ones in FAULT, the others released (R104). -/
theorem PackFile.fault_failConfirm (f : PackFile) (r : ShiftRecord) {p : PackId} (hp : p ∉ r.onComing) :
    (((f.order r.onComing PackRecord.confirmFault).order gearboxPacks PackRecord.release).get p).state = .fault ↔
      (f.get p).state = .fault := by
  rw [PackFile.fault_order PackRecord.release_isOrder, PackFile.get_order PackRecord.confirmFault_again, if_neg hp]

theorem State.linked.failConfirm (h : s.linked due Engine.flagged) {r : ShiftRecord} (hr : s.she.record = some r)
    (he : s.she.state = .confirm) : (s.failConfirm r).linked due Engine.flagged := by
  have flying := h.flying hr
  have route := h.route r hr
  have raised : s.she.latchSignal = true := h.engine.1.mpr (.inr (.inr he))
  have low := h.engine.downshift_low (by simp [he])
  unfold State.failConfirm
  simp only
  rw [State.dropLatch_of_raised]
  · refine State.linked.offer ?_ _ _
    refine h.neutral ⟨rfl, .inl rfl, rfl⟩ (h.no_job_of_flying flying) (fun hn => absurd rfl hn) ?_
      (fun _ hid => PackFile.release_gearbox _ hid) ?_ ?_
      (h.frontOnly_of_flying flying (by rw [he]; exact ⟨nofun, nofun⟩)) ⟨rfl, rfl, rfl⟩ rfl h.unit
      (Engine.flagged_rest rfl low rfl)
    · exact h.ratio.reform rfl fun e _ other =>
        ⟨rfl, fun p hp => PackFile.fault_failConfirm _ r (RatioEntry.uses_false other hp)⟩
    · exact PackFile.sound_order (PackFile.sound_order h.packs PackRecord.confirmFault_again
        (fun _ hp => hp.confirmFault) _) PackRecord.release_isOrder.again (fun _ hp => hp.release) _
    · exact (PackFile.release_gearbox_fdp _).trans
        (PackFile.fdp_order PackRecord.confirmFault_again fun p hp => route.onComing_gearbox hp)
  · exact raised

/-! ### No supply -/

theorem State.linked.noSupply (h : s.linked due Engine.flagged) {r : ShiftRecord} (hr : s.she.record = some r)
    (he : s.she.state = .supplyWait) : (s.noSupply r).linked due Engine.flagged := by
  have noJob := h.no_job_of_flying (h.flying hr)
  have route := h.route r hr
  unfold State.noSupply
  refine State.linked.offer ?_ _ _
  constructor
  case ratio => exact h.ratio
  case present => exact h.present
  case inFlight => rfl
  case target => exact h.targets_present
  case route => nofun
  case cal => exact State.calLaw_of_none noJob nofun
  case gear =>
    refine State.gearLaw_of_rest noJob rfl fun id hid => ?_
    have places := (State.shiftPlaces_supplyWait he).mp (h.gear.shift hr hid)
    rw [route.origin] at places
    by_cases present : id ∈ s.packsOf s.she.pr
    · exact (if_pos present).mpr ((if_pos present).mp places)
    · refine (if_neg present).mpr ?_
      rw [if_neg present] at places
      split_ifs at places
      · exact .inl places
      · exact places
  case supply =>
    obtain ⟨fills, holds, -, shiftHolds, calWaits, calHolds⟩ := h.supply
    exact ⟨fills, holds, iff_of_false nofun nofun, iff_of_false nofun (mt shiftHolds.mpr (by rw [he]; nofun)),
      calWaits, calHolds⟩
  case front => exact h.front
  case latch => exact h.latch
  case braking => exact h.braking
  case packs => exact h.packs
  case unit => exact h.unit
  case engine =>
    exact Engine.flagged_rest (h.engine.latch_low (by simp [he])) (h.engine.downshift_low (by simp [he])) rfl

/-! ### Adaptation and completion -/

theorem clampInt_mem {lo hi x : Int} (h : lo ≤ hi) : lo ≤ clampInt lo hi x ∧ clampInt lo hi x ≤ hi := by
  rw [clampInt_eq h]
  omega

theorem PackFields.inRange.adjust {f : PackFields} (h : f.inRange) (c : OnsetClass) :
    PackFields.inRange { f with tf := adjustedFill f c } := by
  obtain ⟨pf, pf', low, tf, tf', high, pl⟩ := h
  have within := clampInt_mem (lo := f.tfMin) (hi := f.tfMax) (x := candidateFill f.tf c) (by omega)
  refine ⟨pf, pf', low, ?_, ?_, high, pl⟩
  all_goals
    simp only [adjustedFill]
    omega

theorem PackRecord.sound.adjust {p : PackRecord} (h : p.sound) (c : OnsetClass) : (p.adjust c).sound := by
  refine ⟨h.active.adjust c, h.staged, ?_, h.cause⟩
  change (if heldAtLimit p.active c then min 8 (p.atLimit + 1) else 0) ≤ 8
  split <;> omega

/-- Adaptation moves a fill time and its count, and may raise a notice (R114 to R117). -/
theorem State.adapt_frame (s : State) (r : ShiftRecord) :
    ∃ packs n, s.adapt r = { s with packs := packs, nts := n } ∧
      ∀ p, (packs.get p).state = (s.packs.get p).state ∧ ((s.packs.get p).sound → (packs.get p).sound) := by
  have same : ∃ packs n, s = { s with packs := packs, nts := n } ∧
      ∀ p, (packs.get p).state = (s.packs.get p).state ∧ ((s.packs.get p).sound → (packs.get p).sound) :=
    ⟨s.packs, s.nts, rfl, fun _ => ⟨rfl, id⟩⟩
  unfold State.adapt
  split
  next p _ _ =>
    split
    · have adjusted (q : PackId) :
          ((s.packs.update (PackRecord.adjust (r.onset.getD .late)) p).get q).state = (s.packs.get q).state ∧
            ((s.packs.get q).sound → ((s.packs.update (PackRecord.adjust (r.onset.getD .late)) p).get q).sound) := by
        rw [PackFile.get_update]
        split
        · exact ⟨rfl, fun h => h.adjust _⟩
        · exact ⟨rfl, id⟩
      unfold State.adjustFill
      simp only
      split
      · exact ⟨_, _, rfl, adjusted⟩
      · exact ⟨_, s.nts, rfl, adjusted⟩
    · exact same
  · exact same

/-- From CONFIRM to rest in the destination: its packs are LOCKED already (R106). -/
theorem State.linked.arrive (h : s.linked due F) {r : ShiftRecord} (hr : s.she.record = some r)
    (he : s.she.state = .confirm)
    (same : t.rmp = s.rmp ∧ t.fsa = s.fsa ∧ t.cau = s.cau ∧ t.straps = s.straps ∧ t.tre.braking = s.tre.braking ∧
      t.frd.phase = s.frd.phase)
    (packs : ∀ p, (t.packs.get p).state = (s.packs.get p).state ∧ ((s.packs.get p).sound → (t.packs.get p).sound))
    (engine : t.she.pr = r.dest ∧ t.she.state.atRest ∧ t.she.record = none) (target : s.targets t.she.nr)
    (signals : t.she.latchSignal = false ∧ t.she.downshift = false) (latch : t.htc.latch = none) :
    t.linked due Engine.flagged := by
  have noJob := h.no_job_of_flying (h.flying hr)
  have route := h.route r hr
  obtain ⟨map, fsa, unit, straps, braking, phase⟩ := same
  obtain ⟨pr, rest, record⟩ := engine
  have job : t.cau.job = none := by rw [unit, noJob]
  have packsOf (i : Nat) : t.packsOf i = s.packsOf i := State.packsOf_congr map i
  have engage {i : Nat} (hi : s.engageable i) : t.engageable i := hi.congr map fun p => by rw [(packs p).1]; exact id
  constructor
  case ratio => exact h.ratio.congr map fun p => by rw [(packs p).1]
  case present => rw [pr]; exact fun _ => engage route.engageable
  case inFlight => rw [record, rest.not_inFlight]; rfl
  case target => rw [map]; exact target
  case route => rw [record]; nofun
  case cal => exact State.calLaw_of_none job rest.ne.2.2.2.2
  case gear =>
    refine State.gearLaw_of_rest job record fun id hid => ?_
    have places : State.restPlaces { s with she := { s.she with pr := r.dest } } id (s.packs.get id) :=
      (State.shiftPlaces_confirm he).mp (h.gear.shift hr hid)
    refine places.congr ?_ (packs id).1
    rw [pr, packsOf]
    rfl
  case supply =>
    obtain ⟨fills, holds, shiftWaits, shiftHolds, calWaits, calHolds⟩ := h.supply
    obtain ⟨wait, fill, -, -, -⟩ := rest.ne
    rw [he] at shiftWaits shiftHolds
    refine ⟨fun p => by rw [(packs p).1, fsa]; exact fills p, by rw [fsa]; exact holds, ?_, ?_,
      by rw [unit, fsa]; exact calWaits,
      by rw [unit, fsa]; exact calHolds⟩
    · rw [fsa]
      exact iff_of_false wait (mt shiftWaits.mpr nofun)
    · rw [fsa]
      exact iff_of_false fill (mt shiftHolds.mpr nofun)
  case front => exact h.front.congr phase (packs .fdp).1 (by rw [fsa]) (by rw [fsa])
  case latch => rw [latch, signals.1]; rfl
  case braking =>
    unfold State.brakingLaw
    rw [straps, braking, phase]
    exact h.braking
  case packs => exact fun p => (packs p).2 (h.packs p)
  case unit => rw [unit]; exact h.unit
  case engine => exact (Engine.flagged_iff_of_rest rest).mpr signals

theorem State.linked.complete (h : s.linked due Engine.flagged) {r r' : ShiftRecord} (hr : s.she.record = some r)
    (he : s.she.state = .confirm) (dest : r'.dest = r.dest) : (s.complete r').linked due Engine.flagged := by
  have raised : s.she.latchSignal = true := h.engine.1.mpr (.inr (.inr he))
  have low := h.engine.downshift_low (by simp [he])
  obtain ⟨packs, n, adapted, moved⟩ := State.adapt_frame
    { s with she := { s.she with pr := r'.dest, lastDir := s.directionOf r'.dest } } r'
  have route := h.route r hr
  have arrived : s.targets r'.dest := fun _ => by
    obtain ⟨e, he, -⟩ := route.engageable
    rw [dest, he]
    rfl
  unfold State.complete
  simp only
  rw [adapted, State.dropLatch_of_raised]
  · unfold State.afterShift
    split_ifs
    · refine State.linked.offer ?_ _ _
      exact h.arrive hr he ⟨rfl, rfl, rfl, rfl, rfl, rfl⟩ moved ⟨dest, .inl rfl, rfl⟩ arrived ⟨rfl, low⟩ rfl
    · refine State.linked.offer ?_ _ _
      exact h.arrive hr he ⟨rfl, rfl, rfl, rfl, rfl, rfl⟩ moved ⟨dest, .inl rfl, rfl⟩ h.target ⟨rfl, low⟩ rfl
    · exact h.arrive hr he ⟨rfl, rfl, rfl, rfl, rfl, rfl⟩ moved ⟨dest, .inr rfl, rfl⟩ h.target ⟨rfl, low⟩ rfl
  · exact raised

end

end Sys2Proof.Machine

namespace Sys2Proof.Machine

/-! ### A speed pair at the engine -/

section
variable {due due' : Prop} {F G : Engine → Prop} {s t : State}

/-- What the shift in flight fills in of its record later, no law reads. -/
theorem State.linked.rerecord (h : s.linked due Engine.flagged) {r r' : ShiftRecord} (hr : s.she.record = some r)
    (route : r'.sameRoute r) (kind : r'.kind = r.kind) :
    State.linked due Engine.flagged { s with she := { s.she with record := some r' } } := by
  have flying := h.flying hr
  have noJob := h.no_job_of_flying flying
  have noHold : s.she.state ≠ .calHold := fun hold => by simp [hold, EngineState.inFlight] at flying
  constructor
  case ratio => exact h.ratio
  case present => exact h.present
  case inFlight => exact flying.symm
  case target => exact h.target
  case route =>
    rintro _ ⟨⟩
    exact (h.route r hr).congr route rfl rfl rfl id
  case cal => exact State.calLaw_of_none noJob noHold
  case gear =>
    refine State.gearLaw_of_shift noJob rfl fun id hid => ?_
    exact (h.gear.shift hr hid).congr route rfl rfl rfl rfl
  case supply => exact h.supply.stand rfl rfl rfl rfl
  case front => exact h.front
  case latch => exact h.latch
  case braking => exact h.braking
  case packs => exact h.packs
  case unit => exact h.unit
  case engine =>
    obtain ⟨latched, downshift⟩ := h.engine
    refine ⟨latched, downshift.trans (and_congr_right fun _ => ?_)⟩
    simp [hr, kind]

theorem State.linked.examineOnset (h : s.linked due Engine.flagged) (neValid : Bool) :
    (s.examineOnset neValid).linked due Engine.flagged := by
  unfold State.examineOnset
  split
  · exact h
  next r hr =>
    split
    · exact h.rerecord hr ⟨rfl, rfl, rfl, rfl, rfl⟩ rfl
    · exact h

theorem State.linked.confirmPair (h : s.linked due Engine.flagged) : s.confirmPair.linked due Engine.flagged := by
  unfold State.confirmPair
  split
  next r he hr =>
    split_ifs
    · exact h.complete hr he rfl
    · exact h.rerecord hr ⟨rfl, rfl, rfl, rfl, rfl⟩ rfl
    · exact h.rerecord hr ⟨rfl, rfl, rfl, rfl, rfl⟩ rfl
  · exact h

theorem State.linked.shiftPair (h : s.linked due Engine.flagged) (neValid : Bool) :
    (s.shiftPair neValid).linked due Engine.flagged :=
  (h.examineOnset neValid).confirmPair

/-! ### The supply set free for FRONT alone

Where a unit gives up the supply as it ends what it was at, only FRONT can be granted it: what becomes of the
engine and of the calibration may as well come first. -/

/-- A state with another engine and another Calibration Unit. -/
def State.withUnits (s : State) (e : Engine) (c : CalUnit) : State := { s with she := e, cau := c }

theorem Waiting.first_front {w : Waiting} (shift : w.shift = false) (cal : w.cal = false) {r : Requester}
    (h : w.first = some r) : r = .front := by
  unfold Waiting.first at h
  simp only [shift, cal, Bool.false_eq_true, if_false] at h
  split at h <;> cases h
  rfl

theorem State.grantRounds_withUnits (n : Nat) (shift : s.fsa.waiting.shift = false) (cal : s.fsa.waiting.cal = false)
    (e : Engine) (c : CalUnit) :
    (s.grantRounds n).withUnits e c = (s.withUnits e c).grantRounds n ∧ (s.grantRounds n).she = s.she ∧
      (s.grantRounds n).cau = s.cau := by
  induction n generalizing s with
  | zero => exact ⟨rfl, rfl, rfl⟩
  | succ n ih =>
    unfold State.grantRounds
    change State.withUnits (match s.fsa.grantee with | none => _ | some r => _) e c =
      (match s.fsa.grantee with | none => _ | some r => _) ∧ _
    cases hr : s.fsa.grantee with
    | none => exact ⟨rfl, rfl, rfl⟩
    | some r =>
      obtain rfl : r = .front := Waiting.first_front shift cal (Supply.grantee_first hr)
      change State.withUnits (if (s.grantTo .front).fsa.fillList.isEmpty then _ else _) e c =
        (if (s.grantTo .front).fsa.fillList.isEmpty then _ else _) ∧ _
      simp only
      split
      · exact ih (s := { s.grantTo .front with fsa := { (s.grantTo .front).fsa with holder := none } }) shift cal
      · exact ⟨rfl, rfl, rfl⟩

/-- The supply given up with only FRONT waiting: another engine and another Calibration Unit may come first. -/
theorem State.leaveFill_withUnits (shift : s.fsa.waiting.shift = false) (cal : s.fsa.waiting.cal = false)
    (ps : List PackId) (e : Engine) (c : CalUnit) :
    (s.leaveFill ps).withUnits e c = (s.withUnits e c).leaveFill ps ∧ (s.leaveFill ps).she = s.she ∧
      (s.leaveFill ps).cau = s.cau := by
  by_cases freed : s.freedBy ps = true
  · rw [State.leaveFill_of_freed freed, State.leaveFill_of_freed (s := s.withUnits e c) freed]
    exact State.grantRounds_withUnits (s := { s with fsa := { s.fsa with holder := none, fillList := [] } }) 3 shift cal
      e c
  · rw [State.leaveFill_of_kept freed, State.leaveFill_of_kept (s := s.withUnits e c) freed]
    exact ⟨rfl, rfl, rfl⟩

/-- Where a unit ends what it had the supply for, what becomes of it may come first. -/
theorem State.leaveFill_then (shift : s.fsa.waiting.shift = false) (cal : s.fsa.waiting.cal = false)
    (ps : List PackId) (f : Engine → Engine) (g : CalUnit → CalUnit) :
    { s.leaveFill ps with she := f (s.leaveFill ps).she, cau := g (s.leaveFill ps).cau } =
      State.leaveFill { s with she := f s.she, cau := g s.cau } ps := by
  obtain ⟨commutes, she, cau⟩ := State.leaveFill_withUnits shift cal ps (f s.she) (g s.cau)
  calc
    _ = (s.leaveFill ps).withUnits (f (s.leaveFill ps).she) (g (s.leaveFill ps).cau) := rfl
    _ = _ := by rw [she, cau, commutes]; rfl

/-! ### Forced neutral -/

/-- The engine a forced neutral leaves, its signals still as they were (R110). -/
def Engine.neutral (e : Engine) : Engine := { e.rest 0 0 with seatTimer := none }

theorem Engine.neutral_grantStable (e : Engine) : grantStable (· = e.neutral) := grantStable_eq nofun

theorem Engine.neutral_low_grantStable (e : Engine) : grantStable (· = { e.neutral with downshift := false }) :=
  grantStable_eq nofun

/-- The gearbox released and the engine neutral, with nobody but FRONT at the arbiter. -/
theorem State.linked.neutral_engine (h : s.linked due F) (hold : s.she.state ≠ .calHold) {f : Supply}
    (hf : f = s.fsa.frontOnly) :
    State.linked due (· = s.she.neutral) { s.releaseGearbox with fsa := f, she := s.she.neutral } :=
  h.neutral ⟨rfl, .inl rfl, rfl⟩ (h.no_job hold) (fun hn => absurd rfl hn)
    (h.ratio.congr rfl (PackFile.fault_order PackRecord.release_isOrder _ _))
    (fun _ hid => PackFile.release_gearbox _ hid) (h.sound_release _) (PackFile.release_gearbox_fdp _) hf
    ⟨rfl, rfl, rfl⟩ h.latch h.unit rfl

/-- What a forced neutral gives up of the shift before the engine is neutral (R110). -/
def State.givenUp (s : State) : State :=
  let s := s.releaseGearbox
  let s := if s.she.state = .supplyWait then s.cancelSupply .shift else s
  if s.she.state = .fill then s.leaveFill gearboxPacks else s

theorem State.linked.givenUp (h : s.linked due F) (hold : s.she.state ≠ .calHold) :
    State.linked due (· = s.she.neutral) { s.givenUp with she := s.givenUp.she.neutral } := by
  have noJob := h.no_job hold
  have calWaits : s.fsa.waiting.cal = false := by simpa [noJob] using h.supply.calWaits
  have calHolds : s.fsa.holder ≠ some .cal := by simpa [noJob] using h.supply.calHolds
  by_cases wait : s.she.state = .supplyWait
  · have holds : s.fsa.holder ≠ some .shift := mt h.supply.shiftHolds.mpr (by simp [wait])
    have step : s.givenUp = s.releaseGearbox.cancelSupply .shift := by
      simp [State.givenUp, wait]
    rw [step]
    exact h.neutral_engine hold (Supply.frontOnly_eq (f := { s.fsa with waiting := s.fsa.waiting.put .shift false })
      ⟨rfl, holds⟩ ⟨calWaits, calHolds⟩ h.supply.holds.mp).symm
  have shiftWaits : s.fsa.waiting.shift = false := by simpa [wait] using h.supply.shiftWaits
  by_cases fill : s.she.state = .fill
  · have holds := h.supply.shiftHolds.mp fill
    have step : s.givenUp = s.releaseGearbox.leaveFill gearboxPacks := by
      simp [State.givenUp, fill]
    rw [step]
    refine (State.leaveFill_then (s := s.releaseGearbox) shiftWaits calWaits gearboxPacks Engine.neutral id).symm ▸ ?_
    refine State.linked.leaveFill_all (Engine.neutral_grantStable _) (fun none => ?_)
      (fun p hp => h.fillList_gearbox (by simp [holds]) hp) ?_
    · rw [h.supply.holds.mpr none] at holds
      cases holds
    · exact h.neutral_engine hold (Supply.frontOnly_of_holder shiftWaits calWaits (by simp [holds])).symm
  · have step : s.givenUp = s.releaseGearbox := by simp [State.givenUp, wait, fill]
    rw [step]
    exact h.neutral_engine hold (h.frontOnly ⟨wait, fill⟩ ⟨by simp [noJob], by simp [noJob]⟩).symm

theorem State.linked.forcedNeutral (h : s.linked due Engine.flagged) (c : NeutralCause) :
    (s.forcedNeutral c).linked due Engine.flagged := by
  unfold State.forcedNeutral
  split_ifs with hold idle
  · exact h
  · exact h
  · have neutral := h.givenUp hold
    have lowered : State.linked due (· = { s.she.neutral with downshift := false })
        (State.setDownshift { s.givenUp with she := s.givenUp.she.neutral } false) :=
      State.linked.setDownshift (Engine.neutral_low_grantStable _) (neutral.withDownshift (by rw [neutral.engine]))
    refine State.linked.offer ?_ _ _
    refine lowered.dropLatch ?_
    exact lowered.engine ▸ Engine.flagged_rest rfl rfl rfl

end

end Sys2Proof.Machine

namespace Sys2Proof.Machine

/-! ## A calibration -/

section
variable {due due' : Prop} {F G : Engine → Prop} {s t : State} {j : CalJob}

/-- What a calibration does on its packs and at the arbiter concerns no other law. -/
theorem State.linked.cal_step (h : s.linked due F) (hj : s.cau.job = some j) {j' : CalJob} (job : t.cau.job = some j')
    (packs : j'.pack = j.pack ∧ j'.partner1 = j.partner1 ∧ j'.partner2 = j.partner2)
    (fills : j'.phase = .filling → j'.fill1.isSome = true ∨ j'.fill2.isSome = true)
    (fault : ∀ p, (t.packs.get p).state = .fault ↔ (s.packs.get p).state = .fault)
    (sound : ∀ p, (t.packs.get p).sound) (fdp : t.packs.fdp = s.packs.fdp)
    (same : t.rmp = s.rmp ∧ t.she = s.she ∧ t.htc.latch = s.htc.latch ∧ t.straps = s.straps ∧ t.tre = s.tre ∧
      t.frd = s.frd)
    (front : t.fsa.waiting.front = s.fsa.waiting.front ∧ (t.fsa.holder = some .front ↔ s.fsa.holder = some .front))
    (places : ∀ id ∈ gearboxPacks, j'.places id (t.packs.get id)) (supply : t.supplied)
    (unit : t.cau.stepCount ≤ 60 ∧ 50 ≤ t.cau.interval ∧ t.cau.interval ≤ 500) : t.linked due F := by
  obtain ⟨pack, first, second⟩ := packs
  obtain ⟨map, she, latch, straps, tre, frd⟩ := same
  have noRecord := h.no_record_of_job hj
  obtain ⟨-, running⟩ := h.cal
  obtain ⟨pr, nr, partners, -⟩ := running j hj
  constructor
  case ratio => exact h.ratio.congr map fault
  case present => rw [she, pr]; exact fun hp => absurd rfl hp
  case inFlight => rw [she]; exact h.inFlight
  case target => rw [she, nr]; exact fun hn => absurd rfl hn
  case route => rw [she, noRecord]; nofun
  case cal =>
    exact State.calLaw_of_some job (by rw [she]; exact h.calHold hj) (by rw [she, pr]) (by rw [she, nr])
      (by rw [pack, first, second]; exact partners) fills
  case gear => exact State.gearLaw_of_cal job (by rw [she, noRecord]) places
  case supply => exact supply
  case front => exact h.front.congr (by rw [frd]) (by rw [fdp]) front.1 front.2
  case latch => rw [latch, she]; exact h.latch
  case braking =>
    unfold State.brakingLaw
    rw [straps, tre, frd]
    exact h.braking
  case packs => exact sound
  case unit => exact unit
  case engine => rw [she]; exact h.engine

/-- The packs of a calibration are gearbox packs. -/
theorem State.linked.calPacks_gearbox (h : s.linked due F) (hj : s.cau.job = some j) {p : PackId} (hp : p ∈ j.packs) :
    p ∈ gearboxPacks := by
  obtain ⟨-, running⟩ := h.cal
  obtain ⟨-, -, partners, -⟩ := running j hj
  obtain ⟨pack, first, second, -⟩ := PackId.partners_spec partners
  simp only [CalJob.packs, List.mem_cons, List.not_mem_nil, or_false] at hp
  rcases hp with rfl | rfl | rfl <;> exact mem_gearboxPacks.mpr ‹_›

/-- A pack the calibration does not use is at rest. -/
theorem CalJob.places.other {id : PackId} {p : PackRecord} (h : j.places id p) (hid : id ∉ j.packs) : p.resting := by
  simp only [CalJob.packs, List.mem_cons, List.not_mem_nil, or_false, not_or] at hid
  obtain ⟨pack, first, second⟩ := hid
  simpa only [CalJob.places, if_neg pack, if_neg first, if_neg second] using h

/-! ### The end of a calibration -/

theorem State.endCalibration_offer (s : State) (r : Report) (d : List Byte) :
    (s.offer r d).endCalibration = s.endCalibration.offer r d := rfl

/-- With its packs out of the way and nobody but FRONT at the arbiter, a calibration may end (R125, R126). -/
theorem State.linked.endCalibration (h : s.linked due Engine.flagged) (hj : s.cau.job = some j)
    (packs : PackFile) (rmp : RatioMap) (fsa : Supply)
    (ratio : State.ratioLaw { s with packs := packs, rmp := rmp })
    (sound : ∀ p, (packs.get p).sound) (fdp : packs.fdp = s.packs.fdp)
    (used : ∀ p ∈ j.packs, (packs.get p).resting) (others : ∀ p ∉ j.packs, packs.get p = s.packs.get p)
    (front : fsa = s.fsa.frontOnly) :
    State.linked due Engine.flagged (State.endCalibration { s with packs := packs, rmp := rmp, fsa := fsa }) := by
  have hold := h.calHold hj
  refine h.neutral ⟨rfl, .inl rfl, h.no_record_of_job hj⟩ rfl (fun hn => absurd rfl hn) ratio (fun id hid => ?_) sound fdp
    front ⟨rfl, rfl, rfl⟩ h.latch h.unit ?_
  · by_cases hp : id ∈ j.packs
    · exact used id hp
    · change (packs.get id).resting
      rw [others id hp]
      exact (h.gear.cal hj hid).other hp
  · exact Engine.flagged_rest (h.engine.latch_low (by simp [hold])) (h.engine.downshift_low (by simp [hold])) rfl

/-- The packs of an ended calibration, all three released. -/
theorem State.linked.end_released (h : s.linked due Engine.flagged) (hj : s.cau.job = some j) {fsa : Supply}
    (front : fsa = s.fsa.frontOnly) :
    State.linked due Engine.flagged
      (State.endCalibration { s with packs := s.packs.order j.packs PackRecord.release, fsa := fsa }) := by
  refine h.endCalibration hj _ s.rmp fsa ?_ (h.sound_release _) ?_ (fun p hp => ?_) (fun p hp => ?_) front
  · exact h.ratio.congr rfl (PackFile.fault_order PackRecord.release_isOrder _ _)
  · exact PackFile.fdp_order PackRecord.release_isOrder.again fun p hp => h.calPacks_gearbox hj hp
  · rw [PackFile.get_order PackRecord.release_isOrder.again, if_pos hp]
    exact PackRecord.release_resting _
  · exact PackFile.get_order_not_mem PackRecord.release_isOrder.again hp

theorem State.leaveFill_endCalibration (shift : s.fsa.waiting.shift = false) (cal : s.fsa.waiting.cal = false)
    (ps : List PackId) : (s.leaveFill ps).endCalibration = s.endCalibration.leaveFill ps :=
  State.leaveFill_then shift cal ps (fun e => { e with pr := 0, nr := 0, state := .settled }) fun c =>
    { c with job := none }

/-- What fills for a calibration are its partners. -/
theorem State.linked.cal_fills (h : s.linked due F) (hj : s.cau.job = some j) (phase : j.phase = .filling) {p : PackId} :
    p ∈ s.fsa.fillList ↔ (p = j.partner1 ∧ j.fill1.isSome = true) ∨ (p = j.partner2 ∧ j.fill2.isSome = true) := by
  have holds := h.supply.calHolds.mp ⟨j, hj, phase⟩
  obtain ⟨-, running⟩ := h.cal
  obtain ⟨-, -, partners, -⟩ := running j hj
  obtain ⟨-, first, second, ne1, ne2, ne⟩ := PackId.partners_spec partners
  rw [← h.supply.fills]
  by_cases gear : p ∈ gearboxPacks
  · have places := (CalJob.places_filling phase).mp (h.gear.cal hj gear)
    by_cases hf : p = j.partner1
    · subst hf
      rw [if_neg ne1, if_pos rfl] at places
      split_ifs at places with timer <;> simp [places, timer, ne]
    by_cases hs : p = j.partner2
    · subst hs
      rw [if_neg ne2, if_neg hf, if_pos rfl] at places
      split_ifs at places with timer <;> simp [places, timer, hf]
    rw [if_neg hf, if_neg hs] at places
    simp only [hf, hs, false_and, or_self, iff_false]
    split_ifs at places
    · simp [places]
    · exact places.ne_fill
  · obtain rfl : p = .fdp := not_not.mp (mt mem_gearboxPacks.mpr gear)
    refine iff_of_false (mt h.front.fdp_fill.mp (by simp [holds])) ?_
    simp [first.symm, second.symm]

theorem State.linked.abortCal (h : s.linked due Engine.flagged) (c : AbortCause) :
    (s.abortCal c).linked due Engine.flagged := by
  unfold State.abortCal
  split
  · exact h
  next j hj =>
    have hold := h.calHold hj
    have shiftWaits : s.fsa.waiting.shift = false := by simpa [hold] using h.supply.shiftWaits
    have shiftHolds : s.fsa.holder ≠ some .shift := mt h.supply.shiftHolds.mpr (by simp [hold])
    simp only
    rw [State.offerCal, State.endCalibration_offer]
    refine State.linked.offer ?_ _ _
    by_cases wait : j.phase = .waiting
    · have holds : s.fsa.holder ≠ some .cal := mt h.supply.calHolds.mpr (by simp [hj, wait])
      rw [if_neg (by simp [wait]), if_pos wait]
      exact h.end_released hj (Supply.frontOnly_eq (f := { s.fsa with waiting := s.fsa.waiting.put .cal false })
        ⟨shiftWaits, shiftHolds⟩ ⟨rfl, holds⟩ h.supply.holds.mp).symm
    have calWaits : s.fsa.waiting.cal = false := by simpa [hj, wait] using h.supply.calWaits
    rw [if_neg wait]
    by_cases fill : j.phase = .filling
    · have holds := h.supply.calHolds.mp ⟨j, hj, fill⟩
      rw [if_pos fill]
      rw [State.leaveFill_endCalibration (s := s.orderPacks j.packs PackRecord.release) shiftWaits calWaits]
      refine State.linked.leaveFill_all Engine.flagged_grantStable (fun none => ?_) (fun p hp => ?_) ?_
      · cases (h.supply.holds.mpr none).symm.trans holds
      · have := (h.cal_fills hj fill).mp hp
        simp only [List.mem_cons, List.not_mem_nil, or_false]
        exact this.imp And.left And.left
      · exact h.end_released hj (Supply.frontOnly_of_holder shiftWaits calWaits (by simp [holds])).symm
    · rw [if_neg fill]
      exact h.end_released hj (h.frontOnly ⟨by simp [hold], by simp [hold]⟩ ⟨by simp [hj, wait], by simp [hj, fill]⟩).symm

/-- In STEPPING and SETTLING nobody but FRONT is at the arbiter. -/
theorem State.linked.frontOnly_of_job (h : s.linked due F) (hj : s.cau.job = some j)
    (phase : j.phase ≠ .waiting ∧ j.phase ≠ .filling) : s.fsa = s.fsa.frontOnly := by
  have hold := h.calHold hj
  exact (h.frontOnly ⟨by simp [hold], by simp [hold]⟩ ⟨by simp [hj, phase], by simp [hj, phase]⟩).symm

/-- The fill pressure a calibration writes (R125). -/
def PackRecord.withPf (pf : Nat) (p : PackRecord) : PackRecord := { p with active := { p.active with pf := pf } }

theorem PackRecord.sound.withPf {p : PackRecord} (h : p.sound) {pf : Nat} (low : 5 ≤ pf) (high : pf ≤ 80) :
    (p.withPf pf).sound := by
  obtain ⟨⟨-, -, rest⟩, staged, atLimit, cause⟩ := h
  exact ⟨⟨low, high, rest⟩, staged, atLimit, cause⟩

theorem State.linked.kiss (h : s.linked due Engine.flagged) (hj : s.cau.job = some j) (hp : j.phase = .stepping) :
    (s.kiss j).linked due Engine.flagged := by
  let after := max 5 (s.cau.stepPressure - 2)
  let released := s.packs.order j.packs PackRecord.release
  have within : after ≤ 80 := by
    obtain ⟨steps, -, -⟩ := h.unit
    simp only [after, CalUnit.stepPressure]
    omega
  have get (q : PackId) : (released.update (PackRecord.withPf after) j.pack).get q =
      if q = j.pack then (released.get q).withPf after else released.get q := PackFile.get_update _ _ _ _
  have state (q : PackId) : ((released.update (PackRecord.withPf after) j.pack).get q).state = (released.get q).state := by
    rw [get]
    split <;> rfl
  unfold State.kiss
  simp only
  rw [State.offerCal, State.endCalibration_offer]
  refine State.linked.offer ?_ _ _
  refine h.endCalibration hj (released.update (PackRecord.withPf after) j.pack) s.rmp s.fsa ?_ (fun q => ?_) ?_
    (fun q hq => ?_)
    (fun q hq => ?_) (h.frontOnly_of_job hj (by simp [hp]))
  · refine h.ratio.congr rfl fun q => ?_
    rw [state]
    exact PackFile.fault_order PackRecord.release_isOrder _ _ _
  · rw [get]
    split
    · exact (h.sound_release _ q).withPf (le_max_left _ _) within
    · exact h.sound_release _ q
  · have fdp : PackId.fdp ≠ j.pack := fun e =>
      fdp_not_gearbox (e ▸ h.calPacks_gearbox hj (p := j.pack) List.mem_cons_self)
    refine (get .fdp).trans ?_
    rw [if_neg fdp]
    exact PackFile.fdp_order PackRecord.release_isOrder.again fun p hp => h.calPacks_gearbox hj hp
  · rw [PackRecord.resting, state, PackFile.get_order PackRecord.release_isOrder.again, if_pos hq]
    exact PackRecord.release_resting _
  · rw [get, if_neg fun e : q = j.pack => hq (e ▸ List.mem_cons_self)]
    exact PackFile.get_order_not_mem PackRecord.release_isOrder.again hq

/-- The packs after NO_KISS: the pack under test in FAULT, its partners released (R125). -/
def PackFile.noKiss (f : PackFile) (j : CalJob) : PackFile :=
  (f.order [j.pack] PackRecord.calFault).order [j.partner1, j.partner2] PackRecord.release

theorem PackFile.get_noKiss (f : PackFile) (j : CalJob) (p : PackId) :
    (f.noKiss j).get p =
      let q := if p ∈ [j.pack] then (f.get p).calFault else f.get p
      if p ∈ [j.partner1, j.partner2] then q.release else q := by
  rw [PackFile.noKiss, PackFile.get_order PackRecord.release_isOrder.again, PackFile.get_order PackRecord.calFault_again]

theorem State.linked.noKiss (h : s.linked due Engine.flagged) (hj : s.cau.job = some j) (hp : j.phase = .stepping) :
    (s.noKiss j).linked due Engine.flagged := by
  have gear {p : PackId} (hq : p ∈ j.packs) := h.calPacks_gearbox hj hq
  have released := PackFile.fault_order PackRecord.release_isOrder (s.packs.order [j.pack] PackRecord.calFault)
    [j.partner1, j.partner2]
  unfold State.noKiss
  simp only
  rw [State.offerCal, State.endCalibration_offer]
  refine State.linked.offer ?_ _ _
  refine h.endCalibration hj (s.packs.noKiss j) _ s.fsa ?_ ?_ ?_ (fun q hq => ?_) (fun q hq => ?_)
    (h.frontOnly_of_job hj (by simp [hp]))
  · have reformed : State.ratioLaw (State.reform (s.orderPacks [j.pack] PackRecord.calFault) fun e => e.uses [j.pack]) := by
      refine h.ratio.reform rfl fun e _ other => ⟨rfl, fun p hq => ?_⟩
      change ((s.packs.order [j.pack] PackRecord.calFault).get p).state = .fault ↔ _
      rw [PackFile.get_order PackRecord.calFault_again, if_neg (RatioEntry.uses_false other hq)]
    exact reformed.congr rfl released
  · exact PackFile.sound_order (PackFile.sound_order h.packs PackRecord.calFault_again (fun _ hp => hp.calFault) _)
      PackRecord.release_isOrder.again (fun _ hp => hp.release) _
  · refine (PackFile.fdp_order PackRecord.release_isOrder.again fun p hq => gear (List.mem_cons_of_mem _ hq)).trans ?_
    exact PackFile.fdp_order PackRecord.calFault_again fun p hq => gear (by simp_all [CalJob.packs])
  · have places := (CalJob.places_stepping hp).mp (h.gear.cal hj (gear hq))
    rw [PackFile.get_noKiss]
    simp only
    split
    · exact PackRecord.release_resting _
    next other =>
      obtain rfl : q = j.pack := (List.mem_cons.mp hq).resolve_right other
      rw [if_pos rfl] at places
      rw [if_pos List.mem_cons_self, PackRecord.calFault_of_calStep places]
      exact .inr rfl
  · rw [PackFile.get_noKiss]
    simp only [CalJob.packs, List.mem_cons, List.not_mem_nil, or_false, not_or] at hq
    simp [hq]

/-! ### The tests on a running calibration -/

theorem State.linked.calPair (h : s.linked due Engine.flagged) (neValid : Bool) :
    (s.calPair neValid).linked due Engine.flagged := by
  unfold State.calPair
  split
  · exact h
  next j hj =>
    split_ifs with _ _ kissed
    · exact h.abortCal _
    · exact h.abortCal _
    · simp only [Bool.and_eq_true, decide_eq_true_eq] at kissed
      exact h.kiss hj kissed.1.1
    · exact h.abortCal _
    · exact h.abortCal _
    · exact h

theorem State.linked.calGround (h : s.linked due Engine.flagged) : s.calGround.linked due Engine.flagged := by
  unfold State.calGround
  split
  · exact h
  · split_ifs
    · exact h.abortCal _
    · exact h.abortCal _
    · exact h

theorem State.linked.chargeAtCal (h : s.linked due Engine.flagged) : s.chargeAtCal.linked due Engine.flagged := by
  unfold State.chargeAtCal
  split
  · exact h.abortCal _
  · exact h

/-! ### The phases of a calibration -/

theorem State.linked.nextStep (h : s.linked due Engine.flagged) (hj : s.cau.job = some j) (hp : j.phase = .stepping) :
    (s.nextStep j).linked due Engine.flagged := by
  unfold State.nextStep
  split
  next more =>
    obtain ⟨-, interval⟩ := h.unit
    refine h.cal_step hj rfl ⟨rfl, rfl, rfl⟩ (by simp [hp]) (fun _ => Iff.rfl) h.packs rfl ⟨rfl, rfl, rfl, rfl, rfl, rfl⟩
      ⟨rfl, Iff.rfl⟩ (fun id hid => h.gear.cal hj hid) ?_ ⟨more, interval⟩
    obtain ⟨fills, holds, shiftWaits, shiftHolds, calWaits, calHolds⟩ := h.supply
    exact ⟨fills, holds, shiftWaits, shiftHolds, by simpa [hj] using calWaits, by simpa [hj] using calHolds⟩
  · exact h.noKiss hj hp

theorem State.linked.startStepping (h : s.linked due Engine.flagged) (hj : s.cau.job = some j)
    (hp : j.phase = .settling) : (s.startStepping j).linked due Engine.flagged := by
  obtain ⟨-, running⟩ := h.cal
  obtain ⟨-, -, partners, -⟩ := running j hj
  obtain ⟨pack, -, -, ne1, ne2, -⟩ := PackId.partners_spec partners
  obtain ⟨-, interval⟩ := h.unit
  have again := PackRecord.toCalStep_isOrder.again
  have rest : (s.packs.get j.pack).state = .released := by
    simpa only [if_pos] using (CalJob.places_settling hp).mp (h.gear.cal hj (mem_gearboxPacks.mpr pack))
  have fill (p : PackId) : ((s.packs.order [j.pack] PackRecord.toCalStep).get p).state = .fill ↔
      (s.packs.get p).state = .fill := by
    rw [PackFile.get_order again]
    split
    next hq =>
      obtain rfl := List.mem_singleton.mp hq
      simp [PackRecord.toCalStep_of_released rest, rest]
    · rfl
  unfold State.startStepping
  refine h.cal_step hj rfl ⟨rfl, rfl, rfl⟩ nofun (PackFile.fault_order PackRecord.toCalStep_isOrder _ _)
    (PackFile.sound_order h.packs again (fun _ hp => hp.toCalStep) _)
    (PackFile.fdp_order again fun p hq => mem_gearboxPacks.mpr (List.mem_singleton.mp hq ▸ pack))
    ⟨rfl, rfl, rfl, rfl, rfl, rfl⟩ ⟨rfl, Iff.rfl⟩ (fun id hid => (CalJob.places_stepping rfl).mpr ?_) ?_
    ⟨Nat.zero_le _, interval⟩
  · have places := (CalJob.places_settling hp).mp (h.gear.cal hj hid)
    change if id = j.pack then ((s.packs.order [j.pack] PackRecord.toCalStep).get id).state = .calStep
      else if id = j.partner1 ∨ id = j.partner2 then ((s.packs.order [j.pack] PackRecord.toCalStep).get id).state = .locked
      else ((s.packs.order [j.pack] PackRecord.toCalStep).get id).resting
    rw [PackFile.get_order again]
    by_cases tested : id = j.pack
    · rw [if_pos tested, if_pos (List.mem_singleton.mpr tested), tested, PackRecord.toCalStep_of_released rest]
    · rw [if_neg tested] at places ⊢
      rwa [if_neg (mt List.mem_singleton.mp tested)]
  · obtain ⟨fills, holds, shiftWaits, shiftHolds, calWaits, calHolds⟩ := h.supply
    exact ⟨fun p => (fill p).trans (fills p), holds, shiftWaits, shiftHolds, by simpa [hj, hp] using calWaits,
      by simpa [hj, hp] using calHolds⟩

/-- The fill timer of a partner stopped. -/
def CalJob.stopFill (j : CalJob) (p : Partner) : CalJob :=
  match p with
  | .first => { j with fill1 := none }
  | .second => { j with fill2 := none }

/-- A partner. -/
def CalJob.partner (j : CalJob) (p : Partner) : PackId :=
  match p with
  | .first => j.partner1
  | .second => j.partner2

/-- A calibration once a partner has locked: on to SETTLING when the other one has too (R123). -/
def CalJob.locked (j : CalJob) (p : Partner) : CalJob :=
  let j := j.stopFill p
  if j.fill1.isNone && j.fill2.isNone then { j with phase := .settling, settle := some 500 } else j

theorem State.partnerFilled_eq (s : State) (j : CalJob) (p : Partner) :
    s.partnerFilled j p =
      State.leaveFill { s with packs := s.packs.order [j.partner p] PackRecord.fillToLocked
                               cau := { s.cau with job := some (j.locked p) } } [j.partner p] := by
  cases p <;> rfl

/-- The partners still filling. -/
def CalJob.fills (j : CalJob) (q : PackId) : Prop :=
  (q = j.partner1 ∧ j.fill1.isSome = true) ∨ (q = j.partner2 ∧ j.fill2.isSome = true)

theorem CalJob.stopFill_fills (ne : j.partner1 ≠ j.partner2) (p : Partner) (q : PackId) :
    (j.stopFill p).fills q ↔ j.fills q ∧ q ≠ j.partner p := by
  cases p
  · simp only [fills, stopFill, partner]
    grind
  · simp only [fills, stopFill, partner]
    grind

theorem CalJob.not_fills_of_stopped {p : Partner}
    (h : ((j.stopFill p).fill1.isNone && (j.stopFill p).fill2.isNone) = true)
    (q : PackId) : ¬ (j.stopFill p).fills q := by
  rw [Bool.and_eq_true, Option.isNone_iff_eq_none, Option.isNone_iff_eq_none] at h
  simp [CalJob.fills, h]

/-- While a partner still fills, FILLING goes on. -/
theorem CalJob.locked_of_fills {p : Partner} {q : PackId} (h : (j.stopFill p).fills q) : j.locked p = j.stopFill p :=
  if_neg fun stopped => CalJob.not_fills_of_stopped stopped q h

/-- With none filling, SETTLING begins (R123). -/
theorem CalJob.locked_of_not_fills {p : Partner} (h : ∀ q, ¬ (j.stopFill p).fills q) :
    j.locked p = { j.stopFill p with phase := .settling, settle := some 500 } := by
  refine if_pos ?_
  have first := h (j.stopFill p).partner1
  have second := h (j.stopFill p).partner2
  simp only [CalJob.fills, true_and, not_or, Bool.not_eq_true, Option.isSome_eq_false_iff] at first second
  rw [Bool.and_eq_true]
  exact ⟨first.1, second.2⟩

theorem CalJob.stopFill_same (j : CalJob) (p : Partner) :
    (j.stopFill p).pack = j.pack ∧ (j.stopFill p).partner1 = j.partner1 ∧ (j.stopFill p).partner2 = j.partner2 ∧
      (j.stopFill p).phase = j.phase := by
  cases p <;> exact ⟨rfl, rfl, rfl, rfl⟩

/-- A calibration has a pack where FILLING and SETTLING have it: a partner in FILL or LOCKED. -/
def CalJob.seats (j : CalJob) (filling : Prop) (id : PackId) (p : PackRecord) : Prop :=
  if id = j.pack then p.state = .released
  else if id = j.partner1 ∨ id = j.partner2 then (filling → p.state = .fill) ∧ (¬ filling → p.state = .locked)
  else p.resting

theorem CalJob.stopFill_seats (j : CalJob) (x : Partner) {filling : Prop} {id : PackId} {p : PackRecord} :
    (j.stopFill x).seats filling id p ↔ j.seats filling id p := by
  cases x <;> exact Iff.rfl

theorem CalJob.places_iff_of_filling (ne : j.partner1 ≠ j.partner2) (hp : j.phase = .filling) {id : PackId}
    {p : PackRecord} : j.places id p ↔ j.seats (j.fills id) id p := by
  rw [CalJob.places_filling hp, CalJob.seats, CalJob.fills]
  by_cases hf : id = j.partner1
  · subst hf
    cases j.fill1 <;> simp [ne]
  · by_cases hs : id = j.partner2
    · subst hs
      cases j.fill2 <;> simp [hf]
    · simp [hf, hs]

theorem CalJob.places_iff_of_settling (hp : j.phase = .settling) {id : PackId} {p : PackRecord} :
    j.places id p ↔ j.seats False id p := by
  simp [CalJob.places_settling hp, CalJob.seats]

/-- A partner in FILL, and no other pack, locked. -/
theorem CalJob.seats.lock {x : Partner} {id : PackId} {p : PackRecord} (h : j.seats (j.fills id) id p)
    (fill : j.fills (j.partner x)) (pack : j.partner x ≠ j.pack) :
    j.seats (j.fills id ∧ id ≠ j.partner x) id (if id ∈ [j.partner x] then p.fillToLocked else p) := by
  by_cases hx : id = j.partner x
  · subst hx
    have partner : j.partner x = j.partner1 ∨ j.partner x = j.partner2 := by cases x <;> simp [CalJob.partner]
    rw [CalJob.seats, if_neg pack, if_pos partner] at h ⊢
    simp [PackRecord.fillToLocked_of_fill (h.1 fill)]
  · simpa [hx] using h

theorem State.linked.partnerFilled (h : s.linked due Engine.flagged) (hj : s.cau.job = some j) (hp : j.phase = .filling)
    {x : Partner} (timer : (j.fillTimer x).isSome = true) : (s.partnerFilled j x).linked due Engine.flagged := by
  obtain ⟨-, running⟩ := h.cal
  obtain ⟨-, -, partners, -⟩ := running j hj
  obtain ⟨pack, first, second, ne1, ne2, ne⟩ := PackId.partners_spec partners
  have holds := h.supply.calHolds.mp ⟨j, hj, hp⟩
  have again := PackRecord.fillToLocked_isOrder.again
  have listed {q : PackId} : q ∈ s.fsa.fillList ↔ j.fills q := h.cal_fills hj hp
  have filling : j.fills (j.partner x) := by
    cases x
    · exact .inl ⟨rfl, timer⟩
    · exact .inr ⟨rfl, timer⟩
  have remain {q : PackId} :
      q ∈ s.fsa.fillList.filter (fun p => !List.contains [j.partner x] p) ↔ (j.stopFill x).fills q := by
    simp [CalJob.stopFill_fills ne, listed]
  have seats (id : PackId) (hid : id ∈ gearboxPacks) : j.seats ((j.stopFill x).fills id) id
      ((s.packs.order [j.partner x] PackRecord.fillToLocked).get id) := by
    rw [PackFile.get_order again, propext (CalJob.stopFill_fills ne x id)]
    refine CalJob.seats.lock ((CalJob.places_iff_of_filling ne hp).mp (h.gear.cal hj hid)) filling ?_
    cases x
    · exact ne1
    · exact ne2
  have gear (q : PackId) (hq : q ∈ [j.partner x]) : q ∈ gearboxPacks := by
    obtain rfl := List.mem_singleton.mp hq
    cases x
    · exact mem_gearboxPacks.mpr first
    · exact mem_gearboxPacks.mpr second
  have out {p : PackId} : ((s.packs.order [j.partner x] PackRecord.fillToLocked).get p).state = .fill ↔
      (j.stopFill x).fills p := by
    rw [PackFile.get_order again, CalJob.stopFill_fills ne, ← listed, ← h.supply.fills]
    by_cases hq : p = j.partner x
    · subst hq
      simp [PackRecord.fillToLocked_of_fill ((h.supply.fills _).mpr (listed.mpr filling))]
    · simp [hq]
  have hold := h.calHold hj
  have calWaits : s.fsa.waiting.cal = false := by simpa [hj, hp] using h.supply.calWaits
  obtain ⟨samePack, sameFirst, sameSecond, samePhase⟩ := j.stopFill_same x
  have fault := PackFile.fault_order PackRecord.fillToLocked_isOrder s.packs [j.partner x]
  have sound := PackFile.sound_order h.packs again (fun _ hp => hp.fillToLocked) [j.partner x]
  have fdp := PackFile.fdp_order again (f := s.packs) gear
  have noShift : s.fsa.holder ≠ some .shift := mt h.supply.shiftHolds.mpr (by simp [hold])
  rw [State.partnerFilled_eq]
  refine State.linked.leaveFill Engine.flagged_grantStable (List.ne_nil_of_mem (listed.mpr filling)) (fun some => ?_)
    fun none => ?_
  · obtain ⟨q, hq⟩ := List.exists_mem_of_ne_nil _ some
    have goesOn := CalJob.locked_of_fills (remain.mp hq)
    refine h.cal_step hj (congrArg Option.some goesOn) ⟨samePack, sameFirst, sameSecond⟩ (fun _ => ?_) fault sound fdp
      ⟨rfl, rfl, rfl, rfl, rfl, rfl⟩ ⟨rfl, Iff.rfl⟩ (fun id hid => ?_) ?_ h.unit
    · exact (remain.mp hq).imp And.right And.right
    · refine (CalJob.places_iff_of_filling (by rwa [sameFirst, sameSecond]) (samePhase.trans hp)).mpr ?_
      exact (j.stopFill_seats x).mpr (seats id hid)
    · obtain ⟨-, -, shiftWaits, shiftHolds, -, -⟩ := h.supply
      exact ⟨fun p => out.trans remain.symm, iff_of_false (by simp [holds]) some, shiftWaits, shiftHolds,
        by simp [goesOn, samePhase, hp, calWaits], by simp [goesOn, samePhase, hp, holds]⟩
  · have noneFills (q : PackId) : ¬ (j.stopFill x).fills q := fun hq => by
      have := remain.mpr hq
      rw [none] at this
      cases this
    refine h.cal_step hj (congrArg Option.some (CalJob.locked_of_not_fills noneFills)) ⟨samePack, sameFirst, sameSecond⟩ nofun
      fault sound fdp
      ⟨rfl, rfl, rfl, rfl, rfl, rfl⟩ ⟨rfl, by simp [holds]⟩ (fun id hid => ?_) ?_ h.unit
    · refine (CalJob.places_iff_of_settling rfl).mpr ((j.stopFill_seats x).mpr ?_)
      simpa [noneFills] using seats id hid
    · obtain ⟨-, -, shiftWaits, -, -, -⟩ := h.supply
      exact ⟨fun p => out.trans (iff_of_false (noneFills p) List.not_mem_nil), iff_of_true rfl rfl, shiftWaits,
        iff_of_false (by simp [hold]) nofun, by simp [CalJob.locked_of_not_fills noneFills, calWaits],
        by simp [CalJob.locked_of_not_fills noneFills]⟩

/-! ### A calibration begun -/

/-- A calibration begun in neutral waits for the supply with its packs RELEASED (R122). -/
theorem State.linked.startCal (h : s.linked due Engine.flagged) (settled : s.she.state = .settled) (pr : s.she.pr = 0)
    {pack p1 p2 : PackId} (partners : pack.partners = some (p1, p2))
    (sound : ∀ p ∈ [pack, p1, p2], (s.packs.get p).state ≠ .fault) {interval : Nat} (low : 50 ≤ interval)
    (high : interval ≤ 500) : (s.startCal pack p1 p2 interval).linked due Engine.flagged := by
  have rest : s.she.state.atRest := .inl settled
  have noRecord := h.no_record rest.not_inFlight
  have noJob := h.no_job rest.ne.2.2.2.2
  have calWaits : s.fsa.waiting.cal = false := by simpa [noJob] using h.supply.calWaits
  have calHolds : s.fsa.holder ≠ some .cal := by simpa [noJob] using h.supply.calHolds
  let job : CalJob :=
    { phase := .waiting, pack := pack, partner1 := p1, partner2 := p2, fill1 := none, fill2 := none,
      settle := none, step := none }
  have waiting : State.linked due Engine.flagged (State.requestSupply
      { s with cau := { s.cau with job := some job, interval := interval, stepCount := 0 }
               she := { s.she with state := .calHold, nr := 0 } } .cal) := by
    refine State.linked.requestSupply Engine.flagged_grantStable calWaits calHolds ?_
    constructor
    case ratio => exact h.ratio
    case present => exact fun hp => absurd pr hp
    case inFlight => exact congrArg Option.isSome noRecord
    case target => exact fun hn => absurd rfl hn
    case route => exact fun r hr => nomatch noRecord.symm.trans hr
    case cal => exact State.calLaw_of_some rfl rfl pr rfl partners nofun
    case gear =>
      refine State.gearLaw_of_cal rfl noRecord fun id hid => (CalJob.places_waiting rfl).mpr ?_
      have none : s.packsOf s.she.pr = [] := by rw [pr, State.packsOf, h.ratio.neutral]
      have places : (s.packs.get id).resting := by
        simpa [State.restPlaces, none] using h.gear.rest noJob noRecord hid
      split
      next used => exact places.resolve_right (sound id used)
      · exact places
    case supply =>
      obtain ⟨fills, holds, shiftWaits, shiftHolds, -, -⟩ := h.supply
      rw [settled] at shiftWaits shiftHolds
      exact ⟨fills, holds, iff_of_false nofun (mt shiftWaits.mpr nofun), iff_of_false nofun (mt shiftHolds.mpr nofun),
        by simp [State.waitSupply, Waiting.put, job], by simp [State.waitSupply, job, calHolds]⟩
    case front => exact h.front
    case latch => exact h.latch
    case braking => exact h.braking
    case packs => exact h.packs
    case unit => exact ⟨Nat.zero_le _, low, high⟩
    case engine =>
      obtain ⟨latched, shifting⟩ := (Engine.flagged_iff_of_rest rest).mp h.engine
      exact ⟨by simp [State.waitSupply, latched], by simp [State.waitSupply, shifting]⟩
  unfold State.startCal
  simp only
  split
  · exact waiting.abortCal _
  · exact waiting

theorem actCalibrate_keepsDriven (pack : Byte) (interval : Half) (s : State) :
    (actCalibrate pack interval s).keepsDriven s := by
  unfold actCalibrate
  split
  · trivial
  next p a b named =>
    have partners : p.partners = some (a, b) := by
      unfold State.calNamed at named
      split at named
      · cases named
      · split at named
        · cases named
        next hp =>
          cases named
          exact hp
    split
    · trivial
    next check =>
      unfold State.calCheck at check
      split_ifs at check with busy interlock fault
      simp only [Bool.or_eq_true, decide_eq_true_eq, not_or, not_not, PackRecord.faulted] at busy fault
      obtain ⟨⟨-, settled⟩, pr⟩ := busy
      refine fun h => h.startCal settled pr partners ?_ ?_ ?_
      · simp only [List.mem_cons, List.not_mem_nil, or_false]
        rintro q (rfl | rfl | rfl)
        · exact fault.1.1
        · exact fault.1.2
        · exact fault.2
      all_goals
        rw [clamp_eq (by decide)]
        omega

end

end Sys2Proof.Machine

namespace Sys2Proof.Machine

/-! ## Entries written, cleared and formed again -/

/-! ### An entry inserted -/

/-- The entries stand in index order (R47). -/
def indexOrder (l : List RatioEntry) : Prop := l.Pairwise fun a b => a.index < b.index

theorem State.ratioLaw.indexOrder {s : State} (h : s.ratioLaw) : indexOrder s.rmp.entries := List.pairwise_map.mp h.1

theorem mem_insertEntry {e x : RatioEntry} {l : List RatioEntry} (h : indexOrder l) :
    x ∈ insertEntry e l ↔ x = e ∨ (x ∈ l ∧ x.index ≠ e.index) := by
  induction l with
  | nil => simp [insertEntry]
  | cons y rest ih =>
    obtain ⟨first, later⟩ := List.pairwise_cons.mp h
    unfold insertEntry
    split_ifs with before at_
    · have apart (z : RatioEntry) (hz : z ∈ y :: rest) : z.index ≠ e.index := by
        rcases List.mem_cons.mp hz with rfl | hz
        · omega
        · have := first z hz
          omega
      rw [List.mem_cons, and_iff_left_of_imp (apart x)]
    · have apart (z : RatioEntry) (hz : z ∈ rest) : z.index ≠ e.index := by
        have := first z hz
        omega
      rw [List.mem_cons, List.mem_cons]
      constructor
      · exact Or.imp_right fun hx => ⟨.inr hx, apart x hx⟩
      · rintro (rfl | ⟨rfl | hx, ne⟩)
        · exact .inl rfl
        · exact absurd at_.symm ne
        · exact .inr hx
    · rw [List.mem_cons, ih later, List.mem_cons]
      constructor
      · rintro (rfl | rfl | ⟨hx, ne⟩)
        · exact .inr ⟨.inl rfl, Ne.symm at_⟩
        · exact .inl rfl
        · exact .inr ⟨.inr hx, ne⟩
      · rintro (rfl | ⟨rfl | hx, ne⟩)
        · exact .inr (.inl rfl)
        · exact .inl rfl
        · exact .inr (.inr ⟨hx, ne⟩)

theorem insertEntry_indexOrder {e : RatioEntry} {l : List RatioEntry} (h : indexOrder l) :
    indexOrder (insertEntry e l) := by
  induction l with
  | nil => exact List.pairwise_singleton _ _
  | cons y rest ih =>
    obtain ⟨first, later⟩ := List.pairwise_cons.mp h
    unfold insertEntry
    split_ifs with before at_
    · refine List.pairwise_cons.mpr ⟨fun z hz => ?_, h⟩
      rcases List.mem_cons.mp hz with rfl | hz
      · exact before
      · exact before.trans (first z hz)
    · exact List.pairwise_cons.mpr ⟨fun z hz => at_ ▸ first z hz, later⟩
    · refine List.pairwise_cons.mpr ⟨fun z hz => ?_, ih later⟩
      rcases (mem_insertEntry later).mp hz with rfl | ⟨hz, -⟩
      · omega
      · exact first z hz

/-! ### The neighbours of an entry -/

/-- The entries of an entry's direction below it. -/
def RatioMap.below (m : RatioMap) (e : RatioEntry) : List RatioEntry :=
  (m.entries.filter fun x => x.direction = e.direction && x.index ≠ e.index).filter fun x => x.index < e.index

/-- The entries of an entry's direction above it. -/
def RatioMap.above (m : RatioMap) (e : RatioEntry) : List RatioEntry :=
  (m.entries.filter fun x => x.direction = e.direction && x.index ≠ e.index).filter fun x => e.index < x.index

section
variable {m : RatioMap} {e x z : RatioEntry}

theorem RatioMap.mem_below :
    x ∈ m.below e ↔ (x ∈ m.entries ∧ x.direction = e.direction ∧ x.index ≠ e.index) ∧ x.index < e.index := by
  simp only [RatioMap.below, List.mem_filter, Bool.and_eq_true, decide_eq_true_eq]

theorem RatioMap.mem_above :
    x ∈ m.above e ↔ (x ∈ m.entries ∧ x.direction = e.direction ∧ x.index ≠ e.index) ∧ e.index < x.index := by
  simp only [RatioMap.above, List.mem_filter, Bool.and_eq_true, decide_eq_true_eq]

/-- The ordering check is against the last entry below and the first above (R50). -/
theorem RatioMap.inOrder_iff :
    m.inOrder e = true ↔
      (∀ z, (m.below e).getLast? = some z → z.rn < e.rn) ∧ ∀ z, (m.above e).head? = some z → e.rn < z.rn := by
  change ((match (m.below e).getLast? with | none => true | some x => decide (x.rn < e.rn)) &&
    (match (m.above e).head? with | none => true | some x => decide (e.rn < x.rn))) = true ↔ _
  cases (m.below e).getLast? <;> cases (m.above e).head? <;> simp

/-- The last entry below is the nearest. -/
theorem RatioMap.below_last (h : indexOrder m.entries) (hz : (m.below e).getLast? = some z) :
    z ∈ m.below e ∧ ∀ y ∈ m.below e, y = z ∨ y.index < z.index := by
  have order : indexOrder (m.below e) := (h.filter _).filter _
  obtain ⟨l, hl⟩ := List.getLast?_eq_some_iff.mp hz
  rw [hl] at order ⊢
  obtain ⟨-, -, last⟩ := List.pairwise_append.mp order
  refine ⟨by simp, fun y hy => ?_⟩
  rcases List.mem_append.mp hy with hy | hy
  · exact .inr (last y hy z (by simp))
  · exact .inl (List.mem_singleton.mp hy)

/-- The first entry above is the nearest. -/
theorem RatioMap.above_first (h : indexOrder m.entries) (hz : (m.above e).head? = some z) :
    z ∈ m.above e ∧ ∀ y ∈ m.above e, y = z ∨ z.index < y.index := by
  have order : indexOrder (m.above e) := (h.filter _).filter _
  obtain ⟨l, hl⟩ := List.head?_eq_some_iff.mp hz
  rw [hl] at order ⊢
  obtain ⟨first, -⟩ := List.pairwise_cons.mp order
  refine ⟨by simp, fun y hy => ?_⟩
  rcases List.mem_cons.mp hy with rfl | hy
  · exact .inl rfl
  · exact .inr (first y hy)

end

/-- An entry in order with its nearest neighbours is in order with all of its direction (R49, R50). -/
theorem State.ratioLaw.inOrder_all {s : State} (h : s.ratioLaw) {e : RatioEntry} (he : s.rmp.inOrder e = true)
    {x : RatioEntry} (hx : x ∈ s.rmp.entries) (hd : x.direction = e.direction) :
    (x.index < e.index → x.rn < e.rn) ∧ (e.index < x.index → e.rn < x.rn) := by
  obtain ⟨below, above⟩ := RatioMap.inOrder_iff.mp he
  have order := h.indexOrder
  obtain ⟨-, -, rising, -⟩ := h
  constructor
  · intro lt
    have mem : x ∈ s.rmp.below e := RatioMap.mem_below.mpr ⟨⟨hx, hd, by omega⟩, lt⟩
    obtain ⟨z, hz⟩ := Option.isSome_iff_exists.mp (List.getLast?_isSome.mpr (List.ne_nil_of_mem mem))
    obtain ⟨hzm, last⟩ := RatioMap.below_last order hz
    obtain ⟨⟨hzs, hzd, -⟩, -⟩ := RatioMap.mem_below.mp hzm
    rcases last x mem with rfl | nearer
    · exact below _ hz
    · exact (rising x hx z hzs (hd.trans hzd.symm) nearer).trans (below z hz)
  · intro lt
    have mem : x ∈ s.rmp.above e := RatioMap.mem_above.mpr ⟨⟨hx, hd, by omega⟩, lt⟩
    obtain ⟨z, hz⟩ := Option.isSome_iff_exists.mp (List.isSome_head?.mpr (List.ne_nil_of_mem mem))
    obtain ⟨hzm, first⟩ := RatioMap.above_first order hz
    obtain ⟨⟨hzs, hzd, -⟩, -⟩ := RatioMap.mem_above.mp hzm
    rcases first x mem with rfl | nearer
    · exact above _ hz
    · exact (above z hz).trans (rising z hzs x hx (hzd.trans hd.symm) nearer)

/-! ### The map and the packs under a request -/

section
variable {due : Prop} {F : Engine → Prop} {s t : State}

/-- The ratios the engine is at: PR, its target and the destination of the shift in flight (R49). -/
def State.concerns (s : State) (i : Nat) : Prop :=
  i = s.she.pr ∨ i = s.she.nr ∨ ∃ r, s.she.record = some r ∧ i = r.dest

/-- A pack keeps its state, or has its fault cleared. -/
def PackRecord.heals (q p : PackRecord) : Prop :=
  q.state = p.state ∨ (p.state = .fault ∧ q.state = .released)

theorem PackRecord.heals.resting {p q : PackRecord} (h : q.heals p) (hp : p.resting) : q.resting := by
  unfold heals PackRecord.resting at *
  grind

theorem PackRecord.heals.state_iff {p q : PackRecord} (h : q.heals p) {st : PackState} (hf : st ≠ .fault)
    (hr : st ≠ .released) : q.state = st ↔ p.state = st := by
  unfold heals at h
  grind

theorem PackRecord.heals.released {p q : PackRecord} (h : q.heals p) (hp : p.state = .released) :
    q.state = .released := by
  unfold heals at h
  grind

theorem CalJob.places.heals {j : CalJob} {id : PackId} {p q : PackRecord} (h : j.places id p) (hq : q.heals p) :
    j.places id q := by
  unfold CalJob.places PackRecord.resting at *
  unfold PackRecord.heals at hq
  grind

theorem State.shiftPlaces.heals {r : ShiftRecord} {id : PackId} {p q : PackRecord} (h : s.shiftPlaces r id p)
    (hq : q.heals p) : s.shiftPlaces r id q := by
  rcases hq with same | ⟨bad, free⟩
  · exact h.congr ⟨rfl, rfl, rfl, rfl, rfl⟩ rfl rfl rfl same
  · simp only [State.shiftPlaces, PackRecord.resting, bad, free] at h ⊢
    cases state : s.she.state <;> rw [state] at h <;> grind

theorem State.restPlaces.heals {id : PackId} {p q : PackRecord} (h : s.restPlaces id p) (hq : q.heals p) :
    s.restPlaces id q := by
  unfold State.restPlaces PackRecord.resting at *
  unfold PackRecord.heals at hq
  grind

theorem State.packsOf_eq (s : State) (i : Nat) : s.packsOf i = ((s.rmp.entry i).map RatioEntry.packs).getD [] := by
  unfold State.packsOf
  cases s.rmp.entry i <;> rfl

theorem State.engageable_iff (i : Nat) :
    s.engageable i ↔ ∃ ps, (s.rmp.entry i).map RatioEntry.packs = some ps ∧ ∀ p ∈ ps, (s.packs.get p).state ≠ .fault := by
  simp [State.engageable]

/-- The map may change where the engine is at no ratio of it, and packs in FAULT be released. -/
theorem State.linked.remap (h : s.linked due F) {m : RatioMap} {f : PackFile}
    (packs : ∀ p, (f.get p).heals (s.packs.get p)) (sound : ∀ p, (f.get p).sound)
    (ratio : State.ratioLaw { s with rmp := m, packs := f })
    (entries : ∀ i, s.concerns i → (m.entry i).map RatioEntry.packs = (s.rmp.entry i).map RatioEntry.packs) :
    State.linked due F { s with rmp := m, packs := f } := by
  have fault (p : PackId) (hp : (f.get p).state = .fault) : (s.packs.get p).state = .fault := by
    have := packs p
    unfold PackRecord.heals at this
    grind
  have engage {i : Nat} (hc : s.concerns i) (hi : s.engageable i) :
      State.engageable { s with rmp := m, packs := f } i := by
    rw [State.engageable_iff] at hi ⊢
    obtain ⟨ps, he, hp⟩ := hi
    exact ⟨ps, (entries i hc).trans he, fun p hm bad => hp p hm (fault p bad)⟩
  have packsOf {i : Nat} (hc : s.concerns i) : State.packsOf { s with rmp := m, packs := f } i = s.packsOf i := by
    rw [State.packsOf_eq, State.packsOf_eq]
    exact congrArg (Option.getD · []) (entries i hc)
  have present : s.concerns s.she.pr := .inl rfl
  have dest {r : ShiftRecord} (hr : s.she.record = some r) : s.concerns r.dest := .inr (.inr ⟨r, hr, rfl⟩)
  have origin {r : ShiftRecord} (hr : s.she.record = some r) : s.concerns r.origin := by
    rw [(h.route r hr).origin]
    exact present
  constructor
  case ratio => exact ratio
  case present => exact fun hp => engage present (h.present hp)
  case inFlight => exact h.inFlight
  case target =>
    intro hn
    have := h.target hn
    rw [← Option.isSome_map (f := RatioEntry.packs)] at this ⊢
    rwa [entries _ (.inr (.inl rfl))]
  case route =>
    exact fun r hr => (h.route r hr).congr ⟨rfl, rfl, rfl, rfl, rfl⟩ rfl (packsOf (origin hr)) (packsOf (dest hr))
      (engage (dest hr))
  case cal => exact h.cal
  case gear =>
    intro id hid
    obtain ⟨cal, shift, rest⟩ := h.gear id hid
    refine ⟨fun j hj => (cal j hj).heals (packs id), fun r hr => ?_, fun hj hr => ?_⟩
    · exact ((shift r hr).heals (packs id)).congr ⟨rfl, rfl, rfl, rfl, rfl⟩ rfl (packsOf (origin hr))
        (packsOf (dest hr)) rfl
    · exact State.restPlaces.congr (State.restPlaces.heals (rest hj hr) (packs id)) (packsOf present) rfl
  case supply =>
    obtain ⟨fills, holds, shiftWaits, shiftHolds, calWaits, calHolds⟩ := h.supply
    exact ⟨fun p => ((packs p).state_iff (st := .fill) nofun nofun).trans (fills p), holds, shiftWaits,
      shiftHolds, calWaits, calHolds⟩
  case front =>
    refine h.front.congr rfl ((packs .fdp).resolve_right fun bad => h.front.fdp_no_fault bad.1) rfl Iff.rfl
  case latch => exact h.latch
  case braking => exact h.braking
  case packs => exact sound
  case unit => exact h.unit
  case engine => exact h.engine

/-! ### The requests of the map and of the packs -/

theorem RatioMap.entry_eq_some {m : RatioMap} (order : indexOrder m.entries) {i : Nat} {x : RatioEntry} :
    m.entry i = some x ↔ x ∈ m.entries ∧ x.index = i := by
  refine ⟨RatioMap.entry_mem, ?_⟩
  rintro ⟨mem, rfl⟩
  exact RatioMap.entry_of_mem (List.pairwise_map.mpr order) mem

theorem State.indexBusy_iff (s : State) (i : Nat) : s.indexBusy i = true ↔ s.concerns i := by
  cases hr : s.she.record <;> simp [State.indexBusy, State.concerns, Engine.destination, hr, or_assoc]

theorem State.ratioLaw.defineEntry (h : s.ratioLaw) {e : RatioEntry} (low : 1 ≤ e.index) (high : e.index ≤ 32)
    (slow : 1 ≤ e.rn) (fast : e.rn ≤ 1500) (single : s.rmp.duplicates e = false) (order : s.rmp.inOrder e = true) :
    (s.defineEntry e).ratioLaw := by
  have sorted := h.indexOrder
  have all {x : RatioEntry} (hx : x ∈ s.rmp.entries) (hd : x.direction = e.direction) := h.inOrder_all order hx hd
  have other (x : RatioEntry) (hx : x ∈ s.rmp.entries) (ne : x.index ≠ e.index) :
      ¬ (x.direction = e.direction ∧ x.speed = e.speed ∧ x.range = e.range) := by
    rintro ⟨hd, hs, hr⟩
    have := List.any_eq_false.mp single x hx
    simp [ne, hd, hs, hr] at this
  obtain ⟨-, ranges, rising, distinct, usable⟩ := h
  let w : RatioEntry := { e with usable := formUsable s.rmp s.packs e }
  have mem {x : RatioEntry} : x ∈ insertEntry w s.rmp.entries ↔ x = w ∨ (x ∈ s.rmp.entries ∧ x.index ≠ w.index) :=
    mem_insertEntry sorted
  refine ⟨List.pairwise_map.mpr (insertEntry_indexOrder sorted), ?_, ?_, ?_, ?_⟩
  · intro x hx
    rcases mem.mp hx with rfl | ⟨hx, -⟩
    · exact ⟨low, high, slow, fast⟩
    · exact ranges x hx
  · intro x hx y hy hd
    rcases mem.mp hx with rfl | ⟨hx, -⟩ <;> rcases mem.mp hy with rfl | ⟨hy, -⟩
    · exact fun lt => absurd lt (Nat.lt_irrefl _)
    · exact (all hy hd.symm).2
    · exact (all hx hd).1
    · exact rising x hx y hy hd
  · intro x hx y hy hd hs hr
    rcases mem.mp hx with rfl | ⟨hx, nx⟩ <;> rcases mem.mp hy with rfl | ⟨hy, ny⟩
    · rfl
    · exact absurd ⟨hd.symm, hs.symm, hr.symm⟩ (other y hy ny)
    · exact absurd ⟨hd, hs, hr⟩ (other x hx nx)
    · exact distinct x hx y hy hd hs hr
  · intro x hx
    rcases mem.mp hx with rfl | ⟨hx, -⟩
    · exact formUsable_iff _ _ _
    · exact usable x hx

theorem State.linked.defineEntry (h : s.linked due F) {e : RatioEntry} (index : 1 ≤ e.index ∧ e.index ≤ 32)
    (rn : 1 ≤ e.rn ∧ e.rn ≤ 1500) (idle : ¬ s.concerns e.index) (single : s.rmp.duplicates e = false)
    (order : s.rmp.inOrder e = true) : (s.defineEntry e).linked due F := by
  have sorted := h.ratio.indexOrder
  have ratio := h.ratio.defineEntry index.1 index.2 rn.1 rn.2 single order
  refine h.remap (fun _ => .inl rfl) h.packs ratio fun i hc => congrArg _ (Option.ext fun x => ?_)
  have ne : i ≠ e.index := fun same => idle (same ▸ hc)
  refine (RatioMap.entry_eq_some (insertEntry_indexOrder sorted)).trans
    (Iff.trans ?_ (RatioMap.entry_eq_some sorted).symm)
  refine and_congr_left fun hi => (mem_insertEntry sorted).trans ?_
  constructor
  · rintro (rfl | ⟨hx, -⟩)
    · exact absurd hi.symm ne
    · exact hx
  · exact fun hx => .inr ⟨hx, hi ▸ ne⟩

theorem actDefineRatio_keepsDriven (index direction speed range : Byte) (rn : Half) (s : State) :
    (actDefineRatio index direction speed range rn s).keepsDriven s := by
  unfold actDefineRatio
  simp only
  split
  next d p g _ _ _ =>
    split
    next coded =>
      split
      · trivial
      next check =>
        intro h
        simp only [Bool.and_eq_true, decide_eq_true_eq] at coded
        obtain ⟨⟨⟨low, high⟩, slow⟩, fast⟩ := coded
        unfold State.defineCheck at check
        split_ifs at check with fitted busy double order
        simp only [Bool.not_eq_true] at double
        simp only [Bool.not_eq_true', Bool.not_eq_false] at order
        exact h.defineEntry ⟨low, high⟩ ⟨slow, fast⟩ (mt (s.indexBusy_iff _).mpr busy) double order
    · trivial
  · trivial

theorem actClearRatio_keepsDriven (index : Byte) (s : State) : (actClearRatio index s).keepsDriven s := by
  unfold actClearRatio
  simp only
  split
  · split
    · trivial
    · split
      · trivial
      next busy =>
        intro h
        have order := h.ratio.indexOrder
        have sub {x : RatioEntry} (hx : x ∈ s.rmp.entries.filter fun e => e.index ≠ index.toNat) : x ∈ s.rmp.entries :=
          List.mem_of_mem_filter hx
        have kept : indexOrder (s.rmp.entries.filter fun e => e.index ≠ index.toNat) := order.filter _
        refine h.remap (m := { s.rmp with entries := s.rmp.entries.filter fun e => e.index ≠ index.toNat })
          (fun _ => .inl rfl) h.packs ?_ fun i hc => congrArg _ (Option.ext fun x => ?_)
        · obtain ⟨-, ranges, rising, distinct, usable⟩ := h.ratio
          exact ⟨List.pairwise_map.mpr kept, fun x hx => ranges x (sub hx), fun x hx y hy => rising x (sub hx) y (sub hy),
            fun x hx y hy => distinct x (sub hx) y (sub hy), fun x hx => usable x (sub hx)⟩
        · have ne : i ≠ index.toNat := fun e => busy ((s.indexBusy_iff _).mpr (e ▸ hc))
          rw [RatioMap.entry_eq_some kept, RatioMap.entry_eq_some order, List.mem_filter]
          constructor
          · exact fun ⟨⟨hx, _⟩, hi⟩ => ⟨hx, hi⟩
          · exact fun ⟨hx, hi⟩ => ⟨⟨hx, by simp [hi, ne]⟩, hi⟩
  · trivial

theorem actReadRatio_keepsDriven (index : Byte) (s : State) : (actReadRatio index s).keepsDriven s := by
  unfold actReadRatio
  split
  · exact id
  · trivial

/-- Usability formed again touches no entry's packs. -/
theorem State.reform_entry_packs (s : State) (concerned : RatioEntry → Bool) (i : Nat) :
    ((s.reform concerned).rmp.entry i).map RatioEntry.packs = (s.rmp.entry i).map RatioEntry.packs := by
  let g (e : RatioEntry) : RatioEntry := if concerned e then { e with usable := formUsable s.rmp s.packs e } else e
  have index (e : RatioEntry) : (g e).index = e.index := by
    simp only [g]
    split <;> rfl
  have packs (e : RatioEntry) : (g e).packs = e.packs := by
    simp only [g]
    split <;> rfl
  change ((s.rmp.entries.map g).find? fun e => e.index = i).map RatioEntry.packs = _
  rw [List.find?_map, Option.map_map]
  simp only [Function.comp_def, index, packs]
  rfl

theorem State.linked.setWithheld (h : s.linked due F) (mask : Quad) : (s.setWithheld mask).linked due F := by
  refine h.remap (fun _ => .inl rfl) h.packs (h.ratio.reform rfl fun e _ other => ⟨?_, fun _ _ => Iff.rfl⟩)
    fun i _ => State.reform_entry_packs _ _ i
  exact (not_not.mp (of_decide_eq_false other)).symm

theorem PackRecord.sound.clearFault {p : PackRecord} (h : p.sound) : p.clearFault.sound :=
  ⟨h.active, h.staged, h.atLimit, iff_of_false (fun c => c rfl) nofun⟩

theorem actClearFault_keepsDriven (pack : Byte) (s : State) : (actClearFault pack s).keepsDriven s := by
  unfold actClearFault
  split
  · trivial
  next p _ =>
    split
    next bad =>
      intro h
      have bad : (s.packs.get p).state = .fault := by simpa [PackRecord.faulted] using bad
      have get (q : PackId) := PackFile.get_update s.packs PackRecord.clearFault p q
      refine h.remap (f := s.packs.update PackRecord.clearFault p) (fun q => ?_) (fun q => ?_) ?_ fun i _ =>
        State.reform_entry_packs { s with packs := s.packs.update PackRecord.clearFault p } _ i
      · rw [get]
        split
        next hq => exact .inr ⟨hq ▸ bad, rfl⟩
        · exact .inl rfl
      · rw [get]
        split
        · exact (h.packs q).clearFault
        · exact h.packs q
      · refine h.ratio.reform rfl fun e _ other => ⟨rfl, fun q hq => ?_⟩
        have ne : q ≠ p := by simpa using RatioEntry.uses_false other hq
        change ((s.packs.update PackRecord.clearFault p).get q).state = .fault ↔ _
        rw [get, if_neg ne]
    · trivial

/-- A set of pack fields clamped, or refused where its clamped bounds cross (R57). -/
theorem clampPack_eq (pf tf tfMin tfMax pl : Nat) :
    clampPack pf tf tfMin tfMax pl =
      if max 10 (min 400 tfMax) < max 10 (min 400 tfMin) then none
      else some
        { pf := max 5 (min 80 pf)
          tf := max (max 10 (min 400 tfMin)) (min (max 10 (min 400 tfMax)) tf)
          tfMin := max 10 (min 400 tfMin), tfMax := max 10 (min 400 tfMax), pl := max 100 (min 250 pl) } := by
  unfold clampPack
  simp only [clamp_eq (lo := 5) (hi := 80) (by decide), clamp_eq (lo := 100) (hi := 250) (by decide),
    clamp_eq (lo := 10) (hi := 400) (by decide)]
  split
  · rfl
  next straight => rw [clamp_eq (Nat.le_of_not_lt straight)]

/-- A clamped set of pack fields is in range (R56, R57). -/
theorem clampPack_inRange {pf tf tfMin tfMax pl : Nat} {f : PackFields} (h : clampPack pf tf tfMin tfMax pl = some f) :
    f.inRange := by
  rw [clampPack_eq] at h
  split_ifs at h with crossed
  cases h
  refine ⟨?_, ?_, ?_, ?_, ?_, ?_, ?_, ?_⟩
  all_goals
    simp only
    omega

theorem actAmendPack_keepsDriven (pack pf : Byte) (tf tfMin tfMax : Half) (pl : Byte) (s : State) :
    (actAmendPack pack pf tf tfMin tfMax pl s).keepsDriven s := by
  unfold actAmendPack
  split
  next p f _ hf =>
    intro h
    have get (q : PackId) := PackFile.get_update s.packs (fun r => { r with staged := some f }) p q
    have state (q : PackId) : ((s.packs.update (fun r => { r with staged := some f }) p).get q).state =
        (s.packs.get q).state := by
      rw [get]
      split <;> rfl
    refine h.remap (m := s.rmp) (fun q => .inl (state q)) (fun q => ?_) (h.ratio.congr rfl fun q => ?_) fun _ _ => rfl
    · rw [get]
      split
      · refine ⟨(h.packs q).active, ?_, (h.packs q).atLimit, (h.packs q).cause⟩
        rintro _ ⟨⟩
        exact clampPack_inRange hf
      · exact h.packs q
    · exact iff_of_eq (congrArg (· = PackState.fault) (state q))
  · trivial

theorem actReadPack_keepsDriven (pack : Byte) (s : State) : (actReadPack pack s).keepsDriven s := by
  unfold actReadPack
  split
  · trivial
  · exact id

end

end Sys2Proof.Machine

namespace Sys2Proof.Machine

/-! ## The hitch leaves the driveline alone -/

theorem State.holdWith_driveline (s : State) (o : HitchOutcome) : (s.holdWith o).driveline = s.driveline := rfl

theorem State.seatFallingHitch_driveline (s : State) : s.seatFallingHitch.driveline = s.driveline := by
  unfold State.seatFallingHitch
  split <;> rfl

theorem State.limitsChanged_driveline (s : State) : s.limitsChanged.driveline = s.driveline := by
  have target : s.reformTarget.driveline = s.driveline := by
    unfold State.reformTarget
    split <;> rfl
  refine Eq.trans ?_ target
  unfold State.limitsChanged State.checkLift
  split
  · split <;> rfl
  · rfl

theorem State.travelArrival_driveline (s : State) (p : Purpose) (target timer : Nat) :
    (s.travelArrival p target timer).driveline = s.driveline := by
  unfold State.travelArrival
  simp only
  split_ifs <;> rfl

theorem State.manualArrival_driveline (s : State) (d : ManualDir) : (s.manualArrival d).driveline = s.driveline := by
  unfold State.manualArrival
  split
  · rfl
  · cases d <;> simp only <;> split <;> rfl

theorem State.workArrival_driveline (s : State) : s.workArrival.driveline = s.driveline := by
  unfold State.workArrival
  split
  · rfl
  · simp only
    split <;> rfl

theorem State.hitchArrival_driveline (s : State) : s.hitchArrival.driveline = s.driveline := by
  unfold State.hitchArrival
  simp only
  split
  · rfl
  · split
    · exact State.workArrival_driveline s.withFormedDraft
    · exact State.travelArrival_driveline s.withFormedDraft _ _ _
    · exact State.manualArrival_driveline s.withFormedDraft _
    · rfl
    · rfl

theorem State.enterManual_driveline (s : State) (d : ManualDir) : (s.enterManual d).driveline = s.driveline := by
  cases d <;> rfl

theorem State.buttonRising_driveline (s : State) (d : ManualDir) : (s.buttonRising d).driveline = s.driveline := by
  unfold State.buttonRising
  split
  · rfl
  · split <;> rfl
  all_goals
    split
    · exact s.enterManual_driveline d
    · rfl

theorem State.buttonFalling_driveline (s : State) (d : ManualDir) : (s.buttonFalling d).driveline = s.driveline := by
  unfold State.buttonFalling
  split
  · split <;> rfl
  all_goals rfl

theorem State.buttonEdge_driveline (s : State) (d : ManualDir) (rising : Bool) :
    (s.buttonEdge d rising).driveline = s.driveline := by
  unfold State.buttonEdge
  split
  · exact s.buttonRising_driveline d
  · exact s.buttonFalling_driveline d

theorem State.retiredHitch_driveline (s : State) : s.retiredHitch.driveline = s.driveline := by
  unfold State.retiredHitch
  split <;> rfl

theorem State.putRoad_driveline (s : State) (b : Bool) : (s.putRoad b).driveline = s.driveline := by
  unfold State.putRoad
  split
  · rfl
  · cases b <;> rfl

theorem State.superviseLine_driveline (s : State) : s.superviseLine.driveline = s.driveline := by
  unfold State.superviseLine
  simp only
  split_ifs <;> rfl

theorem State.orderNotices_driveline (n : Nat) (s : State) : (s.orderNotices n).driveline = s.driveline := by
  obtain ⟨_, _, h⟩ := State.orderNotices_frame n s
  rw [h]
  rfl

/-! ## Every command keeps the driveline's laws -/

section
variable {s : State}

theorem State.driven_orderNotices (n : Nat) (h : s.driven) : (s.orderNotices n).driven :=
  h.flag_of_driveline (State.orderNotices_driveline n s)

/-! ### The table -/

theorem State.driven_commit (h : s.driven) (c : Coupling) (reports : List CplReport) : (s.commit c reports).driven :=
  h.commit Engine.flagged_grantStable c reports

theorem State.driven_limitsChanged (h : s.driven) : s.limitsChanged.driven :=
  h.flag_of_driveline s.limitsChanged_driveline

theorem State.driven_applyImplementCopy (h : s.driven) : s.applyImplementCopy.driven := by
  unfold State.applyImplementCopy
  split
  · exact h
  · split
    · exact h
    · exact State.driven_commit h _ _

theorem State.driven_acceptImplement (h : s.driven) (valid : Bool) : (s.acceptImplement valid).driven := by
  unfold State.acceptImplement
  split
  · exact h
  · split
    · exact h
    · split
      · exact State.driven_commit h _ _
      · exact h

theorem State.driven_detectEdge (h : s.driven) : s.detectEdge.driven := by
  unfold State.detectEdge
  split
  · exact h
  · exact State.driven_commit h _ _

theorem State.driven_retireWatch (h : s.driven) : s.retireWatch.driven := by
  unfold State.retireWatch
  split
  · exact State.driven_commit h _ _
  · exact h

theorem State.driven_pendingExpiry (h : s.driven) (p : Point) : (s.pendingExpiry p).driven := by
  cases p with
  | hitch =>
    change s.hitchTimeout.driven
    unfold State.hitchTimeout
    split
    · exact h
    · split
      · exact h
      · exact State.driven_limitsChanged (State.driven_commit h _ _)
  | drawbar =>
    change s.drawbarTimeout.driven
    unfold State.drawbarTimeout
    split
    · exact h
    · split
      · exact State.driven_commit h _ _
      all_goals exact h
  | towthru => exact h

/-! ### The arrivals -/

theorem State.driven_evaluateFront (h : s.driven) : s.evaluateFront.driven := h.evaluateFront Engine.flagged_grantStable

theorem State.driven_computeDemand (h : s.driven) : s.computeDemand.driven := h.computeDemand Engine.flagged_grantStable

theorem State.driven_slipUpdate (h : s.driven) : s.slipUpdate.driven := by
  refine State.driven_evaluateFront (h.flag_of_driveline ?_)
  unfold FrontDrive.slipUpdate
  split
  · rfl
  · rfl
  · split_ifs <;> rfl

theorem State.driven_withdrawSlip (h : s.driven) : s.withdrawSlip.driven := by
  unfold State.withdrawSlip
  split
  · refine State.driven_slipUpdate (h.flag_of_driveline rfl)
  · exact h

theorem State.driven_speedPair (h : s.driven) (ne no : Sample) : (s.speedPair ne no).driven := by
  have paired : ((s.sampleSpeeds ne no).tractionPair ne.valid no.valid).driven :=
    State.driven_withdrawSlip (h.flag_of_driveline rfl)
  exact (paired.shiftPair ne.valid).calPair ne.valid

theorem State.driven_groundSpeed (h : s.driven) (vg : Sample) : (s.groundSpeed vg).driven := by
  refine State.linked.calGround ?_
  refine State.driven_slipUpdate ?_
  exact h.flag_of_driveline rfl

theorem State.driven_hitchSet (h : s.driven) (p dl dr : Sample) : (s.hitchSet p dl dr).driven := by
  have sampled : (s.sampleHitch p dl dr).driven := h.flag_of_driveline rfl
  have table := State.driven_acceptImplement (State.driven_applyImplementCopy sampled) p.valid
  have arrived := table.flag_of_driveline (State.hitchArrival_driveline _)
  exact arrived.flag_of_driveline rfl

/-- What the pedals say of braking is the front drive's to answer: its law is due after the evaluation. -/
theorem State.linked.rebrake {due : Prop} {F : Engine → Prop} (h : s.linked due F) (tre : Traction) :
    State.linked False F { s with tre := tre } :=
  ⟨h.ratio, h.present, h.inFlight, h.target, fun r hr => (h.route r hr).congr ⟨rfl, rfl, rfl, rfl, rfl⟩ rfl rfl rfl id,
    h.cal, h.gear, h.supply.stand rfl rfl rfl rfl, h.front, h.latch, False.elim, h.packs, h.unit, h.engine⟩

theorem State.tractionPedals_eq (s : State) :
    s.tractionPedals =
      { s with tre := { s.tre with braking := (formBraking s.mfe.bl s.mfe.br s.tre.bth).1
                                   bt := (formBraking s.mfe.bl s.mfe.br s.tre.bth).2 } } := rfl

theorem State.driven_tractionPedals (h : s.driven) : s.tractionPedals.demandAndFront.driven := by
  rw [State.tractionPedals_eq]
  exact (h.rebrake _).demandAndFront Engine.flagged_grantStable

theorem State.driven_applyTrailerCopies (h : s.driven) : s.applyTrailerCopies.driven := State.driven_commit h _ _

theorem State.pedalEpisode_driveline (s : State) : s.pedalEpisode.driveline = s.driveline := by
  unfold State.pedalEpisode
  simp only
  split <;> rfl

theorem State.driven_pedalSet (h : s.driven) (bl br : Sample) : (s.pedalSet bl br).driven := by
  have sampled : (s.samplePedals bl br).driven := h.flag_of_driveline rfl
  have taken := State.driven_tractionPedals (State.driven_applyTrailerCopies sampled)
  rw [State.pedalSet_eq]
  exact taken.flag_of_driveline (State.pedalEpisode_driveline _)

theorem State.driven_chargeSet (h : s.driven) (pc : Sample) : (s.chargeSet pc).driven := by
  unfold State.chargeSet
  simp only
  split
  · exact h.flag_of_driveline rfl
  · unfold State.chargeChanged
    have heard : (State.chargeAtCal (State.chargeAtShift (State.offerCharge
        { s with mfe := { s.mfe with pc := s.mfe.pc.sample 300 pc }
                 fsa := { s.fsa with
                   charge := chargeAfter (s.mfe.pc.sample 300 pc) s.fsa.pcMin s.fsa.charge } }))).driven := by
      refine State.linked.chargeAtCal (State.linked.chargeAtShift ?_)
      exact h.flag_of_driveline rfl
    simp only
    split
    · exact heard.grantDecision Engine.flagged_grantStable
    · exact heard

theorem State.driven_lineSet (h : s.driven) (pt : Sample) : (s.lineSet pt).driven := by
  have judged : (s.sampleLine pt).superviseLine.driven := by
    refine State.linked.flag_of_driveline (s := s.sampleLine pt) ?_ (State.superviseLine_driveline _)
    exact h.flag_of_driveline rfl
  rw [State.lineSet_eq]
  split
  · exact State.driven_retireWatch judged
  · exact judged

/-! ### The discrete inputs -/

theorem State.driven_parkEdge (h : s.driven) (rising : Bool) : (s.parkEdge rising).driven := by
  unfold State.parkEdge
  split
  · exact eitherOrder_rule (P := State.driven) (State.driven_computeDemand (h.forcedNeutral _))
      ((State.driven_computeDemand h).forcedNeutral _) fun _ k h => h.draw k
  · exact eitherOrder_rule (P := State.driven) (State.driven_computeDemand (h.abortCal _))
      ((State.driven_computeDemand h).abortCal _) fun _ k h => h.draw k

theorem State.driven_deliverEdge (h : s.driven) (i : DInput) (rising : Bool) : (s.deliverEdge i rising).driven := by
  cases i with
  | park => exact State.driven_parkEdge h rising
  | seat =>
    change (s.seatEdge rising).driven
    unfold State.seatEdge
    split
    · exact h.flag_of_driveline rfl
    · refine State.linked.flag_of_driveline ?_ (State.seatFallingHitch_driveline _)
      exact h.flag_of_driveline rfl
  | detA => exact State.driven_detectEdge h
  | detB => exact State.driven_detectEdge h
  | extUp => exact h.flag_of_driveline (s.buttonEdge_driveline .up rising)
  | extDown => exact h.flag_of_driveline (s.buttonEdge_driveline .down rising)

theorem State.driven_debounceExpiry (h : s.driven) (i : DInput) : (s.debounceExpiry i).driven := by
  unfold State.debounceExpiry
  split
  · exact h
  next c _ =>
    refine State.linked.offer ?_ _ _
    refine State.driven_deliverEdge ?_ i c.level
    exact h.flag_of_driveline rfl

/-! ### The timers -/

theorem State.driven_seatExpiry (h : s.driven) : s.seatExpiry.driven := by
  unfold State.seatExpiry
  split
  · exact h
  · refine State.linked.forcedNeutral ?_ _
    exact h.flag_of_driveline rfl

/-- The expiry of the engine's timer keeps the laws where what it starts, in its engine state, does. -/
theorem State.driven_phaseExpiry (h : s.driven) {e : EngineState} {act : State → ShiftRecord → State}
    (k : ∀ r, s.she.record = some r → s.she.state = e → (act s r).driven) : (s.phaseExpiry e act).driven := by
  unfold State.phaseExpiry
  split
  next hr =>
    split
    next he => exact k _ hr he
    · exact h
  · exact h

theorem State.driven_confirmExpired (h : s.driven) {r : ShiftRecord} (hr : s.she.record = some r)
    (he : s.she.state = .confirm) : (s.confirmExpired r).driven := by
  unfold State.confirmExpired
  split
  · exact h.stall hr he
  · exact h.failConfirm hr he

theorem State.driven_partnerExpiry (h : s.driven) (p : Partner) : (s.partnerExpiry p).driven := by
  unfold State.partnerExpiry
  split
  · exact h
  next j hj =>
    split
    next fills =>
      simp only [Bool.and_eq_true, decide_eq_true_eq] at fills
      exact h.partnerFilled hj fills.1 fills.2
    · exact h

theorem State.driven_settleExpiry (h : s.driven) : s.settleExpiry.driven := by
  unfold State.settleExpiry
  split
  · exact h
  next j hj =>
    split
    next settles =>
      simp only [Bool.and_eq_true, decide_eq_true_eq] at settles
      exact h.startStepping hj settles.1
    · exact h

theorem State.driven_stepExpiry (h : s.driven) : s.stepExpiry.driven := by
  unfold State.stepExpiry
  split
  · exact h
  next j hj =>
    split
    next steps =>
      simp only [Bool.and_eq_true, decide_eq_true_eq] at steps
      exact h.nextStep hj steps.1
    · exact h

theorem State.driven_releaseExpiry (h : s.driven) : s.releaseExpiry.driven := by
  unfold State.releaseExpiry
  split
  · exact h
  · refine State.driven_evaluateFront ?_
    exact h.flag_of_driveline rfl

/-- FDP locks at the end of its fill, and the supply it held is free (R137). -/
theorem State.driven_fdpExpiry (h : s.driven) : s.fdpExpiry.driven := by
  unfold State.fdpExpiry
  split
  next phase _ =>
    obtain ⟨fdp, waiting, holder⟩ := h.front.filling phase
    have locked := PackRecord.fillToLocked_of_fill fdp
    refine State.linked.offer ?_ _ _
    refine h.front_freed Engine.flagged_grantStable holder (g := PackRecord.fillToLocked) (h.packs .fdp).fillToLocked
      (by simp [locked]) (phase := .holding)
      ⟨by simp [PackFile.update, PackFile.get, PackFile.set, locked], waiting, nofun⟩ ?_
    intro _ spring braking
    have := h.braking trivial spring braking
    rw [phase] at this
    cases this
  · exact h

theorem State.driven_travelExpiry (h : s.driven) : s.travelExpiry.driven := by
  unfold State.travelExpiry
  split
  · exact h.flag_of_driveline (State.holdWith_driveline _ _)
  all_goals exact h

end

end Sys2Proof.Machine

namespace Sys2Proof.Machine

/-! ## A millisecond keeps the driveline's laws

Ramps and timers run; where every pack, the engine and a calibration stand, no millisecond changes. -/

/-! ### One pack -/

section
variable {p : PackRecord}

/-- A state that is no ramp is neither entered nor left by the time. -/
theorem PackRecord.tick_state_iff {st : PackState} (up : ∀ d t, st ≠ .rising d t) (down : ∀ c d t, st ≠ .falling c d t) :
    p.tick.state = st ↔ p.state = st := by
  unfold PackRecord.tick
  split
  next h => simp only [h, (up _ _).symm]
  next h => simp only [h, (down _ _ _).symm]
  all_goals rfl

@[simp] theorem PackRecord.tick_released : p.tick.state = .released ↔ p.state = .released :=
  PackRecord.tick_state_iff (fun _ _ => nofun) (fun _ _ _ => nofun)

@[simp] theorem PackRecord.tick_fill : p.tick.state = .fill ↔ p.state = .fill :=
  PackRecord.tick_state_iff (fun _ _ => nofun) (fun _ _ _ => nofun)

@[simp] theorem PackRecord.tick_locked : p.tick.state = .locked ↔ p.state = .locked :=
  PackRecord.tick_state_iff (fun _ _ => nofun) (fun _ _ _ => nofun)

@[simp] theorem PackRecord.tick_calStep : p.tick.state = .calStep ↔ p.state = .calStep :=
  PackRecord.tick_state_iff (fun _ _ => nofun) (fun _ _ _ => nofun)

@[simp] theorem PackRecord.tick_fault : p.tick.state = .fault ↔ p.state = .fault :=
  PackRecord.tick_state_iff (fun _ _ => nofun) (fun _ _ _ => nofun)

@[simp] theorem PackRecord.tick_resting : p.tick.resting ↔ p.resting := by
  simp only [PackRecord.resting, PackRecord.tick_released, PackRecord.tick_fault]

@[simp] theorem PackRecord.tick_rising : (∃ d t, p.tick.state = .rising d t) ↔ ∃ d t, p.state = .rising d t := by
  unfold PackRecord.tick
  split
  next h => simp [h]
  next h => simp [h]
  all_goals rfl

@[simp] theorem PackRecord.tick_falling :
    (∃ c d t, p.tick.state = .falling c d t) ↔ ∃ c d t, p.state = .falling c d t := by
  unfold PackRecord.tick
  split
  next h => simp [h]
  next h => simp [h]
  all_goals rfl

theorem PackRecord.sound.tick (h : p.sound) : p.tick.sound := by
  unfold PackRecord.tick
  split
  next hp => exact h.move (by simp [hp]) nofun
  next hp => exact h.move (by simp [hp]) nofun
  all_goals exact h

end

/-! ### The engine and the calibration -/

theorem ShiftRecord.tick_sameRoute (e : EngineState) (r : ShiftRecord) : (r.tick e).sameRoute r := by
  cases e <;> exact ⟨rfl, rfl, rfl, rfl, rfl⟩

theorem ShiftRecord.tick_kind (e : EngineState) (r : ShiftRecord) : (r.tick e).kind = r.kind := by
  cases e <;> rfl

theorem Engine.tick_record {e : Engine} {r : ShiftRecord} (h : e.tick.record = some r) :
    ∃ x, e.record = some x ∧ r = x.tick e.state := by
  simpa [Engine.tick, eq_comm] using h

theorem Engine.flagged.tick {e : Engine} (h : e.flagged) : e.tick.flagged := by
  obtain ⟨latched, downshift⟩ := h
  refine ⟨latched, downshift.trans (and_congr_right fun _ => ?_)⟩
  simp [Engine.tick, ShiftRecord.tick_kind]

@[simp] theorem tickTimer_isSome (t : Option Nat) : (tickTimer t).isSome = t.isSome := by
  cases t <;> rfl

theorem CalUnit.tick_inPhase (c : CalUnit) (phase : CalPhase) :
    CalUnit.inPhase { c with job := c.job.map (·.tick) } phase ↔ c.inPhase phase := by
  cases c with
  | mk job _ _ _ => cases job <;> simp [CalUnit.inPhase, CalJob.tick]

theorem CalJob.places.tick {j : CalJob} {id : PackId} {p : PackRecord} (h : j.places id p) : j.tick.places id p.tick := by
  unfold CalJob.places at *
  simpa only [CalJob.tick, tickTimer_isSome, PackRecord.tick_released, PackRecord.tick_calStep, PackRecord.tick_locked,
    PackRecord.tick_fill, PackRecord.tick_resting] using h

/-! ### The laws -/

section
variable {s : State}

theorem State.tick_packs (p : PackId) : s.tick.packs.get p = (s.packs.get p).tick := PackFile.get_all _ _ p

theorem State.tick_packsOf (i : Nat) : s.tick.packsOf i = s.packsOf i := rfl

theorem State.tick_engine : s.tick.she.state = s.she.state := rfl

theorem State.engageable.tick {i : Nat} (h : s.engageable i) : s.tick.engageable i :=
  h.congr rfl fun p => by
    rw [State.tick_packs, PackRecord.tick_fault]
    exact id

theorem State.shiftPlaces.tick {r : ShiftRecord} {id : PackId} {p : PackRecord} (h : s.shiftPlaces r id p) :
    s.tick.shiftPlaces (r.tick s.she.state) id p.tick := by
  have ramped : s.tick.shiftPlaces r id p.tick := by
    unfold State.shiftPlaces at *
    simpa only [State.tick_packsOf, State.tick_engine, PackRecord.tick_released, PackRecord.tick_locked,
      PackRecord.tick_fill, PackRecord.tick_resting, PackRecord.tick_rising, PackRecord.tick_falling] using h
  exact ramped.congr (ShiftRecord.tick_sameRoute _ r) rfl rfl rfl rfl

theorem State.driven.tick (h : s.driven) : s.tick.driven := by
  obtain ⟨fills, holds, shiftWaits, shiftHolds, calWaits, calHolds⟩ := h.supply
  constructor
  case ratio => exact h.ratio.congr rfl fun p => by rw [State.tick_packs, PackRecord.tick_fault]
  case present => exact fun hp => (h.present hp).tick
  case inFlight => exact Option.isSome_map.trans h.inFlight
  case target => exact h.target
  case route =>
    intro r hr
    obtain ⟨x, hx, rfl⟩ := Engine.tick_record hr
    exact (h.route x hx).congr (ShiftRecord.tick_sameRoute _ x) rfl rfl rfl State.engageable.tick
  case cal =>
    obtain ⟨runs, law⟩ := h.cal
    refine ⟨Option.isSome_map.trans runs, fun j hj => ?_⟩
    obtain ⟨x, hx, rfl⟩ := Option.map_eq_some_iff.mp hj
    obtain ⟨pr, nr, partners, filling⟩ := law x hx
    exact ⟨pr, nr, partners, by simpa [CalJob.tick] using filling⟩
  case gear =>
    intro id hid
    obtain ⟨cal, shift, rest⟩ := h.gear id hid
    rw [State.tick_packs]
    refine ⟨fun j hj => ?_, fun r hr => ?_, fun hj hr => ?_⟩
    · obtain ⟨x, hx, rfl⟩ := Option.map_eq_some_iff.mp hj
      exact (cal x hx).tick
    · obtain ⟨x, hx, rfl⟩ := Engine.tick_record hr
      exact (shift x hx).tick
    · rw [PackRecord.tick_locked, PackRecord.tick_resting]
      exact rest (Option.map_eq_none_iff.mp hj) (Option.map_eq_none_iff.mp hr)
  case supply =>
    refine ⟨fun p => ?_, holds, shiftWaits, shiftHolds, ?_, ?_⟩
    · rw [State.tick_packs, PackRecord.tick_fill]
      exact fills p
    · exact (CalUnit.tick_inPhase s.cau _).trans calWaits
    · exact (CalUnit.tick_inPhase s.cau _).trans calHolds
  case front =>
    have front := h.front
    unfold State.frontLaw at *
    simpa only [State.tick, PackFile.all, PackRecord.tick_released, PackRecord.tick_fill, PackRecord.tick_locked]
      using front
  case latch => exact h.latch
  case braking => exact h.braking
  case packs => exact fun p => by rw [State.tick_packs]; exact (h.packs p).tick
  case unit => exact h.unit
  case engine => exact h.engine.tick

end

end Sys2Proof.Machine

namespace Sys2Proof.Machine

/-! ## Every request keeps the driveline's laws -/

/-! ### The coupling table -/

theorem attachAt_keepsDriven {p : Point} {tag : Nat} {steps : State → State} {s : State}
    (h : s.driven → (steps s).driven) (first : Nat) : (attachAt p tag steps first s).keepsDriven s := by
  unfold attachAt
  split
  · trivial
  · exact h

theorem State.driven_attachImplement {s : State} (h : s.driven) (tag : Nat) (f : ImplementFields) :
    (s.attachImplement tag f).driven := by
  refine State.driven_limitsChanged ?_
  exact State.driven_commit h _ _

theorem actAttach_keepsDriven (point : Byte) (tag : Half) (fields : FieldSet) (s : State) :
    (actAttach point tag fields s).keepsDriven s := by
  unfold actAttach
  split
  · exact attachAt_keepsDriven (fun h => State.driven_attachImplement h _ _) _
  · exact attachAt_keepsDriven (fun h => State.driven_commit h _ _) _
  · exact attachAt_keepsDriven (fun h => State.driven_commit h _ _) _
  · trivial

theorem amendTrailer_keepsDriven (r : TrailerRecord) (fields : FieldSet) {put : TrailerRecord → State} {s : State}
    (hp : ∀ r, (put r).driveline = s.driveline) : (amendTrailer r fields put).keepsDriven s := by
  unfold amendTrailer
  split
  · trivial
  · split
    · trivial
    · exact fun hs => hs.flag_of_driveline (hp _)

theorem actAmend_keepsDriven (handle : Byte) (fields : FieldSet) (s : State) :
    (actAmend handle fields s).keepsDriven s := by
  unfold actAmend
  split
  · trivial
  · split
    · trivial
    · unfold amendImplement
      split
      · trivial
      · exact fun hs => hs.flag_of_driveline rfl
  all_goals
    split
    · trivial
    · exact amendTrailer_keepsDriven _ _ fun _ => rfl

theorem retireTrailer_keepsDriven (r : TrailerRecord) (p : Point) (put : Option TrailerRecord → Coupling) (s : State) :
    (retireTrailer r p put s).keepsDriven s := by
  unfold retireTrailer
  split <;> exact fun h => State.driven_commit h _ _

theorem actRetire_keepsDriven (handle : Byte) (s : State) : (actRetire handle s).keepsDriven s := by
  unfold actRetire
  split
  · trivial
  · split
    · trivial
    · intro h
      refine State.driven_limitsChanged (State.linked.flag_of_driveline ?_ (State.retiredHitch_driveline _))
      exact State.driven_commit h _ _
  · split
    · trivial
    · split
      · trivial
      · exact retireTrailer_keepsDriven _ _ _ s
  · split
    · trivial
    · exact retireTrailer_keepsDriven _ _ _ s

theorem restoreTrailer_keepsDriven (r : TrailerRecord) (put : TrailerRecord → Coupling) (s : State) :
    (restoreTrailer r put s).keepsDriven s := by
  unfold restoreTrailer
  split
  · exact fun h => State.driven_commit h _ _
  all_goals trivial

theorem actRestore_keepsDriven (handle : Byte) (s : State) : (actRestore handle s).keepsDriven s := by
  unfold actRestore
  split
  · trivial
  · trivial
  all_goals
    split
    · trivial
    · exact restoreTrailer_keepsDriven _ _ s

theorem actLookup_keepsDriven (selector : Byte) (key : Half) (s : State) : (actLookup selector key s).keepsDriven s := by
  unfold actLookup
  split
  · trivial
  · trivial
  · split
    · trivial
    · exact id

/-! ### The conditions, the notices and the resets -/

theorem State.driven_putShiftHold {s : State} (h : s.driven) (b : Bool) : (s.putShiftHold b).driven := by
  have put : State.driven { s with rlk := { s.rlk with shiftHold := b } } := h.flag_of_driveline rfl
  unfold State.putShiftHold
  split
  · exact h
  · split
    · exact put
    · exact put.shiftHoldCleared

theorem State.driven_putConditions {s : State} (h : s.driven) (mask : Byte) (b : Bool) :
    (s.putConditions mask b).driven := by
  have road : (if mask.getLsbD 0 = true then s.putRoad b else s).driven := by
    split
    · exact h.flag_of_driveline (s.putRoad_driveline b)
    · exact h
  unfold State.putConditions
  simp only
  split
  · exact State.driven_putShiftHold road b
  · exact road

theorem actSetCondition_keepsDriven (mask : Byte) (s : State) : (actSetCondition mask s).keepsDriven s := by
  unfold actSetCondition
  split
  · exact fun h => State.driven_putConditions h mask true
  · trivial

theorem actClearCondition_keepsDriven (mask : Byte) (s : State) : (actClearCondition mask s).keepsDriven s := by
  unfold actClearCondition
  split
  · exact fun h => State.driven_putConditions h mask false
  · trivial

theorem actTakeNotice_keepsDriven (s : State) : (actTakeNotice s).keepsDriven s := by
  unfold actTakeNotice
  split
  · trivial
  · exact fun hs => hs.flag_of_driveline rfl

theorem actEnableNotice_keepsDriven (mask : Tri) (s : State) : (actEnableNotice mask s).keepsDriven s := by
  unfold actEnableNotice
  split
  · trivial
  · exact fun hs => hs.flag_of_driveline rfl

theorem actDisableNotice_keepsDriven (mask : Tri) (s : State) : (actDisableNotice mask s).keepsDriven s := by
  unfold actDisableNotice
  split
  · trivial
  · exact fun hs => hs.flag_of_driveline rfl

/-- After a reset that keeps the map the laws hold of its entries formed anew. -/
theorem State.freshlyReset.driven {s : State} (h : s.freshlyReset) (hr : s.ratioLaw) : s.driven :=
  s.driven_iff.mpr ⟨h.drivelineLaw hr, h.packLaw⟩

theorem State.driven_softReset {s : State} (h : s.driven) : s.softReset.driven := by
  obtain ⟨-, packs⟩ := s.driven_iff.mp h
  exact (State.softReset_freshlyReset packs).driven (State.softReset_ratioLaw h.ratio)

/-! ### The hitch, the front drive and the estimator -/

theorem travelRequest_keepsDriven (p : Purpose) (needsRecord : Bool) (opening : Nat) (s : State) :
    (travelRequest p needsRecord opening s).keepsDriven s := by
  unfold travelRequest
  split
  · trivial
  · exact fun hs => hs.flag_of_driveline rfl

theorem actHitchHold_keepsDriven (s : State) : (actHitchHold s).keepsDriven s := by
  unfold actHitchHold
  simp only
  split <;> exact fun hs => hs.flag_of_driveline rfl

theorem actHitchWork_keepsDriven (s : State) : (actHitchWork s).keepsDriven s := by
  unfold actHitchWork
  split
  · trivial
  · exact fun hs => hs.flag_of_driveline rfl

theorem actSetFront_keepsDriven (f : FrontWire) (s : State) : (actSetFront f s).keepsDriven s := by
  unfold actSetFront
  split
  · trivial
  · intro h
    refine State.driven_evaluateFront (h.flag_of_driveline ?_)
    unfold FrontDrive.setMode
    split <;> rfl

theorem actSetTraction_keepsDriven (kw vmin bth : Half) (s : State) : (actSetTraction kw vmin bth s).keepsDriven s := by
  intro h
  refine State.driven_withdrawSlip ?_
  exact h.flag_of_driveline rfl

/-! ### Every request -/

theorem requestAct_keepsDriven (i : Instr) (act : State → Answer) (h : requestAct i = some act) (s : State) :
    (act s).keepsDriven s := by
  cases i <;> simp only [requestAct, Option.some.injEq, reduceCtorEq] at h <;> subst h
  case nop | status | setShiftProfile | setSupply => exact fun hs => hs.flag_of_driveline rfl
  case withhold | unwithhold => exact fun h => h.setWithheld _
  case takeNotice => exact actTakeNotice_keepsDriven s
  case setCondition mask => exact actSetCondition_keepsDriven mask s
  case clearCondition mask => exact actClearCondition_keepsDriven mask s
  case enableNotice mask => exact actEnableNotice_keepsDriven mask s
  case disableNotice mask => exact actDisableNotice_keepsDriven mask s
  case softReset => exact State.driven_softReset
  case attach => exact actAttach_keepsDriven _ _ _ s
  case amend => exact actAmend_keepsDriven _ _ s
  case retire => exact actRetire_keepsDriven _ s
  case restore => exact actRestore_keepsDriven _ s
  case lookup => exact actLookup_keepsDriven _ _ s
  case defineRatio => exact actDefineRatio_keepsDriven _ _ _ _ _ s
  case clearRatio => exact actClearRatio_keepsDriven _ s
  case readRatio => exact actReadRatio_keepsDriven _ s
  case readPack => exact actReadPack_keepsDriven _ s
  case amendPack => exact actAmendPack_keepsDriven _ _ _ _ _ _ s
  case clearFault => exact actClearFault_keepsDriven _ s
  case calibrate => exact actCalibrate_keepsDriven _ _ s
  case select => exact actSelect_keepsDriven _ s
  case step => exact actStep_keepsDriven _ s
  case halt => exact actHalt_keepsDriven s
  case setFront => exact actSetFront_keepsDriven _ s
  case setTraction => exact actSetTraction_keepsDriven _ _ _ s
  case hitchHold => exact actHitchHold_keepsDriven s
  case hitchWork => exact actHitchWork_keepsDriven s
  case hitchGoto | hitchTransport | hitchReturn => exact travelRequest_keepsDriven _ _ _ s

/-! ## Every command keeps them -/

theorem event_keepsDriven {f : State → State} {s t : State} (hf : s.driven → (f s).driven) (hs : s.driven)
    (h : event f s = .next t) : t.driven :=
  event_keeps (fun n _ hs => State.driven_orderNotices n hs) hf hs h

theorem State.driven_link (s : State) (l : Link) (h : s.driven) : State.driven { s with rlk := l } :=
  h.flag_of_driveline rfl

theorem exec_keepsDriven (i : Instr) (s t : State) (hs : s.driven) (h : exec i s = .next t) : t.driven := by
  have taken {take : State → State × Reply} {k : Nat} (ht : ∀ u, u.driven → (take u).1.driven)
      (h : transaction k take s = .next t) : t.driven :=
    transaction_keeps (fun n _ hs => State.driven_orderNotices n hs) State.driven_link (ht _) hs h
  cases hr : requestParts i with
  | some parts =>
    obtain ⟨act, hact, he⟩ := exec_request (code := parts.1) (payload := parts.2.1) (extra := parts.2.2) hr s
    rw [he] at h
    refine taken (fun u hu => ?_) h
    have keeps := requestAct_keepsDriven i act hact u
    cases ha : act u with
    | ok v p =>
      rw [ha] at keeps
      exact keeps hu
    | refused status => exact hu
  | none =>
    cases i <;> simp only [requestParts, reduceCtorEq] at hr
    case frameRejected bytes =>
      cases bytes with
      | nil => exact next_keeps hs h
      | cons code rest =>
        exact taken (fun u hu => takeFrame_keeps State.driven_link requestAct_keepsDriven code _ hu) h
    case windowTransaction =>
      refine next_keeps ?_ h
      split
      · exact hs
      · exact State.driven_link s _ hs
    case noByteTransaction => exact next_keeps hs h
    case powerOnReset | hardReset =>
      exact next_keeps ((State.fullReset_freshlyReset s _).driven (State.ratioLaw_of_empty rfl)) h
    case rstHeldLow =>
      obtain ⟨-, packs⟩ := s.driven_iff.mp hs
      exact next_keeps ((State.holdReset_freshlyReset packs).driven (State.softReset_ratioLaw hs.ratio)) h
    case rawInputChange => exact next_keeps (s := s.rawInput _ _) (hs.flag_of_driveline rfl) h
    case startUpWindowClose => exact event_keepsDriven (State.driven_link s _) hs h
    case speedPairArrival ne no => exact event_keepsDriven (fun hs => State.driven_speedPair hs ne no) hs h
    case groundSpeedArrival vg => exact event_keepsDriven (fun hs => State.driven_groundSpeed hs vg) hs h
    case hitchSetArrival p dl dr => exact event_keepsDriven (fun hs => State.driven_hitchSet hs p dl dr) hs h
    case pedalSetArrival bl br => exact event_keepsDriven (fun hs => State.driven_pedalSet hs bl br) hs h
    case chargeArrival pc => exact event_keepsDriven (fun hs => State.driven_chargeSet hs pc) hs h
    case lineArrival pt => exact event_keepsDriven (fun hs => State.driven_lineSet hs pt) hs h
    case debounceTimerExpiry i => exact event_keepsDriven (fun hs => State.driven_debounceExpiry hs i) hs h
    case pendingTimerExpiry p => exact event_keepsDriven (fun hs => State.driven_pendingExpiry hs p) hs h
    case seatTimerExpiry => exact event_keepsDriven State.driven_seatExpiry hs h
    case supplyWaitTimerExpiry =>
      exact event_keepsDriven (fun hs => State.driven_phaseExpiry hs fun _ hr he => hs.noSupply hr he) hs h
    case fillTimerExpiry =>
      exact event_keepsDriven (fun hs => State.driven_phaseExpiry hs fun _ hr he => hs.startHandover hr he) hs h
    case handoverTimerExpiry =>
      exact event_keepsDriven (fun hs => State.driven_phaseExpiry hs fun _ hr he => hs.startConfirm hr he) hs h
    case confirmTimerExpiry =>
      exact event_keepsDriven (fun hs => State.driven_phaseExpiry hs fun _ hr he => State.driven_confirmExpired hs hr he)
        hs h
    case intervalTimerExpiry => exact event_keepsDriven (fun hs => hs.intervalExpiry) hs h
    case fillSupplyGrant => exact event_keepsDriven (fun hs => hs.grantDecision Engine.flagged_grantStable) hs h
    case partnerFillTimerExpiry p => exact event_keepsDriven (fun hs => State.driven_partnerExpiry hs p) hs h
    case settleTimerExpiry => exact event_keepsDriven State.driven_settleExpiry hs h
    case stepTimerExpiry => exact event_keepsDriven State.driven_stepExpiry hs h
    case releaseDelayTimerExpiry => exact event_keepsDriven State.driven_releaseExpiry hs h
    case fdpFillTimerExpiry => exact event_keepsDriven State.driven_fdpExpiry hs h
    case travelTimerExpiry => exact event_keepsDriven State.driven_travelExpiry hs h
    case retireWatch =>
      refine event_keepsDriven (fun hs => ?_) hs h
      split
      · exact State.driven_retireWatch hs
      · exact hs

/-- Settles O58: every law of the driveline and of the packs is kept with the others, command by command. -/
theorem everyStepKeepsTheDrivelineLaw : Obligations.EveryStepKeepsTheDrivelineLaw := by
  intro s t driveline packs h
  have driven : t.driven :=
    step_keeps (P := State.driven) (fun _ _ hs => hs.flag_of_driveline rfl) (fun _ hs => hs.tick) exec_keepsDriven
      (s.driven_iff.mpr ⟨driveline, packs⟩) h
  exact t.driven_iff.mp driven

end Sys2Proof.Machine

namespace Sys2Proof.Machine

/-! ## Requests that write and leave the Notice Set -/

/-- A request carried out is the state it leaves with the reply pending, where it appends no notice. -/
theorem request_writes {code : Byte} {n extra : Nat} {act : State → Answer} {s u : State} {p : List Byte}
    (h : s.listens) (ha : act (s.settled (n + 3 + extra)) = .ok (u.settled (n + 3 + extra)) p) (hn : u.nts = s.nts) :
    request code n extra act s = .next (u.answered (n + 3 + extra) ⟨code, .ok, p⟩) := by
  rw [← State.settleReply_eq] at ha
  have short : (u.settled (n + 3 + extra)).nts.notices.length ≤ s.nts.notices.length + 1 := by
    rw [show (u.settled (n + 3 + extra)).nts = s.nts from hn]
    exact Nat.le_succ _
  rw [request_ok h ha short]
  rfl

/-! ## The withhold mask -/

theorem formUsable_eq (m : RatioMap) (f : PackFile) (e : RatioEntry) :
    formUsable m f e = (!m.withheld.getLsbD (e.index - 1) && decide (∀ p ∈ e.packs, (f.get p).state ≠ .fault)) := by
  rw [Bool.eq_iff_iff, formUsable_iff]
  simp

/-- The map under another withhold mask: usability formed again where a bit changed (R53, R54). -/
def State.withheldBy (s : State) (m : Quad) : State :=
  { s with rmp := { entries := s.rmp.entries.map fun e =>
                      if s.rmp.withheld.getLsbD (e.index - 1) = m.getLsbD (e.index - 1) then e
                      else { e with usable := !m.getLsbD (e.index - 1) &&
                               decide (∀ p ∈ e.packs, (s.packs.get p).state ≠ .fault) }
                    withheld := m } }

theorem State.setWithheld_eq (s : State) (m : Quad) : s.setWithheld m = s.withheldBy m := by
  refine congrArg (fun entries => { s with rmp := ⟨entries, m⟩ }) (List.map_congr_left fun e _ => ?_)
  by_cases same : s.rmp.withheld.getLsbD (e.index - 1) = m.getLsbD (e.index - 1)
  · simp [RatioMap.isWithheld, same]
  · simp [RatioMap.isWithheld, same, formUsable_eq]

/-- Settles O32. -/
theorem withholdChangesUsability : Obligations.WithholdChangesUsability := by
  intro extra mask s hs leaves
  have put (k : Nat) (m : Quad) : (s.settled k).setWithheld m = (leaves m).settled k := by
    rw [State.setWithheld_eq]
    rfl
  refine ⟨?_, ?_⟩
  · rw [exec_withhold]
    exact request_writes hs (congrArg (Answer.ok · _) (put _ _)) rfl
  · rw [exec_unwithhold]
    exact request_writes hs (congrArg (Answer.ok · _) (put _ _)) rfl

end Sys2Proof.Machine

namespace Sys2Proof.Machine

/-! ## The pack a request names -/

theorem PackId.ofCode_code (p : PackId) : PackId.ofCode p.code = some p := by cases p <;> rfl

theorem PackId.ofCode_none {c : Nat} (h : c = 0 ∨ 12 < c) : PackId.ofCode c = none := by
  unfold PackId.ofCode
  split
  case h_13 => rfl
  all_goals omega

/-- SP5 and SP6 are absent under GEARSET 4 (R48). -/
def State.absent (s : State) (pack : Byte) : Prop := s.straps.gearset = .four ∧ (pack = 7#8 ∨ pack = 8#8)

theorem PackId.code_eq_toNat {p : PackId} {pack : Byte} (h : p.code = pack.toNat) : pack = byte p.code := by
  rw [h]
  simp [byte]

/-- The gearbox lacks a pack exactly where its code is absent. -/
theorem State.fitted_iff {s : State} {p : PackId} : s.fitted p = true ↔ ¬ s.absent (byte p.code) := by
  unfold State.fitted State.absent
  cases s.straps.gearset <;> cases p <;> decide

theorem State.packNamed_of_code {s : State} {p : PackId} {pack : Byte} (h : p.code = pack.toNat)
    (here : ¬ s.absent pack) :
    s.packNamed pack = some p := by
  rw [PackId.code_eq_toNat h] at here
  rw [State.packNamed, ← h, PackId.ofCode_code]
  exact if_pos (State.fitted_iff.mpr here)

theorem State.packNamed_of_absent {s : State} {pack : Byte} (h : s.absent pack) : s.packNamed pack = none := by
  unfold State.packNamed State.fitted
  obtain ⟨four, rfl | rfl⟩ := h <;> rw [four] <;> rfl

theorem State.packNamed_none {s : State} {pack : Byte} (h : pack.toNat = 0 ∨ 12 < pack.toNat ∨ s.absent pack) :
    s.packNamed pack = none := by
  rcases h with zero | high | absent
  · rw [State.packNamed, PackId.ofCode_none (.inl zero)]
  · rw [State.packNamed, PackId.ofCode_none (.inr high)]
  · exact State.packNamed_of_absent absent

/-! ## READ_PACK -/

theorem State.packPayload_eq (s : State) {p : PackId} {pack : Byte} (h : p.code = pack.toNat) :
    s.packPayload p =
      let r := s.packs.get p
      [pack, byte r.active.pf, byte (r.active.tf / 256), byte r.active.tf, byte (r.active.tfMin / 256),
        byte r.active.tfMin, byte (r.active.tfMax / 256), byte r.active.tfMax, byte r.active.pl, byte r.atLimit,
        byte r.state.code, byte (s.packCommand p), byte r.cause.code, byte (bit r.staged.isSome)] := by
  rw [PackId.code_eq_toNat h]
  rfl

/-- Settles O33, the commands by the pack states. -/
theorem packCommandsFollowTheStateAndAreRead : Obligations.PackCommandsFollowTheStateAndAreRead := by
  refine ⟨fun s p => ?_, fun extra pack s hs => ⟨fun unnamed => ?_, fun p hp here => ?_⟩⟩
  · have command : s.packCommand p = (s.packs.get p).command s.cau.stepPressure := rfl
    unfold PackRecord.command at command
    simp only
    cases hst : (s.packs.get p).state with
    | rising d t | falling c d t =>
      rw [hst] at command
      exact ⟨fun runs => command.trans (if_pos runs), fun past => command.trans (if_neg (Nat.not_lt.mpr past))⟩
    | released | fill | locked | calStep | fault =>
      rw [hst] at command
      exact command
  · have none : (s.settleReply (1 + 3 + extra)).packNamed pack = none := State.packNamed_none (s := s) unnamed
    rw [exec_readPack]
    exact request_refused hs (by rw [actReadPack, none])
  · have named : (s.settleReply (1 + 3 + extra)).packNamed pack = some p := State.packNamed_of_code (s := s) hp here
    rw [exec_readPack]
    refine request_reads hs ?_
    rw [actReadPack, named]
    simp only
    rw [State.packPayload_eq _ hp]
    rfl

/-! ## AMEND_PACK and CLEAR_FAULT -/

theorem State.reform_uses (s : State) (p : PackId) :
    s.reform (fun e => e.uses [p]) =
      { s with rmp := { s.rmp with entries := s.rmp.entries.map fun e =>
          if p ∈ e.packs then
            { e with usable := !s.rmp.withheld.getLsbD (e.index - 1) &&
                decide (∀ q ∈ e.packs, (s.packs.get q).state ≠ .fault) }
          else e } } := by
  refine congrArg (fun entries => { s with rmp := { s.rmp with entries := entries } })
    (List.map_congr_left fun e _ => ?_)
  have uses : e.uses [p] = true ↔ p ∈ e.packs := by simp [RatioEntry.uses]
  by_cases mem : p ∈ e.packs
  · rw [if_pos (uses.mpr mem), if_pos mem, formUsable_eq]
  · rw [if_neg (uses.not.mpr mem), if_neg mem]

theorem actAmendPack_refused {pack pf pl : Byte} {tf tfMin tfMax : Half} {s : State}
    (h : s.packNamed pack = none ∨ clampPack pf.toNat tf.toNat tfMin.toNat tfMax.toNat pl.toNat = none) :
    actAmendPack pack pf tf tfMin tfMax pl s = .refused .range := by
  unfold actAmendPack
  split
  next named clamped =>
    rw [named, clamped] at h
    rcases h with h | h <;> cases h
  · rfl

/-- Settles O34. -/
theorem amendPackStagesAndClearFaultReleases : Obligations.AmendPackStagesAndClearFaultReleases := by
  refine ⟨fun extra pack pf tf tfMin tfMax pl s hs => ?_, fun extra pack s hs => ⟨fun unnamed => ?_, fun p hp here => ?_⟩⟩
  · intro refused absent lo hi f
    have clamped : clampPack pf.toNat tf.toNat tfMin.toNat tfMax.toNat pl.toNat = if hi < lo then none else some f :=
      clampPack_eq _ _ _ _ _
    refine ⟨fun bad => ?_, fun p hp here straight => ?_⟩
    · refine (exec_amendPack _ _ _ _ _ _ _ _).trans (request_refused hs (actAmendPack_refused ?_))
      by_cases crossed : hi < lo
      · exact .inr (clamped.trans (if_pos crossed))
      · rcases bad with zero | high | gone | cross
        · exact .inl (State.packNamed_none (s := s) (.inl zero))
        · exact .inl (State.packNamed_none (s := s) (.inr (.inl high)))
        · exact .inl (State.packNamed_none (s := s) (.inr (.inr gone)))
        · exact absurd cross crossed
    · have named (k : Nat) : (s.settled k).packNamed pack = some p := State.packNamed_of_code (s := s) hp here
      rw [if_neg (Nat.not_lt.mpr straight)] at clamped
      rw [exec_amendPack]
      refine request_writes hs ?_ rfl
      rw [actAmendPack, named, clamped, PackId.code_eq_toNat hp]
      rfl
  · have none : (s.settleReply (1 + 3 + extra)).packNamed pack = none := State.packNamed_none (s := s) unnamed
    rw [exec_clearFault]
    exact request_refused hs (by rw [actClearFault, none])
  · have named (k : Nat) : (s.settled k).packNamed pack = some p := State.packNamed_of_code (s := s) hp here
    refine ⟨fun sound => ?_, fun fault => ?_⟩
    · have unfaulted : ((s.settled (1 + 3 + extra)).packs.get p).faulted = false := decide_eq_false sound
      rw [exec_clearFault]
      refine request_refused hs ?_
      rw [State.settleReply_eq, actClearFault, named]
      simp only [unfaulted, Bool.false_eq_true, if_false]
    · have faulted : ((s.settled (1 + 3 + extra)).packs.get p).faulted = true := decide_eq_true fault
      rw [exec_clearFault]
      refine request_writes hs ?_ rfl
      rw [actClearFault, named]
      simp only [faulted, if_true, State.reform_uses]
      rw [PackId.code_eq_toNat hp]
      rfl

end Sys2Proof.Machine

namespace Sys2Proof.Machine

/-! ## RST held low -/

theorem State.holdReset_pack (s : State) (p : PackId) : (s.holdReset.packs.get p).state = .released :=
  congrArg PackRecord.state (PackFile.get_all s.packs PackRecord.softReset p)

/-- A request held in reset is not received (R178). -/
theorem request_held {s : State} (held : s.heldInReset = true) {c : Instr} {parts : Byte × List Byte × Nat}
    (hr : requestParts c = some parts) : exec c s = .next s := by
  obtain ⟨act, -, he⟩ := exec_request (code := parts.1) (payload := parts.2.1) (extra := parts.2.2) hr s
  rw [he]
  exact transaction_held held

/-- Held in reset, no command but a pin's change and a reset comes to anything (R175, R178). -/
theorem exec_held {s : State} (held : s.heldInReset = true) {c : Instr} (hc : heldIgnores c = true) :
    exec c s = .next s := by
  cases hr : requestParts c with
  | some parts => exact request_held held hr
  | none =>
    cases c <;> simp only [requestParts, reduceCtorEq, heldIgnores, Bool.false_eq_true] at hr hc
    case frameRejected bytes =>
      cases bytes with
      | nil => rfl
      | cons code rest =>
        change transaction (code :: rest).length (takeFrame code (code :: rest)) s = _
        exact transaction_held held
    case windowTransaction clocked => rw [exec_windowTransaction, if_pos held]
    case noByteTransaction => rfl
    all_goals exact event_held held

/-- Settles O14. -/
theorem heldInResetNothingHappens : Obligations.HeldInResetNothingHappens := by
  refine ⟨fun s => ⟨s.holdReset, exec_rstHeldLow s, rfl, rfl, fun p => ⟨rfl, s.holdReset_pack p⟩, rfl, rfl, rfl, rfl, rfl⟩,
    fun s held => ⟨fun c hc => exec_held held hc, fun i level => ?_, fun p => ?_, ?_, ?_, ?_⟩⟩
  · rw [exec_rawInputChange, State.rawInput, if_pos held]
  · exact if_pos held
  · exact if_pos held
  · exact if_pos held
  · exact if_pos held

/-! ## CLEAR_RATIO and READ_RATIO -/

theorem RatioMap.entry_eq_none {m : RatioMap} {i : Nat} : m.entry i = none ↔ ¬ ∃ e ∈ m.entries, e.index = i := by
  rw [← RatioMap.entry_isSome, ← Option.not_isSome_iff_eq_none]

theorem byte_toNat (b : Byte) : byte b.toNat = b := by simp [byte]

theorem actClearRatio_range {index : Byte} {s : State} (h : ¬ (1 ≤ index.toNat ∧ index.toNat ≤ 32)) :
    actClearRatio index s = .refused .range := by
  unfold actClearRatio
  simp only [← Bool.decide_and, decide_eq_true_eq, if_neg h]

theorem actClearRatio_undefined {index : Byte} {s : State} (low : 1 ≤ index.toNat) (high : index.toNat ≤ 32)
    (h : ¬ ∃ e ∈ s.rmp.entries, e.index = index.toNat) : actClearRatio index s = .refused .notFound := by
  unfold actClearRatio
  simp [low, high, RatioMap.entry_eq_none.mpr h]

theorem actClearRatio_defined {index : Byte} {s : State} (low : 1 ≤ index.toNat) (high : index.toNat ≤ 32)
    (h : ∃ e ∈ s.rmp.entries, e.index = index.toNat) :
    actClearRatio index s =
      if s.indexBusy index.toNat then .refused .busy
      else .ok { s with rmp := { s.rmp with entries := s.rmp.entries.filter fun e => decide (e.index ≠ index.toNat) } }
        [index] := by
  obtain ⟨e, he⟩ := Option.isSome_iff_exists.mp (RatioMap.entry_isSome.mpr h)
  unfold actClearRatio
  simp only [low, high, decide_true, Bool.and_self, if_true, he, byte_toNat]

/-! What READ_RATIO reports, case by case (R52). -/

theorem State.ratioPayload_undefined {s : State} {i : Nat} (low : 1 ≤ i) (h : ∀ e ∈ s.rmp.entries, e.index ≠ i) :
    s.ratioPayload i =
      [byte i, byte (2 * bit (s.rmp.withheld.getLsbD (i - 1))), 0, 0, 0, 0, 0,
        byte (1 + 2 * bit (s.rmp.withheld.getLsbD (i - 1)))] := by
  have missing : s.rmp.entry i = none := RatioMap.entry_eq_none.mpr fun ⟨e, he, hi⟩ => h e he hi
  rw [State.ratioPayload, if_neg (Nat.ne_of_gt low), missing]
  rfl

theorem State.ratioPayload_defined {s : State} {e : RatioEntry} (low : 1 ≤ e.index) (h : s.rmp.entry e.index = some e) :
    s.ratioPayload e.index =
      let held := bit (s.rmp.withheld.getLsbD (e.index - 1))
      let faulty (p : PackId) : Nat := bit (decide ((s.packs.get p).state = .fault))
      [byte e.index, byte (1 + 2 * held + 4 * bit e.usable), byte e.direction.code, byte e.speed.pack.code,
        byte e.range.pack.code, byte (e.rn / 256), byte e.rn,
        byte (2 * held + 4 * faulty e.direction.pack + 8 * faulty e.speed.pack + 16 * faulty e.range.pack)] := by
  rw [State.ratioPayload, if_neg (Nat.ne_of_gt low), h]
  rfl

/-- An index up to 32 is answered with its payload. -/
theorem exec_readRatio_of_le {s : State} (hs : s.listens) (extra : Nat) {index : Byte} (h : index.toNat ≤ 32) :
    exec (.readRatio extra index) s = .next (s.answered (4 + extra) ⟨0x22, .ok, s.ratioPayload index.toNat⟩) :=
  (exec_readRatio extra index s).trans (request_reads hs (if_pos h))

/-- Settles O31. -/
theorem clearAndReadRatioActOnTheEntry : Obligations.ClearAndReadRatioActOnTheEntry := by
  refine ⟨fun extra index s hs => ?_, fun extra index s hs law => ?_⟩
  · intro i refuses coded defined busy
    have present (hd : defined) (low : 1 ≤ i) (high : i ≤ 32) (k : Nat) :=
      actClearRatio_defined (s := s.settled k) low high hd
    refine ⟨fun range => ?_, fun ⟨low, high⟩ undefined => ?_, fun ⟨low, high⟩ hd hb => ?_, fun ⟨low, high⟩ hd free => ?_⟩
    · exact (exec_clearRatio extra index s).trans (request_refused hs (actClearRatio_range range))
    · exact (exec_clearRatio extra index s).trans (request_refused hs (actClearRatio_undefined low high undefined))
    · refine (exec_clearRatio extra index s).trans (request_refused hs ?_)
      rw [State.settleReply_eq, present hd low high]
      exact if_pos ((s.indexBusy_iff i).mpr hb)
    · refine (exec_clearRatio extra index s).trans (request_writes hs ?_ rfl)
      rw [present hd low high]
      exact if_neg (mt (s.indexBusy_iff i).mp free)
  · intro i answers held faulty
    refine ⟨fun high => ?_, fun neutral => ?_, fun low high undefined => ?_, fun e he hi => ?_⟩
    · exact (exec_readRatio extra index s).trans (request_refused hs (if_neg (Nat.not_le.mpr high)))
    · refine (exec_readRatio_of_le hs extra (neutral.trans_le (Nat.zero_le _))).trans ?_
      rw [show index.toNat = 0 from neutral]
      rfl
    · have payload := State.ratioPayload_undefined low undefined
      rw [byte_toNat] at payload
      rw [← payload]
      exact exec_readRatio_of_le hs extra high
    · have found := law.entry_of_mem he
      obtain ⟨-, ranges, -⟩ := law
      obtain ⟨low, high, -⟩ := ranges e he
      have payload := State.ratioPayload_defined low found
      rw [show e.index = index.toNat from hi, byte_toNat] at payload
      rw [hi] at high
      refine (exec_readRatio_of_le hs extra high).trans ?_
      rw [payload]

end Sys2Proof.Machine

namespace Sys2Proof.Machine

/-! ## DEFINE_RATIO -/

/-! ### The codes an entry is written by (R183) -/

theorem Direction.ofCode_code (d : Direction) : Direction.ofCode d.code = some d := by cases d <;> rfl

theorem SpeedPack.ofCode_code (p : SpeedPack) : SpeedPack.ofCode p.pack.code = some p := by cases p <;> rfl

theorem RangePack.ofCode_code (g : RangePack) : RangePack.ofCode g.pack.code = some g := by cases g <;> rfl

theorem Direction.code_inj {d d' : Direction} : d.code = d'.code ↔ d = d' :=
  ⟨fun h => Option.some.inj (by rw [← d.ofCode_code, h, d'.ofCode_code]), congrArg _⟩

theorem SpeedPack.code_inj {p p' : SpeedPack} : p.pack.code = p'.pack.code ↔ p = p' :=
  ⟨fun h => Option.some.inj (by rw [← p.ofCode_code, h, p'.ofCode_code]), fun h => h ▸ rfl⟩

theorem RangePack.code_inj {g g' : RangePack} : g.pack.code = g'.pack.code ↔ g = g' :=
  ⟨fun h => Option.some.inj (by rw [← g.ofCode_code, h, g'.ofCode_code]), fun h => h ▸ rfl⟩

theorem Direction.exists_code {c : Nat} (low : 1 ≤ c) (high : c ≤ 2) : ∃ d : Direction, d.code = c := by
  interval_cases c
  · exact ⟨.fwd, rfl⟩
  · exact ⟨.rev, rfl⟩

theorem SpeedPack.exists_code {c : Nat} (low : 3 ≤ c) (high : c ≤ 8) : ∃ p : SpeedPack, p.pack.code = c := by
  interval_cases c
  · exact ⟨.sp1, rfl⟩
  · exact ⟨.sp2, rfl⟩
  · exact ⟨.sp3, rfl⟩
  · exact ⟨.sp4, rfl⟩
  · exact ⟨.sp5, rfl⟩
  · exact ⟨.sp6, rfl⟩

theorem RangePack.exists_code {c : Nat} (low : 9 ≤ c) (high : c ≤ 11) : ∃ g : RangePack, g.pack.code = c := by
  interval_cases c
  · exact ⟨.rngA, rfl⟩
  · exact ⟨.rngB, rfl⟩
  · exact ⟨.rngC, rfl⟩

theorem Direction.code_of_ofCode {c : Nat} {d : Direction} (h : Direction.ofCode c = some d) : 1 ≤ c ∧ c ≤ 2 := by
  unfold Direction.ofCode at h
  split at h
  case h_3 => cases h
  all_goals decide

theorem SpeedPack.code_of_ofCode {c : Nat} {p : SpeedPack} (h : SpeedPack.ofCode c = some p) : 3 ≤ c ∧ c ≤ 8 := by
  unfold SpeedPack.ofCode at h
  split at h
  case h_7 => cases h
  all_goals decide

theorem RangePack.code_of_ofCode {c : Nat} {g : RangePack} (h : RangePack.ofCode c = some g) : 9 ≤ c ∧ c ≤ 11 := by
  unfold RangePack.ofCode at h
  split at h
  case h_4 => cases h
  all_goals decide

/-! ### The checks -/

section
variable {m : RatioMap} {e x z : RatioEntry}

theorem State.speedFitted_iff {s : State} {p : SpeedPack} :
    s.speedFitted p = true ↔ s.straps.gearset = .six ∨ p.pack.code ≤ 6 := by
  unfold State.speedFitted State.fitted
  cases s.straps.gearset <;> cases p <;> decide

theorem RatioMap.duplicates_iff :
    m.duplicates e = true ↔ ∃ x ∈ m.entries, x.index ≠ e.index ∧ x.direction.code = e.direction.code ∧
      x.speed.pack.code = e.speed.pack.code ∧ x.range.pack.code = e.range.pack.code := by
  simp only [RatioMap.duplicates, List.any_eq_true, Bool.and_eq_true, decide_eq_true_eq, Direction.code_inj,
    SpeedPack.code_inj, RangePack.code_inj, and_assoc]

/-- The last entry below is the one of the highest index. -/
theorem RatioMap.below_nearest (h : indexOrder m.entries) :
    (m.below e).getLast? = some z ↔ z ∈ m.below e ∧ ∀ y ∈ m.below e, y.index ≤ z.index := by
  constructor
  · intro hz
    obtain ⟨mem, last⟩ := RatioMap.below_last h hz
    exact ⟨mem, fun y hy => (last y hy).elim (fun same => same ▸ Nat.le_refl _) Nat.le_of_lt⟩
  · rintro ⟨mem, nearest⟩
    obtain ⟨w, hw⟩ := Option.isSome_iff_exists.mp (List.getLast?_isSome.mpr (List.ne_nil_of_mem mem))
    obtain ⟨wmem, last⟩ := RatioMap.below_last h hw
    rcases last z mem with rfl | nearer
    · exact hw
    · exact absurd nearer (Nat.not_lt.mpr (nearest w wmem))

/-- The first entry above is the one of the lowest index. -/
theorem RatioMap.above_nearest (h : indexOrder m.entries) :
    (m.above e).head? = some z ↔ z ∈ m.above e ∧ ∀ y ∈ m.above e, z.index ≤ y.index := by
  constructor
  · intro hz
    obtain ⟨mem, least⟩ := RatioMap.above_first h hz
    exact ⟨mem, fun y hy => (least y hy).elim (fun same => same ▸ Nat.le_refl _) Nat.le_of_lt⟩
  · rintro ⟨mem, nearest⟩
    obtain ⟨w, hw⟩ := Option.isSome_iff_exists.mp (List.isSome_head?.mpr (List.ne_nil_of_mem mem))
    obtain ⟨wmem, least⟩ := RatioMap.above_first h hw
    rcases least z mem with rfl | nearer
    · exact hw
    · exact absurd nearer (Nat.not_lt.mpr (nearest w wmem))

/-- Another entry of an entry's direction. -/
def RatioMap.sibling (m : RatioMap) (e x : RatioEntry) : Prop :=
  x ∈ m.entries ∧ x.direction.code = e.direction.code ∧ x.index ≠ e.index

theorem RatioMap.mem_below_sibling : x ∈ m.below e ↔ m.sibling e x ∧ x.index < e.index := by
  rw [RatioMap.mem_below, RatioMap.sibling, Direction.code_inj]

theorem RatioMap.mem_above_sibling : x ∈ m.above e ↔ m.sibling e x ∧ e.index < x.index := by
  rw [RatioMap.mem_above, RatioMap.sibling, Direction.code_inj]

/-- The ordering check takes the nearest siblings on either side (R50). -/
theorem RatioMap.inOrder_nearest (h : indexOrder m.entries) :
    m.inOrder e = true ↔
      (∀ x, m.sibling e x → x.index < e.index →
        (∀ y, m.sibling e y → y.index < e.index → y.index ≤ x.index) → x.rn < e.rn) ∧
      ∀ x, m.sibling e x → e.index < x.index →
        (∀ y, m.sibling e y → e.index < y.index → x.index ≤ y.index) → e.rn < x.rn := by
  simp only [RatioMap.inOrder_iff, RatioMap.below_nearest h, RatioMap.above_nearest h, RatioMap.mem_below_sibling,
    RatioMap.mem_above_sibling, and_imp]

end

/-! ### The answer -/

/-- The fields of a request that code no entry are refused (R49). -/
theorem actDefineRatio_range {index direction speed range : Byte} {rn : Half} {s : State}
    (h : ¬ (1 ≤ index.toNat ∧ index.toNat ≤ 32 ∧ 1 ≤ direction.toNat ∧ direction.toNat ≤ 2 ∧ 3 ≤ speed.toNat ∧
      speed.toNat ≤ 8 ∧ 9 ≤ range.toNat ∧ range.toNat ≤ 11 ∧ 1 ≤ rn.toNat ∧ rn.toNat ≤ 1500)) :
    actDefineRatio index direction speed range rn s = .refused .range := by
  unfold actDefineRatio
  simp only
  split
  next hd hp hg =>
    obtain ⟨d1, d2⟩ := Direction.code_of_ofCode hd
    obtain ⟨p1, p2⟩ := SpeedPack.code_of_ofCode hp
    obtain ⟨g1, g2⟩ := RangePack.code_of_ofCode hg
    refine if_neg fun coded => h ?_
    simp only [Bool.and_eq_true, decide_eq_true_eq] at coded
    obtain ⟨⟨⟨i1, i2⟩, r1⟩, r2⟩ := coded
    exact ⟨i1, i2, d1, d2, p1, p2, g1, g2, r1, r2⟩
  · rfl

/-- The fields of a request code an entry. -/
structure RatioEntry.codedBy (e : RatioEntry) (index direction speed range : Byte) (rn : Half) : Prop where
  index : e.index = index.toNat
  direction : e.direction.code = direction.toNat
  speed : e.speed.pack.code = speed.toNat
  range : e.range.pack.code = range.toNat
  rn : e.rn = rn.toNat
  indexRange : 1 ≤ e.index ∧ e.index ≤ 32
  rnRange : 1 ≤ e.rn ∧ e.rn ≤ 1500
  unformed : e.usable = false

theorem RatioEntry.exists_codedBy {index direction speed range : Byte} {rn : Half}
    (h : 1 ≤ index.toNat ∧ index.toNat ≤ 32 ∧ 1 ≤ direction.toNat ∧ direction.toNat ≤ 2 ∧ 3 ≤ speed.toNat ∧
      speed.toNat ≤ 8 ∧ 9 ≤ range.toNat ∧ range.toNat ≤ 11 ∧ 1 ≤ rn.toNat ∧ rn.toNat ≤ 1500) :
    ∃ e : RatioEntry, e.codedBy index direction speed range rn := by
  obtain ⟨i1, i2, d1, d2, p1, p2, g1, g2, r1, r2⟩ := h
  obtain ⟨d, hd⟩ := Direction.exists_code d1 d2
  obtain ⟨p, hp⟩ := SpeedPack.exists_code p1 p2
  obtain ⟨g, hg⟩ := RangePack.exists_code g1 g2
  exact ⟨⟨index.toNat, d, p, g, rn.toNat, false⟩, rfl, hd, hp, hg, rfl, ⟨i1, i2⟩, ⟨r1, r2⟩, rfl⟩

section
variable {index direction speed range : Byte} {rn : Half} {e : RatioEntry}

theorem RatioEntry.codedBy.act (h : e.codedBy index direction speed range rn) (s : State) :
    actDefineRatio index direction speed range rn s =
      match s.defineCheck e with
      | some status => .refused status
      | none =>
        .ok (s.defineEntry e)
          [index, direction, speed, range, byte (rn.toNat / 256), byte rn.toNat,
            byte (bit (formUsable s.rmp s.packs e))] := by
  obtain ⟨index', d, p, g, rn', usable⟩ := e
  obtain ⟨hi, hd, hp, hg, hr, ⟨i1, i2⟩, ⟨r1, r2⟩, hu⟩ := h
  simp only at hi hd hp hg hr i1 i2 r1 r2 hu
  subst hi hr hu
  have bytes : RatioEntry.bytes ⟨index.toNat, d, p, g, rn.toNat, false⟩ =
      [direction, speed, range, byte (rn.toNat / 256), byte rn.toNat] := by
    simp only [RatioEntry.bytes, hd, hp, hg, byte_toNat]
    rfl
  have coded : (1 ≤ index.toNat && index.toNat ≤ 32 && 1 ≤ rn.toNat && rn.toNat ≤ 1500) = true := by
    simp only [i1, i2, r1, r2, decide_true, Bool.and_self]
  have forward : Direction.ofCode direction.toNat = some d := hd ▸ d.ofCode_code
  have driven : SpeedPack.ofCode speed.toNat = some p := hp ▸ p.ofCode_code
  have geared : RangePack.ofCode range.toNat = some g := hg ▸ g.ofCode_code
  unfold actDefineRatio
  simp only [forward, driven, geared, coded, if_true, bytes, byte_toNat]
  rfl

end

/-- The checks in their order, said without negation (R49). -/
theorem State.defineCheck_eq (s : State) (e : RatioEntry) :
    s.defineCheck e =
      if s.speedFitted e.speed = true then
        if s.indexBusy e.index = true then some .busy
        else if s.rmp.duplicates e = true then some .duplicate
        else if s.rmp.inOrder e = true then none
        else some .order
      else some .range := by
  unfold State.defineCheck
  cases s.speedFitted e.speed <;> cases s.rmp.inOrder e <;> rfl

section
variable {index direction speed range : Byte} {rn : Half} {e : RatioEntry} {s : State}

/-- A check that fails refuses the request with its status. -/
theorem RatioEntry.codedBy.refused (h : e.codedBy index direction speed range rn) (hs : s.listens) (extra : Nat)
    {status : Status} (check : s.defineCheck e = some status) :
    exec (.defineRatio extra index direction speed range rn) s = .next (s.answered (9 + extra) ⟨0x20, status, []⟩) := by
  refine (exec_defineRatio _ _ _ _ _ _ s).trans (request_refused hs ((h.act _).trans ?_))
  have stands : (s.settleReply (6 + 3 + extra)).defineCheck e = some status := check
  rw [stands]

/-- A request that passes its checks writes the coded entry with its usability formed (R49, R54). -/
theorem RatioEntry.codedBy.written (h : e.codedBy index direction speed range rn) (hs : s.listens) (extra : Nat)
    (check : s.defineCheck e = none) :
    exec (.defineRatio extra index direction speed range rn) s =
      .next ((s.defineEntry e).answered (9 + extra)
        ⟨0x20, .ok, [index, direction, speed, range, byte (rn.toNat / 256), byte rn.toNat,
          byte (bit (formUsable s.rmp s.packs e))]⟩) := by
  refine (exec_defineRatio _ _ _ _ _ _ s).trans (request_writes hs ((h.act _).trans ?_) rfl)
  have stands : (s.settled (6 + 3 + extra)).defineCheck e = none := check
  rw [stands]
  rfl

end

/-- Settles O30. -/
theorem defineRatioWritesTheEntry : Obligations.DefineRatioWritesTheEntry := by
  intro extra index direction speed range rn s hs law i refuses coded fitted busy double same ordered
  have sorted := law.indexOrder
  have checked (hc : coded) : ∃ e : RatioEntry, e.codedBy index direction speed range rn ∧
      (s.speedFitted e.speed = true ↔ fitted) ∧ (s.indexBusy e.index = true ↔ busy) ∧
      (s.rmp.duplicates e = true ↔ double) ∧ (s.rmp.inOrder e = true ↔ ordered) := by
    obtain ⟨e, he⟩ := RatioEntry.exists_codedBy hc
    have fit := State.speedFitted_iff (s := s) (p := e.speed)
    have single := RatioMap.duplicates_iff (m := s.rmp) (e := e)
    have placed := RatioMap.inOrder_nearest (e := e) sorted
    simp only [RatioMap.sibling, he.index, he.direction, he.rn] at placed
    rw [he.speed] at fit
    rw [he.index, he.direction, he.speed, he.range] at single
    exact ⟨e, he, fit, by rw [he.index]; exact s.indexBusy_iff _, single, placed⟩
  refine ⟨fun uncoded => ?_, fun hc unfit => ?_, fun hc fit hb => ?_, fun hc fit free hd => ?_,
    fun hc fit free one unordered => ?_, fun hc fit free one placed => ?_⟩
  · exact (exec_defineRatio _ _ _ _ _ _ s).trans (request_refused hs (actDefineRatio_range uncoded))
  · obtain ⟨e, he, hfit, -⟩ := checked hc
    exact he.refused hs extra (by rw [State.defineCheck_eq, if_neg (mt hfit.mp unfit)])
  · obtain ⟨e, he, hfit, hbusy, -⟩ := checked hc
    exact he.refused hs extra (by rw [State.defineCheck_eq, if_pos (hfit.mpr fit), if_pos (hbusy.mpr hb)])
  · obtain ⟨e, he, hfit, hbusy, hdouble, -⟩ := checked hc
    exact he.refused hs extra (by
      rw [State.defineCheck_eq, if_pos (hfit.mpr fit), if_neg (mt hbusy.mp free), if_pos (hdouble.mpr hd)])
  · obtain ⟨e, he, hfit, hbusy, hdouble, horder⟩ := checked hc
    exact he.refused hs extra (by
      rw [State.defineCheck_eq, if_pos (hfit.mpr fit), if_neg (mt hbusy.mp free), if_neg (mt hdouble.mp one),
        if_neg (mt horder.mp unordered)])
  · obtain ⟨e, he, hfit, hbusy, hdouble, horder⟩ := checked hc
    have check : s.defineCheck e = none := by
      rw [State.defineCheck_eq, if_pos (hfit.mpr fit), if_neg (mt hbusy.mp free), if_neg (mt hdouble.mp one),
        if_pos (horder.mpr placed)]
    let w : RatioEntry := { e with usable := formUsable s.rmp s.packs e }
    have usable := formUsable_iff s.rmp s.packs e
    rw [he.index] at usable
    have member (x : RatioEntry) : x ∈ insertEntry w s.rmp.entries ↔ x = w ∨ (x ∈ s.rmp.entries ∧ x.index ≠ i) := by
      rw [mem_insertEntry sorted, show w.index = i from he.index]
    exact ⟨w, insertEntry w s.rmp.entries, he.index, he.direction, he.speed, he.range, he.rn, usable,
      List.pairwise_map.mpr (insertEntry_indexOrder sorted), member, he.written hs extra check⟩

end Sys2Proof.Machine

namespace Sys2Proof.Machine

/-! ## The grant decision -/

/-! ### The longest fill -/

theorem le_foldl_max {α : Type} (f : α → Nat) (l : List α) (start : Nat) :
    start ≤ l.foldl (fun t x => max t (f x)) start ∧ ∀ x ∈ l, f x ≤ l.foldl (fun t x => max t (f x)) start := by
  induction l generalizing start with
  | nil => exact ⟨Nat.le_refl _, nofun⟩
  | cons y rest ih =>
    obtain ⟨grown, above⟩ := ih (max start (f y))
    refine ⟨(Nat.le_max_left _ _).trans grown, fun x hx => ?_⟩
    rcases List.mem_cons.mp hx with rfl | hx
    · exact (Nat.le_max_right _ _).trans grown
    · exact above x hx

theorem foldl_max_attained {α : Type} (f : α → Nat) (l : List α) (start : Nat) :
    l.foldl (fun t x => max t (f x)) start = start ∨ ∃ x ∈ l, f x = l.foldl (fun t x => max t (f x)) start := by
  induction l generalizing start with
  | nil => exact .inl rfl
  | cons y rest ih =>
    rcases ih (max start (f y)) with same | ⟨x, hx, at_⟩
    · rcases Nat.le_total start (f y) with above | below
      · exact .inr ⟨y, List.mem_cons_self, by rw [List.foldl_cons, same, Nat.max_eq_right above]⟩
      · exact .inl (by rw [List.foldl_cons, same, Nat.max_eq_left below])
    · exact .inr ⟨x, List.mem_cons_of_mem _ hx, at_⟩

/-- The longest fill is the largest of the active fill times, and one of them (R99). -/
theorem PackFile.longestFill_spec (f : PackFile) {ps : List PackId} (h : ∃ p, p ∈ ps) :
    (∀ p ∈ ps, (f.get p).active.tf ≤ f.longestFill ps) ∧ ∃ p ∈ ps, (f.get p).active.tf = f.longestFill ps := by
  obtain ⟨-, above⟩ := le_foldl_max (fun p => (f.get p).active.tf) ps 0
  refine ⟨above, ?_⟩
  rcases foldl_max_attained (fun p => (f.get p).active.tf) ps 0 with zero | attained
  · obtain ⟨p, hp⟩ := h
    exact ⟨p, hp, Nat.le_antisymm (above p hp) (zero.trans_le (Nat.zero_le _))⟩
  · exact attained

/-! ### A round of the decision -/

section
variable {s t : State}

theorem State.grantDecision_of_none (h : s.fsa.grantee = none) : s.grantDecision = s := by
  rw [State.grantDecision, State.grantRounds, h]

/-- A grant that puts a pack into FILL is the decision whole (R72). -/
theorem State.grantDecision_of_grantee {r : Requester} (h : s.fsa.grantee = some r)
    (fills : (s.grantTo r).fsa.fillList ≠ []) : s.grantDecision = s.grantTo r := by
  rw [State.grantDecision, State.grantRounds, h]
  exact if_neg (by simpa using fills)

theorem Supply.grantee_of_free {f : Supply} (holder : f.holder = none) (charge : f.charge = .ok) :
    f.grantee = f.waiting.first := by
  rw [Supply.grantee, holder, charge]

theorem Supply.grantee_of_not_free {f : Supply} (h : ¬ (f.holder = none ∧ f.charge = .ok)) : f.grantee = none := by
  unfold Supply.grantee
  split
  next holder charge => exact absurd ⟨holder, charge⟩ h
  · rfl

theorem Supply.grantee_of_empty {f : Supply} (h : f.waiting = ⟨false, false, false⟩) : f.grantee = none := by
  unfold Supply.grantee
  rw [h]
  split <;> rfl

/-- A grant offers no notice. -/
theorem State.grantTo_nts (s : State) (r : Requester) : (s.grantTo r).nts = s.nts := by
  cases r with
  | shift =>
    change (State.grantShift _).nts = _
    unfold State.grantShift
    split <;> rfl
  | front => rfl
  | cal =>
    change (State.grantCal _).nts = _
    unfold State.grantCal
    split <;> rfl

theorem State.grantRounds_nts (n : Nat) (s : State) : (s.grantRounds n).nts = s.nts := by
  induction n generalizing s with
  | zero => rfl
  | succ n ih =>
    unfold State.grantRounds
    split
    · rfl
    next r _ =>
      simp only
      split
      · exact (ih _).trans (s.grantTo_nts r)
      · exact s.grantTo_nts r

theorem exec_grant (h : s.heldInReset = false) : exec .fillSupplyGrant s = .next s.grantDecision := by
  refine event_short h ?_
  rw [State.grantDecision, State.grantRounds_nts]
  exact Nat.le_succ _

/-! ### What a grant fills -/

/-- The packs of a list enter FILL, each at its staged fields, and make up the fill list (R58, R70). -/
def State.filled (s : State) (ps : List PackId) (t : State) : Prop :=
  (∀ p ∈ ps, p ∈ t.fsa.fillList) ∧ (∀ p ∈ t.fsa.fillList, p ∈ ps) ∧
  ∀ p, t.packs.get p =
    if p ∈ ps then
      { s.packs.get p with
        active := (s.packs.get p).staged.getD (s.packs.get p).active
        atLimit := if (s.packs.get p).staged.isSome then 0 else (s.packs.get p).atLimit
        staged := none
        state := .fill }
    else s.packs.get p

theorem State.filled_of_order {ps : List PackId} (rest : ∀ p ∈ ps, (s.packs.get p).state = .released)
    (packs : t.packs = s.packs.order ps PackRecord.toFill) (listed : t.fsa.fillList = ps) : s.filled ps t := by
  refine ⟨fun p hp => listed ▸ hp, fun p hp => listed ▸ hp, fun p => ?_⟩
  rw [packs, PackFile.get_order PackRecord.toFill_isOrder.again]
  split
  next hp => rw [PackRecord.toFill_of_released (rest p hp), PackRecord.applyStaged_eq]
  · rfl

/-! ### The grant under the laws -/

/-- The waiter of highest priority of a free supply is granted it. -/
theorem exec_grant_to (held : s.heldInReset = false) {r : Requester} (free : s.fsa.holder = none ∧ s.fsa.charge = .ok)
    (first : s.fsa.waiting.first = some r) (done : s.grantTo r = t) (fills : t.fsa.fillList ≠ []) :
    exec .fillSupplyGrant s = .next t := by
  subst done
  obtain ⟨holder, charge⟩ := free
  rw [exec_grant held, State.grantDecision_of_grantee ((Supply.grantee_of_free holder charge).trans first) fills]

end

/-- Settles O36, requester by requester. -/
theorem theGrantGoesToTheFirstWaiter : Obligations.TheGrantGoesToTheFirstWaiter := by
  refine ⟨fun s r => ?_, fun s held laws => ?_⟩
  · intro waits joined
    have has : s.fsa.waiting.has r = waits := rfl
    have put : s.fsa.waiting.put r true = joined := rfl
    refine ⟨fun already => ?_, fun idle other => ?_, exec_grant⟩
    · exact if_pos (by simpa [has] using already)
    · rw [State.requestSupply, if_neg (by simp [has, idle, other]), put]
  · obtain ⟨ratio, -, record, cal, gear, supply, front, -, -⟩ := laws
    obtain ⟨-, -, route⟩ := s.recordLaw_iff.mp record
    have supplied := s.supplyLaw_iff.mp supply
    intro filled free
    refine ⟨fun none => ?_, fun hf shift r hr => ?_, fun hf shift waits => ?_, fun hf shift noFront j waits hj => ?_⟩
    · rw [exec_grant held, State.grantDecision_of_none]
      exact none.elim Supply.grantee_of_not_free Supply.grantee_of_empty
    · have rest : ∀ p ∈ r.onComing, (s.packs.get p).state = .released := fun _ hp =>
        (route r hr).onComing_released gear hr (supplied.shiftWaits.mpr shift) hp
      have coming := (route r hr).onComing_ne_nil ratio
      have fills : r.onComing ≠ [] := coming.elim fun _ hp => List.ne_nil_of_mem hp
      have first : s.fsa.waiting.first = some .shift := if_pos shift
      refine ⟨_, exec_grant_to held hf first (State.grantTo_shift hr rest) fills, State.filled_of_order rest rfl rfl, rfl,
        ⟨_, rfl, PackFile.longestFill_spec _ coming⟩, rfl, rfl, rfl, rfl, rfl, rfl, rfl, rfl, rfl, rfl⟩
    · obtain ⟨-, fdp⟩ := front.of_waits waits
      have rest : ∀ p ∈ [PackId.fdp], (s.packs.get p).state = .released := fun p hp => by
        obtain rfl := List.mem_singleton.mp hp
        exact fdp
      have first : s.fsa.waiting.first = some .front := by simp [Waiting.first, shift, waits]
      exact ⟨_, exec_grant_to held hf first (State.grantTo_front fdp) (List.cons_ne_nil _ _),
        State.filled_of_order rest rfl rfl, rfl⟩
    · obtain ⟨x, hx, phase⟩ := supplied.calWaits.mpr waits
      obtain rfl := Option.some.inj (hj.symm.trans hx)
      have rest : ∀ p ∈ [j.partner1, j.partner2], (s.packs.get p).state = .released := fun _ hp =>
        cal.packs_released gear hj phase (List.mem_cons_of_mem _ hp)
      have first : s.fsa.waiting.first = some .cal := by simp [Waiting.first, shift, noFront, waits]
      exact ⟨_, exec_grant_to held hf first (State.grantTo_cal hj rest) (List.cons_ne_nil _ _),
        State.filled_of_order rest rfl rfl, rfl⟩

end Sys2Proof.Machine

namespace Sys2Proof.Machine

/-! ## NOP and STATUS -/

theorem State.frontLaw.fdp_state {s : State} (h : s.frontLaw) :
    s.packs.fdp.state = .released ∨ s.packs.fdp.state = .fill ∨ s.packs.fdp.state = .locked := by
  cases phase : s.frd.phase with
  | rest => exact .inl (h.rest phase).1
  | waiting => exact .inl (h.waiting phase).1
  | filling => exact .inr (.inl (h.filling phase).1)
  | holding => exact .inr (.inr (h.holding phase).1)

/-- FDP's state code tells its command (R77). -/
theorem State.frontLaw.packCommand_fdp {s : State} (h : s.frontLaw) :
    s.packCommand .fdp =
      if byte s.packs.fdp.state.code = 1 then s.packs.fdp.active.pf
      else if byte s.packs.fdp.state.code = 3 then s.packs.fdp.active.pl
      else 0 := by
  have command : s.packCommand .fdp = s.packs.fdp.command s.cau.stepPressure := rfl
  rw [command, PackRecord.command]
  rcases h.fdp_state with fdp | fdp | fdp <;> rw [fdp] <;> rfl

theorem ChargeState.code_eq (c : ChargeState) : c.code = bit (decide (c = .low)) := by
  cases c <;> rfl

theorem Straps.code_eq (p : Straps) :
    p.code = bit (decide (p.gearset = .six)) + 2 * bit (decide (p.fdkind = .pressure)) := by
  obtain ⟨gearset, fdkind⟩ := p
  cases gearset <;> cases fdkind <;> rfl

/-- The fifteen bytes of the snapshot (R182). -/
theorem State.snapshot_eq (s : State) :
    s.snapshot =
      [byte s.she.pr, byte s.she.nr, byte s.she.state.code, byte (bit s.engaged), byte s.packs.fdp.state.code,
       byte s.htc.mode.code, byte (s.mfe.p.held / 256), byte s.mfe.p.held, byte (s.tbc.demand / 256),
       byte s.tbc.demand, byte (bit (decide (s.fsa.charge = .low))), byte (holderCode s.fsa.holder),
       byte (bit s.rlk.road + 2 * bit s.rlk.shiftHold), byte s.nts.notices.length,
       byte (bit (decide (s.straps.gearset = .six)) + 2 * bit (decide (s.straps.fdkind = .pressure)))] := by
  rw [← ChargeState.code_eq, ← Straps.code_eq]
  rfl

/-- Settles O7: both requests answer the state they were given. -/
theorem nopAndStatusOnlyRead : Obligations.NopAndStatusOnlyRead := by
  intro extra s hs
  refine ⟨?_, ?_, fun ⟨_, _, _, _, _, _, front, _⟩ => front.packCommand_fdp⟩
  · rw [exec_nop]
    exact (request_reads hs rfl).trans (by rw [Nat.zero_add])
  · rw [exec_status]
    refine (request_reads hs (congrArg (Answer.ok _) (State.snapshot_eq _))).trans ?_
    rw [Nat.zero_add]
    rfl

/-! ## SET_SUPPLY and the charge arrival -/

theorem exec_setSupply_of_listens {s : State} (h : s.listens) (extra : Nat) (pcMin : Byte) :
    exec (.setSupply extra pcMin) s =
      .next (State.answered { s with fsa := { s.fsa with pcMin := max 80 (min 200 pcMin.toNat) } } (4 + extra)
        ⟨0x71, .ok, [byte (max 80 (min 200 pcMin.toNat))]⟩) := by
  rw [exec_setSupply]
  refine request_writes h ?_ rfl
  rw [actSetSupply, clamp_eq (by decide)]
  rfl

/-- The charge state a charge arrival judges, by the channel and the threshold (R66). -/
theorem chargeAfter_eq (pc : Chan) (pcMin : Nat) (present : ChargeState) :
    chargeAfter pc pcMin present =
      if pc.state = .failed then .low
      else if pc.held < pcMin then .low
      else if pcMin + 10 ≤ pc.held then .ok
      else present := by
  simp only [chargeAfter, Chan.failed, decide_eq_true_eq]

/-- A state with a sample at the charge channel and the charge state judged by it (R66). -/
def State.judgeCharge (s : State) (pc : Sample) : State :=
  let c := s.mfe.pc.sample 300 pc
  { s with mfe := { s.mfe with pc := c }, fsa := { s.fsa with charge := chargeAfter c s.fsa.pcMin s.fsa.charge } }

theorem State.chargeSet_same {s : State} {pc : Sample} (h : (s.judgeCharge pc).fsa.charge = s.fsa.charge) :
    s.chargeSet pc = s.judgeCharge pc := by
  refine (if_pos h).trans ?_
  change _ = ({ s with mfe := _, fsa := { s.fsa with charge := (s.judgeCharge pc).fsa.charge } } : State)
  rw [h]

theorem State.chargeSet_changed {s : State} {pc : Sample} (h : (s.judgeCharge pc).fsa.charge ≠ s.fsa.charge) :
    s.chargeSet pc = (s.judgeCharge pc).chargeChanged := if_neg h

/-- A waiting shift has its timer started at LOW and stopped at OK (R98). -/
theorem State.chargeAtShift_eq (s : State) :
    s.chargeAtShift =
      if s.fsa.waiting.shift = true ∧ s.she.state = .supplyWait then
        { s with she := { s.she with timer := if s.fsa.charge = .low then some 2000 else none } }
      else s := by
  simp only [State.chargeAtShift, Bool.and_eq_true, decide_eq_true_eq]
  cases s.fsa.charge <;> rfl

theorem State.chargeAtShift_fsa (s : State) : s.chargeAtShift.fsa = s.fsa := by
  unfold State.chargeAtShift
  split <;> rfl

/-! Whom the supply is granted to does not move the charge state. -/

theorem State.grantTo_charge (s : State) (r : Requester) : (s.grantTo r).fsa.charge = s.fsa.charge := by
  cases r with
  | shift =>
    change (State.grantShift _).fsa.charge = _
    unfold State.grantShift
    split <;> rfl
  | front => rfl
  | cal =>
    change (State.grantCal _).fsa.charge = _
    unfold State.grantCal
    split <;> rfl

theorem State.grantRounds_charge (n : Nat) (s : State) : (s.grantRounds n).fsa.charge = s.fsa.charge := by
  induction n generalizing s with
  | zero => rfl
  | succ n ih =>
    unfold State.grantRounds
    split
    · rfl
    next r _ =>
      simp only
      split
      · exact (ih _).trans (s.grantTo_charge r)
      · exact s.grantTo_charge r

theorem State.leaveFill_charge (s : State) (ps : List PackId) : (s.leaveFill ps).fsa.charge = s.fsa.charge := by
  unfold State.leaveFill
  simp only
  split
  · exact State.grantRounds_charge 3 _
  · rfl

theorem State.abortCal_charge (s : State) (c : AbortCause) : (s.abortCal c).fsa.charge = s.fsa.charge := by
  unfold State.abortCal
  split
  · rfl
  · simp only
    split_ifs
    · exact State.leaveFill_charge _ _
    · exact State.leaveFill_charge _ _
    · rfl
    · rfl

/-- A change of the charge state, by the state it goes to (R67, R98, R126). -/
theorem State.chargeChanged_eq (s : State) :
    s.chargeChanged =
      if s.fsa.charge = .ok then s.offerCharge.chargeAtShift.grantDecision
      else if s.fsa.waiting.cal then s.offerCharge.chargeAtShift.abortCal .supply
      else s.offerCharge.chargeAtShift := by
  have fsa : s.offerCharge.chargeAtShift.fsa = s.fsa := State.chargeAtShift_fsa _
  unfold State.chargeChanged State.chargeAtCal
  cases charge : s.fsa.charge with
  | ok => simp [fsa, charge]
  | low =>
    by_cases waits : s.fsa.waiting.cal = true
    · have aborted : (s.offerCharge.chargeAtShift.abortCal .supply).fsa.charge = .low := by
        rw [State.abortCal_charge, fsa, charge]
      simp [fsa, charge, waits, aborted]
    · simp [fsa, charge, waits]

/-- A charge arrival judges the charge state, and acts on a change alone (R66, R67). -/
theorem exec_chargeArrival_judged {s : State} (hs : s.heldInReset = false) (pc : Sample) :
    ∃ t, exec (.chargeArrival pc) s = .next t ∧
      ((s.judgeCharge pc).fsa.charge = s.fsa.charge → t = s.judgeCharge pc) ∧
      ((s.judgeCharge pc).fsa.charge ≠ s.fsa.charge →
        State.sameButOrder s.nts.notices.length (s.judgeCharge pc).chargeChanged t) := by
  rw [exec_chargeArrival]
  by_cases stands : (s.judgeCharge pc).fsa.charge = s.fsa.charge
  · have set := State.chargeSet_same stands
    refine ⟨s.judgeCharge pc, ?_, fun _ => rfl, fun other => absurd stands other⟩
    rw [event_short hs (by rw [set]; exact Nat.le_succ _), set]
  · obtain ⟨t, done, same⟩ := event_sameButOrder (State.chargeSet pc) hs
    exact ⟨t, done, fun other => absurd other stands, fun _ => State.chargeSet_changed stands ▸ same⟩

/-- Settles O35. -/
theorem chargeStateFollowsPressureAndThreshold : Obligations.ChargeStateFollowsPressureAndThreshold := by
  refine ⟨fun extra pcMin s hs => exec_setSupply_of_listens hs extra pcMin, fun pc s hs => ?_⟩
  have judged := chargeAfter_eq (s.mfe.pc.sample 300 pc) s.fsa.pcMin s.fsa.charge
  obtain ⟨t, done, stands, moves⟩ := exec_chargeArrival_judged hs pc
  rw [State.chargeChanged_eq, State.chargeAtShift_eq] at moves
  refine ⟨_, t, Chan.sample_follows 300 pc _, done, ?_⟩
  rw [← judged]
  exact ⟨stands, moves⟩

end Sys2Proof.Machine

namespace Sys2Proof.Machine

/-! ## What the driveline law says of the pressures -/

/-! ### One pack of each group -/

/-- How many packs of a group are among a list of packs. -/
def groupCount (g ps : List PackId) : Nat := g.countP fun p => p ∈ ps

theorem groupCount_nil (g : List PackId) : groupCount g [] = 0 := by simp [groupCount]

/-- A ratio has one pack of each group (R47). -/
theorem RatioEntry.groupCount_packs {g : List PackId} (hg : g ∈ packGroups) (e : RatioEntry) :
    groupCount g e.packs = 1 := by
  obtain ⟨_, direction, speed, range, _, _⟩ := e
  change groupCount g [direction.pack, speed.pack, range.pack] = 1
  revert g
  cases direction <;> cases speed <;> cases range <;> decide

theorem State.groupCount_packsOf {g : List PackId} (hg : g ∈ packGroups) (s : State) (i : Nat) :
    groupCount g (s.packsOf i) ≤ 1 := by
  unfold State.packsOf
  split
  · exact (groupCount_nil g).trans_le (Nat.zero_le 1)
  next e _ => exact (e.groupCount_packs hg).le

/-- A calibration works one pack of each group (R121). -/
theorem PackId.groupCount_partners {g : List PackId} (hg : g ∈ packGroups) {p a b : PackId}
    (h : p.partners = some (a, b)) : groupCount g [p, a, b] = 1 := by
  revert g
  cases p <;> cases h <;> decide

theorem gearbox_of_group {g : List PackId} (hg : g ∈ packGroups) {p : PackId} (hp : p ∈ g) : p ∈ gearboxPacks := by
  rw [mem_gearboxPacks]
  rintro rfl
  revert g
  decide

/-! ### The pressed packs -/

section
variable {s : State} {g : List PackId}

/-- A pack at rest is not pressed (R60). -/
theorem State.packCommand_of_resting {p : PackId} (h : (s.packs.get p).resting) : s.packCommand p = 0 := by
  rw [State.packCommand, PackRecord.command]
  rcases h with rest | rest <;> rw [rest]

theorem State.pressed_eq (s : State) (g : List PackId) : s.pressed g = g.countP fun p => s.packCommand p ≠ 0 :=
  List.countP_eq_length_filter.symm

/-- Where every pack of a group but those of a list is at rest, those are all that may be pressed. -/
theorem State.pressed_le (hg : g ∈ packGroups) {ps : List PackId}
    (rest : ∀ p ∈ gearboxPacks, p ∉ ps → (s.packs.get p).resting) : s.pressed g ≤ groupCount g ps := by
  rw [State.pressed_eq]
  refine List.countP_mono_left fun p hp pressed => ?_
  by_contra other
  simp only [decide_eq_true_eq] at pressed other
  exact pressed (State.packCommand_of_resting (rest p (gearbox_of_group hg hp) other))

theorem groupCount_append_le (g ps qs : List PackId) : groupCount g (ps ++ qs) ≤ groupCount g ps + groupCount g qs := by
  induction g with
  | nil => exact Nat.le_refl _
  | cons p rest ih =>
    unfold groupCount at ih ⊢
    simp only [List.countP_cons, List.mem_append, decide_eq_true_eq] at ih ⊢
    by_cases first : p ∈ ps
    · simp only [first, true_or, if_true]
      omega
    · simp only [first, false_or, if_false]
      omega

/-- The packs of a shift's two ratios, at most two of a group. -/
theorem State.pressed_of_shift (hg : g ∈ packGroups) {r : ShiftRecord}
    (rest : ∀ p ∈ gearboxPacks, p ∉ s.packsOf r.origin ++ s.packsOf r.dest → (s.packs.get p).resting) :
    s.pressed g ≤ 2 := by
  have origin := s.groupCount_packsOf hg r.origin
  have dest := s.groupCount_packsOf hg r.dest
  have both := groupCount_append_le g (s.packsOf r.origin) (s.packsOf r.dest)
  exact (State.pressed_le hg rest).trans (by omega)

/-- In FILL and HANDOVER the packs that no shift works are at rest (R99, R101). -/
theorem State.routed.resting_of_other {r : ShiftRecord} (route : s.routed r) {p : PackId}
    (places : s.shiftPlaces r p (s.packs.get p)) (flying : s.she.state.inFlight = true)
    (other : p ∉ s.packsOf r.origin ++ s.packsOf r.dest) : (s.packs.get p).resting := by
  rw [List.mem_append, not_or] at other
  obtain ⟨notOrigin, notDest⟩ := other
  have notComing : p ∉ r.onComing := fun h => notDest (route.mem_onComing.mp h).1
  have notGoing : p ∉ r.offGoing := fun h => notOrigin (route.mem_offGoing.mp h).1
  have notCommon : p ∉ r.common := fun h => notDest (route.mem_common.mp h).1
  cases state : s.she.state with
  | supplyWait => simpa [State.shiftPlaces_supplyWait state, notOrigin, notComing] using places
  | fill => simpa [State.shiftPlaces_fill state, notOrigin, notComing] using places
  | handover => simpa [State.shiftPlaces_handover state, notComing, notGoing, notCommon] using places
  | confirm => simpa [State.shiftPlaces_confirm state, notDest] using places
  | settled | interval | calHold => simp [state, EngineState.inFlight] at flying

/-- With no shift between two ratios, at most one pack of a group is pressed. -/
theorem State.pressed_le_one (hg : g ∈ packGroups) (laws : s.drivelineLaw)
    (calm : ¬ (s.she.state = .fill ∨ s.she.state = .handover)) : s.pressed g ≤ 1 := by
  obtain ⟨-, -, record, cal, gear, -⟩ := laws
  obtain ⟨flight, -, route⟩ := s.recordLaw_iff.mp record
  cases hj : s.cau.job with
  | some j =>
    obtain ⟨-, job⟩ := cal
    obtain ⟨-, -, partners, -⟩ := job j hj
    refine (State.pressed_le hg fun p hp other => ?_).trans (PackId.groupCount_partners hg partners).le
    exact (gear.cal hj hp).other other
  | none =>
    cases hr : s.she.record with
    | none =>
      refine (State.pressed_le hg fun p hp other => ?_).trans (s.groupCount_packsOf hg s.she.pr)
      exact (if_neg other).mp (gear.rest hj hr hp)
    | some r =>
      have flying : s.she.state.inFlight = true := by rw [← flight, hr]; rfl
      cases state : s.she.state with
      | supplyWait =>
        refine (State.pressed_le hg fun p hp other => ?_).trans (s.groupCount_packsOf hg r.origin)
        have places := (State.shiftPlaces_supplyWait state).mp (gear.shift hr hp)
        rw [if_neg other] at places
        split_ifs at places
        · exact .inl places
        · exact places
      | confirm =>
        refine (State.pressed_le hg fun p hp other => ?_).trans (s.groupCount_packsOf hg r.dest)
        exact (if_neg other).mp ((State.shiftPlaces_confirm state).mp (gear.shift hr hp))
      | fill => exact absurd (.inl state) calm
      | handover => exact absurd (.inr state) calm
      | settled | interval | calHold => simp [state, EngineState.inFlight] at flying

/-- At most two packs of a group are pressed, and two only in FILL and HANDOVER (R96). -/
theorem State.pressed_le_two (hg : g ∈ packGroups) (laws : s.drivelineLaw) :
    s.pressed g ≤ 2 ∧ (s.pressed g = 2 → s.she.state = .fill ∨ s.she.state = .handover) := by
  by_cases between : s.she.state = .fill ∨ s.she.state = .handover
  · obtain ⟨-, -, record, -, gear, -⟩ := laws
    obtain ⟨flight, -, route⟩ := s.recordLaw_iff.mp record
    have flying : s.she.state.inFlight = true := by rcases between with state | state <;> rw [state] <;> rfl
    obtain ⟨r, hr⟩ := Option.isSome_iff_exists.mp (flight.trans flying)
    exact ⟨State.pressed_of_shift hg fun p hp other => (route r hr).resting_of_other (gear.shift hr hp) flying other,
      fun _ => between⟩
  · have one := State.pressed_le_one hg laws between
    exact ⟨by omega, fun two => by omega⟩

end

/-! ### Who fills, who waits and who holds -/

section
variable {s : State}

/-- A calibration's gearbox pack in FILL is one of its partners (R123). -/
theorem CalJob.places_fill_partner {j : CalJob} {id : PackId} {p : PackRecord} (h : j.places id p)
    (fill : p.state = .fill) : id = j.partner1 ∨ id = j.partner2 := by
  by_contra other
  rw [not_or] at other
  have places := (CalJob.places_filling (CalJob.places_fill h fill)).mp h
  rw [if_neg other.1, if_neg other.2] at places
  split_ifs at places
  · simp [fill] at places
  · exact places.ne_fill fill

/-- A shift's gearbox pack in FILL is on-coming (R99). -/
theorem State.shiftPlaces_fill_onComing {r : ShiftRecord} {id : PackId} {p : PackRecord}
    (flying : s.she.state.inFlight = true) (h : s.shiftPlaces r id p) (fill : p.state = .fill) : id ∈ r.onComing := by
  by_contra other
  have places := (State.shiftPlaces_fill (State.shiftPlaces_filled flying h fill)).mp h
  rw [if_neg other] at places
  split_ifs at places
  · simp [fill] at places
  · exact places.ne_fill fill

/-- Every gearbox pack in FILL belongs to the shift or the calibration that holds the supply (R70). -/
theorem State.drivelineLaw.fill_holder (laws : s.drivelineLaw) {p : PackId} (hp : p ∈ gearboxPacks)
    (fill : (s.packs.get p).state = .fill) :
    (s.fsa.holder = some .shift ∧ ∃ r, s.she.record = some r ∧ p ∈ r.onComing) ∨
      (s.fsa.holder = some .cal ∧ ∃ j, s.cau.job = some j ∧ (p = j.partner1 ∨ p = j.partner2)) := by
  obtain ⟨-, -, record, -, gear, supply, -⟩ := laws
  obtain ⟨flight, -, -⟩ := s.recordLaw_iff.mp record
  have supplied := s.supplyLaw_iff.mp supply
  cases hj : s.cau.job with
  | some j =>
    have places := gear.cal hj hp
    exact .inr ⟨supplied.calHolds.mp ⟨j, hj, CalJob.places_fill places fill⟩, j, rfl, CalJob.places_fill_partner places fill⟩
  | none =>
    cases hr : s.she.record with
    | some r =>
      have flying : s.she.state.inFlight = true := by rw [← flight, hr]; rfl
      have places := gear.shift hr hp
      exact .inl ⟨supplied.shiftHolds.mp (State.shiftPlaces_filled flying places fill), r, rfl,
        State.shiftPlaces_fill_onComing flying places fill⟩
    | none =>
      have places := gear.rest hj hr hp
      simp [State.restPlaces, PackRecord.resting, fill] at places

/-- A requester that holds the supply does not wait for it (R70). -/
theorem State.supplied.not_waits (h : s.supplied) (front : s.frontLaw) {r : Requester} (holds : s.fsa.holder = some r) :
    s.fsa.waiting.has r = false := by
  cases r with
  | shift =>
    refine Bool.eq_false_iff.mpr fun waits => ?_
    have fill := h.shiftHolds.mpr holds
    rw [h.shiftWaits.mpr waits] at fill
    cases fill
  | front => exact front.waits fun waiting => (front.waiting waiting).2.2 holds
  | cal =>
    refine Bool.eq_false_iff.mpr fun waits => ?_
    obtain ⟨j, hj, filling⟩ := h.calHolds.mpr holds
    have waiting := (CalUnit.inPhase_of_some hj _).mp (h.calWaits.mpr waits)
    rw [filling] at waiting
    cases waiting

end

/-- Settles O60. -/
theorem theDrivelineLawBoundsThePressures : Obligations.TheDrivelineLawBoundsThePressures := by
  intro s laws
  obtain ⟨-, present, -, -, -, supply, front, -, braking⟩ := id laws
  have waits {r : Requester} (holds : s.fsa.holder = some r) := (s.supplyLaw_iff.mp supply).not_waits front holds
  refine ⟨fun g hg => State.pressed_le_two hg laws, fun pr => ?_, fun p fill => ?_, waits, waits, waits,
    fun spring brakes => ?_⟩
  · obtain ⟨e, he, sound⟩ := present pr
    obtain ⟨mem, index⟩ := RatioMap.entry_mem he
    exact ⟨e, mem, index, sound⟩
  · split_ifs with hp
    · subst hp
      exact front.fdp_fill.mp fill
    · exact laws.fill_holder (mem_gearboxPacks.mpr hp) fill
  · exact State.packCommand_of_resting (.inl (front.rest (braking spring brakes)).1)

end Sys2Proof.Machine

namespace Sys2Proof.Machine

/-! ## FRONT alone at the arbiter

Where neither a shift nor a calibration waits, a grant goes to FRONT if to anyone, so that what FRONT does
there leaves the gearbox, the engine and the Calibration Unit as they are. -/

/-- Neither SHIFT nor CAL waits for the supply. -/
def Supply.frontAlone (f : Supply) : Prop := f.waiting.shift = false ∧ f.waiting.cal = false

/-- What a state `t` still has of a state `s` after FRONT acted at the arbiter and on FDP with nobody else
waiting, the trailer demand was computed, and the event's notices were put in order. -/
structure State.FrontFrame (s t : State) : Prop where
  others : t =
    { s with packs := t.packs, fsa := t.fsa, frd := t.frd, tbc := t.tbc, nts := t.nts, draws := t.draws }
  packs : ∀ p, p ≠ .fdp → t.packs.get p = s.packs.get p
  alone : s.fsa.frontAlone → t.fsa.frontAlone
  holder : t.fsa.holder = some .shift → s.fsa.holder = some .shift
  fillList : ∀ p ∈ t.fsa.fillList, p ≠ .fdp → p ∈ s.fsa.fillList

namespace State.FrontFrame

variable {s t u : State}

theorem refl (s : State) : s.FrontFrame s := ⟨rfl, fun _ _ => rfl, id, id, fun _ h _ => h⟩

theorem trans (h : s.FrontFrame t) (k : t.FrontFrame u) : s.FrontFrame u where
  others := by rw [k.others, h.others]
  packs p hp := (k.packs p hp).trans (h.packs p hp)
  alone hs := k.alone (h.alone hs)
  holder hu := h.holder (k.holder hu)
  fillList p hp other := h.fillList p (k.fillList p hp other) other

theorem she (h : s.FrontFrame t) : t.she = s.she := by rw [h.others]

theorem gearbox (h : s.FrontFrame t) {p : PackId} (hp : p ∈ gearboxPacks) : t.packs.get p = s.packs.get p :=
  h.packs p (mem_gearboxPacks.mp hp)

/-- The front drive's own record, the demand and the notices are no part of the frame. -/
theorem of_own (s : State) (frd : FrontDrive) (tbc : TrailerBrake) (nts : NoticeSet) :
    s.FrontFrame { s with frd := frd, tbc := tbc, nts := nts } :=
  ⟨rfl, fun _ _ => rfl, id, id, fun _ h _ => h⟩

theorem of_order {n : Nat} (h : State.sameButOrder n s t) : s.FrontFrame t := by
  obtain ⟨_, _, -, rfl⟩ := h
  exact ⟨rfl, fun _ _ => rfl, id, id, fun _ h _ => h⟩

/-- An order to FDP. -/
theorem of_fdp (s : State) (g : PackRecord → PackRecord) (frd : FrontDrive) :
    s.FrontFrame { s with packs := s.packs.update g .fdp, frd := frd } :=
  ⟨rfl, fun p hp => by rw [PackFile.get_update, if_neg hp], id, id, fun _ h _ => h⟩

/-- The engine may be another: the frame says that it stands. -/
theorem withEngine (h : s.FrontFrame t) (e : Engine) :
    State.FrontFrame { s with she := e } { t with she := e } where
  others := by rw [h.others]
  packs := h.packs
  alone := h.alone
  holder := h.holder
  fillList := h.fillList

/-- The supply given up. -/
theorem freed (s : State) : s.FrontFrame { s with fsa := { s.fsa with holder := none, fillList := [] } } :=
  ⟨rfl, fun _ _ => rfl, id, nofun, nofun⟩

theorem unheld (s : State) : s.FrontFrame { s with fsa := { s.fsa with holder := none } } :=
  ⟨rfl, fun _ _ => rfl, id, nofun, fun _ h _ => h⟩

/-- FRONT put into the waiting set or taken out of it. -/
theorem putFront (s : State) (b : Bool) (frd : FrontDrive) :
    s.FrontFrame { s with fsa := { s.fsa with waiting := s.fsa.waiting.put .front b }, frd := frd } :=
  ⟨rfl, fun _ _ => rfl, id, id, fun _ h _ => h⟩

theorem grantFront (s : State) : s.FrontFrame (s.grantTo .front) where
  others := rfl
  packs p hp := PackFile.get_order_not_mem PackRecord.toFill_isOrder.again (by simpa using hp)
  alone := id
  holder := nofun
  fillList p hp other := absurd (List.mem_singleton.mp (List.mem_filter.mp hp).1) other

theorem grantRounds (alone : s.fsa.frontAlone) (n : Nat) : s.FrontFrame (s.grantRounds n) := by
  induction n generalizing s with
  | zero => exact refl s
  | succ n ih =>
    unfold State.grantRounds
    split
    · exact refl s
    next r hr =>
      obtain rfl : r = .front := Waiting.first_front alone.1 alone.2 (Supply.grantee_first hr)
      have granted := grantFront s
      simp only
      split
      · exact (granted.trans (unheld _)).trans (ih (granted.alone alone))
      · exact granted

theorem grantDecision (alone : s.fsa.frontAlone) : s.FrontFrame s.grantDecision := grantRounds alone 3

theorem leaveFill (alone : s.fsa.frontAlone) (ps : List PackId) : s.FrontFrame (s.leaveFill ps) := by
  unfold State.leaveFill
  simp only
  split
  · exact (freed s).trans (grantDecision alone)
  · exact ⟨rfl, fun _ _ => rfl, id, id, fun p hp _ => (List.mem_filter.mp hp).1⟩

theorem requestFront (alone : s.fsa.frontAlone) : s.FrontFrame (s.requestSupply .front) := by
  unfold State.requestSupply
  split
  · exact refl s
  · exact (putFront s true s.frd).trans (grantDecision alone)

theorem actOnFdp (alone : s.fsa.frontAlone) : s.FrontFrame s.actOnFdp := by
  have moved (frd : FrontDrive) := of_own s frd s.tbc s.nts
  unfold State.actOnFdp
  split
  · exact (moved _).trans (requestFront alone)
  · exact putFront s false _
  · refine (of_fdp s PackRecord.release _).trans (leaveFill ?_ _)
    exact alone
  · exact (of_fdp s PackRecord.release _).trans (of_own _ _ _ _)
  all_goals exact refl s

theorem evaluateFront (alone : s.fsa.frontAlone) : s.FrontFrame s.evaluateFront :=
  (of_own s (s.frd.evaluate s.causes) s.tbc s.nts).trans (actOnFdp alone)

theorem computeDemand (alone : s.fsa.frontAlone) : s.FrontFrame s.computeDemand :=
  State.computeDemand_rule (P := s.FrontFrame) (of_own s s.frd _ s.nts) fun h => h.trans (evaluateFront (h.alone alone))

theorem slipUpdate (alone : s.fsa.frontAlone) : s.FrontFrame s.slipUpdate :=
  (of_own s _ s.tbc s.nts).trans (evaluateFront alone)

/-- The flag put, and the demand computed where that changes it (R101, R164). -/
theorem setDownshift (alone : s.fsa.frontAlone) (b : Bool) :
    State.FrontFrame { s with she := { s.she with downshift := b } } (s.setDownshift b) := by
  unfold State.setDownshift
  split
  next same =>
    subst same
    exact refl s
  · refine computeDemand ?_
    exact alone

/-- The flag put after FRONT acted, or before. -/
theorem then_setDownshift (h : s.FrontFrame t) (alone : s.fsa.frontAlone) (b : Bool) :
    State.FrontFrame { s with she := { s.she with downshift := b } } (t.setDownshift b) := by
  have engine := h.withEngine { t.she with downshift := b }
  rw [h.she] at engine
  exact engine.trans (h.she ▸ setDownshift (h.alone alone) b)

end State.FrontFrame

theorem State.setDownshift_of_same {s : State} {b : Bool} (h : s.she.downshift = b) : s.setDownshift b = s := if_pos h

/-- Each change of the flag is a computation of the demand (R164). -/
theorem State.setDownshift_demandFormed {s : State} {b : Bool} (h : s.she.downshift ≠ b) :
    (s.setDownshift b).demandFormed := by
  rw [State.setDownshift, if_neg h]
  exact State.computeDemand_demandFormed _

/-! ## The phase timers -/

/-- With a shift in flight past its wait, FRONT alone waits. -/
theorem State.drivelineLaw.frontAlone {s : State} (laws : s.drivelineLaw) {r : ShiftRecord}
    (hr : s.she.record = some r) (past : s.she.state ≠ .supplyWait) : s.fsa.frontAlone := by
  obtain ⟨-, -, record, cal, -, supply, -⟩ := laws
  obtain ⟨flight, -, -⟩ := s.recordLaw_iff.mp record
  have supplied := s.supplyLaw_iff.mp supply
  refine ⟨Bool.eq_false_iff.mpr (mt supplied.shiftWaits.mpr past), Bool.eq_false_iff.mpr fun waits => ?_⟩
  obtain ⟨j, hj, -⟩ := supplied.calWaits.mpr waits
  obtain ⟨hold, -⟩ := cal
  have state : s.she.state = .calHold := by simpa [hj] using hold
  rw [hr, state] at flight
  cases flight

/-- The next state of an event, which is the event's effect itself where that leaves the Notice Set. -/
theorem event_sameButOrder_or_eq (f : State → State) {s : State} (h : s.heldInReset = false) :
    ∃ t, event f s = .next t ∧ State.sameButOrder s.nts.notices.length (f s) t ∧ ((f s).nts = s.nts → t = f s) := by
  by_cases quiet : (f s).nts = s.nts
  · refine ⟨f s, event_short h (by rw [quiet]; exact Nat.le_succ _), ?_, fun _ => rfl⟩
    exact ⟨(f s).nts.notices.drop s.nts.notices.length, (f s).draws, .refl _, by rw [List.take_append_drop]⟩
  · obtain ⟨t, done, same⟩ := event_sameButOrder f h
    exact ⟨t, done, same, fun k => absurd k quiet⟩

theorem State.phaseExpiry_eq {s : State} {e : EngineState} {r : ShiftRecord} (runs : s.she.timer.isSome = true)
    (hr : s.she.record = some r) (he : s.she.state = e) (act : State → ShiftRecord → State) :
    s.phaseExpiry e act = act s r := by
  obtain ⟨k, hk⟩ := Option.isSome_iff_exists.mp runs
  rw [State.phaseExpiry, hk, hr]
  exact if_pos he

theorem handoverTime_eq (p : Profile) (kind : ShiftKind) (load : Nat) :
    handoverTime p kind load = if kind = .startOff then p.tstart else p.tbase - (p.tbase - p.tmin) * load / 255 := by
  cases kind <;> rfl

theorem fallTime_eq (kind : ShiftKind) (time : Nat) :
    fallTime kind time = if kind = .upshift then time / 2 else time := by
  cases kind <;> rfl

theorem ShiftKind.fromNeutral_iff (kind : ShiftKind) : kind.fromNeutral = true ↔ kind = .startOff ∨ kind = .rolling := by
  cases kind <;> decide

/-! ### FILL to HANDOVER -/

section
variable {s : State} {r : ShiftRecord}

/-- The packs HANDOVER starts with, from where FILL has them (R100). -/
theorem PackFile.get_handover_of_fill (route : s.routed r) (he : s.she.state = .fill) (time : Nat) {q : PackId}
    (places : s.shiftPlaces r q (s.packs.get q)) :
    (s.packs.handover r time).get q =
      if q ∈ r.onComing then { s.packs.get q with state := .rising time 0 }
      else if q ∈ r.offGoing then
        { s.packs.get q with state := .falling (s.packs.get q).active.pl (fallTime r.kind time) 0 }
      else s.packs.get q := by
  rw [State.shiftPlaces_fill he] at places
  rw [PackFile.get_handover]
  by_cases coming : q ∈ r.onComing
  · have stays : q ∉ r.offGoing := fun going => (route.mem_onComing.mp coming).2 (route.mem_offGoing.mp going).1
    rw [if_pos coming] at places
    simp only [if_pos coming, if_neg stays, PackRecord.toRising_of_fill places]
  · by_cases going : q ∈ r.offGoing
    · rw [if_neg coming, if_pos (route.mem_offGoing.mp going).1] at places
      simp only [if_neg coming, if_pos going, PackRecord.toFalling_of_locked places]
    · simp only [if_neg coming, if_neg going]

/-- The flag stands in the HANDOVER of a downshift (R101). -/
theorem State.drivelineLaw.downshift_eq (laws : s.drivelineLaw) (hr : s.she.record = some r) :
    s.she.downshift = decide (s.she.state = .handover ∧ r.kind = .downshift) := by
  obtain ⟨-, -, -, -, -, -, -, ⟨-, -, downshift⟩, -⟩ := laws
  rw [Bool.eq_iff_iff, downshift, hr]
  simp

/-- HANDOVER as it starts, its ramps begun and the supply given up, the flag not yet set (R100, R101). -/
def State.rampsBegun (s : State) (r : ShiftRecord) : State :=
  let time := handoverTime s.she.profile r.kind s.tre.loadIndex
  { s with packs := s.packs.handover r time, she := s.she.handover r s.tre.loadIndex time
           fsa := { s.fsa with holder := none, fillList := [] } }

/-- In FILL the supply is the shift's, and its on-coming packs are those in the list (R70, R99). -/
theorem State.drivelineLaw.freedBy_onComing (laws : s.drivelineLaw) (hr : s.she.record = some r)
    (he : s.she.state = .fill) : s.freedBy r.onComing = true := by
  obtain ⟨-, -, -, -, -, supply, front, -, -⟩ := id laws
  have supplied := s.supplyLaw_iff.mp supply
  have holds := supplied.shiftHolds.mp he
  have listed : s.fsa.fillList ≠ [] := fun empty => by simp [supplied.holds.mpr empty] at holds
  have coming : ∀ p ∈ s.fsa.fillList, p ∈ r.onComing := fun p hp => by
    have fill := (supplied.fills p).mpr hp
    have gear : p ≠ .fdp := fun fdp => by
      subst fdp
      simp [front.fdp_fill.mp fill] at holds
    rcases laws.fill_holder (mem_gearboxPacks.mpr gear) fill with ⟨-, r', hr', mem⟩ | ⟨cal, -⟩
    · rwa [Option.some.inj (hr.symm.trans hr')]
    · simp [cal] at holds
  have rest : (s.fsa.fillList.filter fun p => !r.onComing.contains p) = [] := by simpa using coming
  rw [State.freedBy, rest]
  simpa using listed

/-- FRONT may be granted the supply that the shift gives up (R73). -/
theorem State.rampsBegun_granted (laws : s.drivelineLaw) (hr : s.she.record = some r) (he : s.she.state = .fill) :
    (s.rampsBegun r).FrontFrame (s.rampsBegun r).grantDecision ∧ (s.rampsBegun r).grantDecision.she.downshift = false := by
  have granted : (s.rampsBegun r).FrontFrame (s.rampsBegun r).grantDecision :=
    .grantDecision (laws.frontAlone hr (by simp [he]))
  refine ⟨granted, ?_⟩
  rw [granted.she]
  exact (laws.downshift_eq hr).trans (by simp [he])

/-- HANDOVER starts: the supply is granted on, and the flag of a downshift set (R101). -/
theorem State.startHandover_eq (laws : s.drivelineLaw) (hr : s.she.record = some r) (he : s.she.state = .fill) :
    s.startHandover r = (s.rampsBegun r).grantDecision.setDownshift (decide (r.kind = .downshift)) := by
  have left : s.startHandover r =
      if r.kind = .downshift then (s.rampsBegun r).grantDecision.setDownshift true
      else (s.rampsBegun r).grantDecision := by
    unfold State.startHandover
    exact congrArg (fun v : State => if r.kind = .downshift then v.setDownshift true else v)
      (State.leaveFill_of_freed (s := { s with
        packs := s.packs.handover r _, she := s.she.handover r s.tre.loadIndex _ }) (laws.freedBy_onComing hr he))
  rw [left]
  split_ifs with down
  · rw [decide_eq_true down]
  · rw [decide_eq_false down, State.setDownshift_of_same (State.rampsBegun_granted laws hr he).2]

/-- HANDOVER leaves of the state what FRONT, granted the supply, and the brake leave of its start. -/
theorem State.startHandover_frame (laws : s.drivelineLaw) (hr : s.she.record = some r) (he : s.she.state = .fill) :
    State.FrontFrame
      { s.rampsBegun r with she := { (s.rampsBegun r).she with downshift := decide (r.kind = .downshift) } }
      (s.startHandover r) := by
  rw [State.startHandover_eq laws hr he]
  exact (State.rampsBegun_granted laws hr he).1.then_setDownshift (laws.frontAlone hr (by simp [he])) _

theorem State.startHandover_downshift (laws : s.drivelineLaw) (hr : s.she.record = some r) (he : s.she.state = .fill)
    (down : r.kind = .downshift) : (s.startHandover r).demandFormed := by
  rw [State.startHandover_eq laws hr he]
  refine State.setDownshift_demandFormed ?_
  rw [(State.rampsBegun_granted laws hr he).2, decide_eq_true down]
  nofun

/-- No other shift's HANDOVER moves the demand or offers a notice. -/
theorem State.startHandover_quiet (laws : s.drivelineLaw) (hr : s.she.record = some r) (he : s.she.state = .fill)
    (other : r.kind ≠ .downshift) : (s.startHandover r).tbc = s.tbc ∧ (s.startHandover r).nts = s.nts := by
  rw [State.startHandover_eq laws hr he, decide_eq_false other,
    State.setDownshift_of_same (State.rampsBegun_granted laws hr he).2]
  exact ⟨(State.SupplyFrame.grantDecision (s.rampsBegun r)).tbc, State.grantRounds_nts 3 _⟩

/-! ### HANDOVER to CONFIRM -/

/-- The packs CONFIRM starts with, from where HANDOVER has them (R102). -/
theorem PackFile.get_confirm_of_handover (route : s.routed r) (he : s.she.state = .handover) {q : PackId}
    (places : s.shiftPlaces r q (s.packs.get q)) :
    (s.packs.confirm r).get q =
      if q ∈ r.onComing then { s.packs.get q with state := .locked }
      else if q ∈ r.offGoing then { s.packs.get q with state := .released }
      else s.packs.get q := by
  rw [State.shiftPlaces_handover he] at places
  rw [PackFile.get_confirm]
  by_cases coming : q ∈ r.onComing
  · have stays : q ∉ r.offGoing := fun going => (route.mem_onComing.mp coming).2 (route.mem_offGoing.mp going).1
    rw [if_pos coming] at places
    obtain ⟨_, _, rising⟩ := places
    simp only [if_pos coming, if_neg stays, PackRecord.risingToLocked_of_rising rising]
  · by_cases going : q ∈ r.offGoing
    · rw [if_neg coming, if_pos going] at places
      obtain ⟨_, _, _, falling⟩ := places
      have sound : (s.packs.get q).state ≠ .fault := by rw [falling]; nofun
      simp only [if_neg coming, if_pos going, PackRecord.release_of_ne_fault sound]
    · simp only [if_neg coming, if_neg going]

/-- CONFIRM as it starts, the flag not yet cleared (R102). -/
def State.lockedOn (s : State) (r : ShiftRecord) : State :=
  { s with
    packs := s.packs.confirm r
    she := { s.she with
      state := .confirm
      timer := some (if r.kind.fromNeutral then s.she.profile.tcStart else s.she.profile.tc)
      record := some { r with confirmRun := 0 } } }

theorem State.startConfirm_eq (s : State) (r : ShiftRecord) :
    s.startConfirm r = (s.lockedOn r).setDownshift false := rfl

end

/-- Settles O40, phase by phase. -/
theorem phaseTimersCarryTheShift : Obligations.PhaseTimersCarryTheShift := by
  intro r s held laws hr runs
  obtain ⟨-, -, record, -, gear, -⟩ := id laws
  obtain ⟨-, -, route⟩ := s.recordLaw_iff.mp record
  refine ⟨fun he => ?_, fun he => ?_⟩
  · intro l p time fall
    obtain ⟨t, done, same, quiet⟩ := event_sameButOrder_or_eq (fun s => s.phaseExpiry .fill State.startHandover) held
    rw [State.phaseExpiry_eq runs hr he] at same quiet
    have frame := (State.startHandover_frame laws hr he).trans (.of_order same)
    have ht : handoverTime p r.kind l = time := handoverTime_eq _ _ _
    have hf : fallTime r.kind time = fall := fallTime_eq _ _
    refine ⟨t, done, ?_, fun q hq => ?_, mt frame.holder nofun, fun q hq listed => ?_, fun down => ?_, fun other => ?_, ?_⟩
    · rw [frame.she, ← ht]
      rfl
    · rw [frame.gearbox hq, ← hf, ← ht]
      exact PackFile.get_handover_of_fill (route r hr) he _ (gear.shift hr hq)
    · exact List.not_mem_nil (frame.fillList q listed (mem_gearboxPacks.mp hq))
    · exact same.demandFormed (State.startHandover_downshift laws hr he down)
    · obtain ⟨tbc, nts⟩ := State.startHandover_quiet laws hr he other
      rw [quiet nts]
      exact ⟨tbc, nts⟩
    · rw [frame.others]
      exact ⟨rfl, rfl, rfl, rfl, rfl, rfl, rfl⟩
  · obtain ⟨t, done, same, quiet⟩ :=
      event_sameButOrder_or_eq (fun s => s.phaseExpiry .handover State.startConfirm) held
    rw [State.phaseExpiry_eq runs hr he, State.startConfirm_eq] at same quiet
    have alone : (s.lockedOn r).fsa.frontAlone := laws.frontAlone hr (by simp [he])
    have frame := (State.FrontFrame.setDownshift alone false).trans (.of_order same)
    have flag : (s.lockedOn r).she.downshift = decide (r.kind = .downshift) :=
      (laws.downshift_eq hr).trans (by simp [he])
    refine ⟨t, done, ?_, fun q hq => ?_, fun down => ?_, fun other => ?_, ?_⟩
    · rw [frame.she]
      simp only [State.lockedOn, ShiftKind.fromNeutral_iff]
    · rw [frame.gearbox hq]
      exact PackFile.get_confirm_of_handover (route r hr) he (gear.shift hr hq)
    · exact same.demandFormed (State.setDownshift_demandFormed (by rw [flag, decide_eq_true down]; nofun))
    · rw [State.setDownshift_of_same (flag.trans (decide_eq_false other))] at quiet
      rw [quiet rfl]
      rfl
    · rw [frame.others]
      exact ⟨rfl, rfl, rfl, rfl, rfl, rfl, rfl⟩

end Sys2Proof.Machine

namespace Sys2Proof.Machine

/-! ## A speed pair and the shift in flight -/

theorem State.sameButOrder.fsa {n : Nat} {u t : State} (h : State.sameButOrder n u t) : t.fsa = u.fsa := by
  obtain ⟨_, _, -, rfl⟩ := h
  rfl

/-! ### The wait for the supply under a speed pair -/

/-- The shift waits for the supply with its on-coming packs RELEASED. -/
structure State.shiftReady (s : State) (r : ShiftRecord) : Prop where
  record : s.she.record = some r
  waits : s.fsa.waiting.shift = true
  coming : ∃ p, p ∈ r.onComing
  gearbox : ∀ p ∈ r.onComing, p ≠ .fdp
  rest : ∀ p ∈ r.onComing, (s.packs.get p).state = .released

/-- The engine stands, or the waiting shift is granted its FILL (R99). -/
def State.standsOrFills (s : State) (r : ShiftRecord) (t : State) : Prop :=
  t.she = s.she ∨
    t.she.state = .fill ∧ t.she.record = some { r with neRef := s.mfe.ne.held } ∧ t.she.pr = s.she.pr ∧
      t.she.nr = s.she.nr ∧ t.fsa.holder = some .shift

section
variable {s : State} {r : ShiftRecord}

theorem State.driven.shiftReady (h : s.driven) (hr : s.she.record = some r) (he : s.she.state = .supplyWait) :
    s.shiftReady r where
  record := hr
  waits := h.supply.shiftWaits.mp he
  coming := (h.route r hr).onComing_ne_nil h.ratio
  gearbox _ hp := mem_gearboxPacks.mp ((h.route r hr).onComing_gearbox hp)
  rest _ hp := (h.route r hr).onComing_released h.gear hr he hp

theorem State.shiftReady.grantDecision (h : s.shiftReady r) : s.standsOrFills r s.grantDecision := by
  cases hg : s.fsa.grantee with
  | none => exact .inl (by rw [State.grantDecision_of_none hg])
  | some x =>
    have first : s.fsa.waiting.first = some .shift := if_pos h.waits
    obtain rfl : .shift = x := Option.some.inj (first.symm.trans (Supply.grantee_first hg))
    have granted := State.grantTo_shift h.record h.rest
    have fills : (s.grantTo .shift).fsa.fillList ≠ [] := by
      rw [granted]
      exact h.coming.elim fun _ hp => List.ne_nil_of_mem hp
    rw [State.grantDecision_of_grantee hg fills, granted]
    exact .inr ⟨rfl, rfl, rfl, rfl, rfl⟩

theorem State.shiftReady.actOnFdp (h : s.shiftReady r) : s.standsOrFills r s.actOnFdp := by
  have others (p : PackId) (hp : p ∈ r.onComing) :
      ((s.packs.update PackRecord.release .fdp).get p).state = .released := by
    rw [PackFile.get_update, if_neg (h.gearbox p hp)]
    exact h.rest p hp
  unfold State.actOnFdp
  split
  · unfold State.requestSupply
    split
    · exact .inl rfl
    · exact State.shiftReady.grantDecision ⟨h.record, h.waits, h.coming, h.gearbox, h.rest⟩
  · exact .inl rfl
  · unfold State.leaveFill
    simp only
    split
    · exact State.shiftReady.grantDecision ⟨h.record, h.waits, h.coming, h.gearbox, others⟩
    · exact .inl rfl
  all_goals exact .inl rfl

/-- A withdrawn slip may have the front drive give the supply up (R41, R73). -/
theorem State.shiftReady.withdrawSlip (h : s.shiftReady r) : s.standsOrFills r s.withdrawSlip := by
  rw [State.withdrawSlip_eq]
  split
  · exact State.shiftReady.actOnFdp ⟨h.record, h.waits, h.coming, h.gearbox, h.rest⟩
  · exact .inl rfl

end

/-! ### The pair before the engine takes it -/

/-- A speed pair at the channels and the estimator, the slip checked, before the front drive hears of it. -/
def State.pairChecked (s : State) (ne no : Sample) : State :=
  { s.formPair ne no with tre := (s.formPair ne no).checkedSlip }

/-- A speed pair as the engine finds it (R29). -/
def State.pairTaken (s : State) (ne no : Sample) : State := (s.formPair ne no).withdrawSlip

theorem State.speedPair_eq (s : State) (ne no : Sample) :
    s.speedPair ne no = ((s.pairTaken ne no).shiftPair ne.valid).calPair ne.valid := by
  rw [State.pairTaken, ← State.tractionPair_eq]
  rfl

theorem State.pairTaken_frontFrame {s : State} (alone : s.fsa.frontAlone) (ne no : Sample) :
    (s.pairChecked ne no).FrontFrame (s.pairTaken ne no) := by
  unfold State.pairTaken State.pairChecked State.checkedSlip
  rw [State.withdrawSlip_eq]
  split
  · refine State.FrontFrame.slipUpdate (s := (s.formPair ne no).slipWithdrawn) ?_
    exact alone
  · exact .refl _

theorem State.pairTaken_mfe (s : State) (ne no : Sample) : (s.pairTaken ne no).mfe = (s.formPair ne no).mfe :=
  (s.formPair ne no).withdrawSlip_frame.mfe

/-- What the pair measured, the engine and the Calibration Unit leave. -/
theorem State.sameButOrder.pairTaken {s t : State} {ne no : Sample} {n : Nat}
    (h : State.sameButOrder n (s.speedPair ne no) t) :
    t.mfe = (s.pairTaken ne no).mfe ∧ t.tre.rm = (s.pairTaken ne no).tre.rm := by
  obtain ⟨mfe, tre⟩ := h.speedPair
  have frame := (s.formPair ne no).withdrawSlip_frame
  refine ⟨mfe.trans (s.pairTaken_mfe ne no).symm, ?_⟩
  rw [tre, State.pairTaken, frame.tre]

theorem State.calPair_of_none {s : State} (h : s.cau.job = none) (neValid : Bool) : s.calPair neValid = s := by
  rw [State.calPair, h]

/-! ### The onset (R114) -/

section
variable {s : State} {r : ShiftRecord}

/-- The shift in flight with something filled in of its record. -/
def State.withRecord (s : State) (r : ShiftRecord) : State := { s with she := { s.she with record := some r } }

theorem State.withRecord_same (hr : s.she.record = some r) : s.withRecord r = s := by
  rw [State.withRecord, ← hr]

/-- What the engine has seen of the onset once it has taken a pair. -/
def State.onsetSeen (s : State) (r : ShiftRecord) (neValid : Bool) : Option OnsetClass :=
  if neValid = true ∧ r.onset = none ∧ s.mfe.ne.held + 20 ≤ r.neRef then some (s.she.onsetClass r) else r.onset

/-- A pair is examined between the wait and the end of the shift. -/
theorem State.examineOnset_eq (hr : s.she.record = some r) (flying : s.she.state.inFlight = true)
    (past : s.she.state ≠ .supplyWait) (neValid : Bool) :
    s.examineOnset neValid = s.withRecord { r with onset := s.onsetSeen r neValid } := by
  have dips : (neValid && r.onset.isNone && s.she.state.inFlight && decide (s.she.state ≠ .supplyWait) &&
      decide (s.mfe.ne.held + 20 ≤ r.neRef)) = true ↔
        neValid = true ∧ r.onset = none ∧ s.mfe.ne.held + 20 ≤ r.neRef := by
    simp [flying, past, and_assoc]
  unfold State.examineOnset State.onsetSeen
  rw [hr]
  simp only [dips]
  split
  · rfl
  · exact (State.withRecord_same hr).symm

theorem State.examineOnset_of_wait (wait : s.she.state = .supplyWait) (neValid : Bool) :
    s.examineOnset neValid = s := by
  unfold State.examineOnset
  split
  · rfl
  · rw [if_neg (by simp [wait])]

theorem State.confirmPair_of_other (other : s.she.state ≠ .confirm) : s.confirmPair = s := by
  unfold State.confirmPair
  split
  next confirm _ => exact absurd confirm other
  · rfl

/-- The wait of a shift, and the FILL it has just been granted, take nothing from a pair (R114). -/
theorem State.standsOrFills.shiftPair {t : State} (h : s.standsOrFills r t) (wait : s.she.state = .supplyWait)
    (ne : t.mfe.ne.held = s.mfe.ne.held) (neValid : Bool) : t.shiftPair neValid = t := by
  unfold State.shiftPair
  rcases h with she | ⟨fill, record, -⟩
  · have state : t.she.state = .supplyWait := by rw [she, wait]
    rw [State.examineOnset_of_wait state, State.confirmPair_of_other (by simp [state])]
  · have high : ¬ t.mfe.ne.held + 20 ≤ s.mfe.ne.held := by omega
    rw [State.examineOnset_eq record (by rw [fill]; rfl) (by simp [fill]), State.onsetSeen, if_neg (by simp [high]),
      State.withRecord_same record, State.confirmPair_of_other (by simp [fill])]

/-! ### The confirmation run (R103) -/

/-- Rm lies within three per cent of a ratio's nominal one. -/
def closeTo (rm : Option Nat) (rn : Nat) : Prop := ∃ x, rm = some x ∧ (max x rn - min x rn) * 100 ≤ 3 * rn

theorem qualifies_iff (rm : Option Nat) (rn : Nat) : qualifies rm rn = true ↔ closeTo rm rn := by
  unfold qualifies closeTo
  cases rm with
  | none => simp
  | some x =>
    have gap : distance x rn = max x rn - min x rn := by
      unfold distance
      split <;> omega
    simp [gap]

theorem State.confirmPair_breaks (he : s.she.state = .confirm) (hr : s.she.record = some r)
    (far : ¬ closeTo s.tre.rm (s.nominal r.dest)) : s.confirmPair = s.withRecord { r with confirmRun := 0 } := by
  rw [← qualifies_iff] at far
  rw [State.confirmPair, he, hr]
  exact if_neg far

theorem State.confirmPair_advances (he : s.she.state = .confirm) (hr : s.she.record = some r)
    (close : closeTo s.tre.rm (s.nominal r.dest)) (short : r.confirmRun < 2) :
    s.confirmPair = s.withRecord { r with confirmRun := r.confirmRun + 1 } := by
  rw [← qualifies_iff] at close
  rw [State.confirmPair, he, hr]
  exact (if_pos close).trans (if_neg (Nat.not_le.mpr short))

theorem State.confirmPair_completes (he : s.she.state = .confirm) (hr : s.she.record = some r)
    (close : closeTo s.tre.rm (s.nominal r.dest)) (third : 2 ≤ r.confirmRun) :
    s.confirmPair = s.complete { r with confirmRun := 3 } := by
  rw [← qualifies_iff] at close
  rw [State.confirmPair, he, hr]
  exact (if_pos close).trans (if_pos third)

/-! ### Adaptation (R115, R116, R117) -/

/-- A shift that teaches a pack its fill time: an upshift onto it alone, from an Ne_ref of 1200 or more. -/
def ShiftRecord.learns (r : ShiftRecord) (p : PackId) : Prop :=
  r.kind = .upshift ∧ r.onComing = [p] ∧ 1200 ≤ r.neRef

theorem State.adapt_of_learns {p : PackId} (h : r.learns p) (s : State) :
    s.adapt r = s.adjustFill p (r.onset.getD .late) := by
  obtain ⟨up, single, fast⟩ := h
  rw [State.adapt, up, single]
  exact if_pos fast

theorem State.adapt_of_none (h : ∀ p, ¬ r.learns p) (s : State) : s.adapt r = s := by
  unfold State.adapt
  split
  next p up single => exact if_neg fun fast => h p ⟨up, single, fast⟩
  · rfl

theorem State.adjustFill_packs (s : State) (p : PackId) (c : OnsetClass) :
    (s.adjustFill p c).packs = s.packs.update (PackRecord.adjust c) p := by
  unfold State.adjustFill
  simp only
  split <;> rfl

/-- The pack that learns has its record adjusted, and no other pack has. -/
theorem State.adapt_get (s : State) (p : PackId) :
    (r.learns p → (s.adapt r).packs.get p = (s.packs.get p).adjust (r.onset.getD .late)) ∧
      (¬ r.learns p → (s.adapt r).packs.get p = s.packs.get p) := by
  refine ⟨fun h => ?_, fun h => ?_⟩
  · rw [State.adapt_of_learns h, State.adjustFill_packs, PackFile.get_update, if_pos rfl]
  · by_cases other : ∃ q, r.learns q
    · obtain ⟨q, hq⟩ := other
      have ne : p ≠ q := fun same => h (same ▸ hq)
      rw [State.adapt_of_learns hq, State.adjustFill_packs, PackFile.get_update, if_neg ne]
    · rw [State.adapt_of_none (not_exists.mp other)]

/-- The fill time adapted by a class, within its bounds (R116). -/
def PackFields.adapted (f : PackFields) (c : OnsetClass) : Nat :=
  match c with
  | .early => max f.tfMin (min f.tfMax (f.tf - 4))
  | .good => f.tf
  | .late => max f.tfMin (min f.tfMax (f.tf + 4))

theorem adjustedFill_eq {f : PackFields} (h : f.inRange) (c : OnsetClass) : adjustedFill f c = f.adapted c := by
  obtain ⟨-, -, low, least, most, -⟩ := h
  rw [adjustedFill, clampInt_eq (by omega)]
  cases c <;> simp only [candidateFill, PackFields.adapted] <;> omega

/-- An adjustment asked for that does not move the fill time is held at its bound (R116). -/
def PackFields.stuck (f : PackFields) (c : OnsetClass) : Bool := decide (c ≠ .good) && decide (f.adapted c = f.tf)

theorem PackRecord.adjust_eq {p : PackRecord} (h : p.active.inRange) (c : OnsetClass) :
    p.adjust c = { p with
      active := { p.active with tf := p.active.adapted c }
      atLimit := if p.active.stuck c then min 8 (p.atLimit + 1) else 0 } := by
  rw [PackRecord.adjust, heldAtLimit, adjustedFill_eq h]
  rfl

theorem State.offerLimit_shows (enabled : s.nts.enabled .adaptLimit = true) (p : PackId) (c : OnsetClass) :
    let f := (s.packs.get p).active
    (s.offerLimit p c).nts.shows .adaptLimit
      [byte p.code, if c = .early then 1 else 2, byte (f.tf / 256), byte f.tf,
        byte ((if c = .early then f.tfMax else f.tfMin) / 256), byte (if c = .early then f.tfMax else f.tfMin)] := by
  have code : (if c = .early then 1 else 2 : Byte) = byte (if c = .early then 1 else 2) := by cases c <;> rfl
  simp only [code]
  exact NoticeSet.offer_shows enabled _

/-- The eighth adjustment in a row held at a bound raises LIMIT, with the bound reached and the other (R117). -/
theorem State.adapt_shows {p : PackId} (h : r.learns p) (range : (s.packs.get p).active.inRange) :
    let f := (s.packs.get p).active
    let c := r.onset.getD .late
    f.stuck c = true → (s.packs.get p).atLimit = 7 → s.nts.enabled .adaptLimit = true →
      (s.adapt r).nts.shows .adaptLimit
        [byte p.code, if c = .early then 1 else 2, byte (f.adapted c / 256), byte (f.adapted c),
          byte ((if c = .early then f.tfMax else f.tfMin) / 256), byte (if c = .early then f.tfMax else f.tfMin)] := by
  intro f c stuck seven enabled
  have held : heldAtLimit f c = true := by
    rw [heldAtLimit, adjustedFill_eq range]
    exact stuck
  have adjusted : ((s.packs.update (PackRecord.adjust c) p).get p).active = { f with tf := f.adapted c } := by
    rw [PackFile.get_update, if_pos rfl, PackRecord.adjust_eq range]
  have limit : s.adapt r = State.offerLimit { s with packs := s.packs.update (PackRecord.adjust c) p } p c := by
    rw [State.adapt_of_learns h]
    exact if_pos (by rw [held, seven]; rfl)
  have shown := State.offerLimit_shows (s := { s with packs := s.packs.update (PackRecord.adjust c) p }) enabled p c
  rw [limit]
  simpa only [adjusted] using shown

/-! ### Completion (R106) -/

/-- The shift arrived in its destination, and offered to adaptation. -/
def State.taught (s : State) (r : ShiftRecord) : State :=
  State.adapt { s with she := { s.she with pr := r.dest, lastDir := s.directionOf r.dest } } r

/-- The engine a completed shift leaves: at rest where it was halted or has its target, else in INTERVAL. -/
def Engine.completed (e : Engine) (dest : Nat) (dir : Direction) : Engine :=
  let ends := e.halt || decide (dest = e.nr)
  { e with
    pr := dest
    nr := if e.halt then dest else e.nr
    lastDir := dir
    state := if ends then .settled else .interval
    timer := if ends then none else some e.profile.interval
    record := none, halt := false, latchSignal := false }

/-- The notice of a completed shift, where one is due. -/
def NoticeSet.completed (n : NoticeSet) (e : Engine) (dest : Nat) : NoticeSet :=
  let detail := [byte dest, byte dest, byte dest, 0, 0, 0]
  if e.halt = true then n.offer (.shift .halted) detail
  else if dest = e.nr then n.offer (.shift .done) detail
  else n

/-- A completed shift that is offered to the engine's rest: arrived, taught, its latch dropped (R106). -/
def State.shiftLeft (s : State) (r : ShiftRecord) : State :=
  { (s.taught r).dropLatch with she := { (s.taught r).dropLatch.she with record := none } }

theorem State.complete_eq (s : State) (r : ShiftRecord) : s.complete r = (s.shiftLeft r).afterShift r.dest := rfl

theorem State.taught_eq (s : State) (r : ShiftRecord) :
    s.taught r = { s with
      packs := (s.taught r).packs
      nts := (s.taught r).nts
      she := { s.she with pr := r.dest, lastDir := s.directionOf r.dest } } := by
  obtain ⟨_, _, taught, -⟩ := State.adapt_frame
    { s with she := { s.she with pr := r.dest, lastDir := s.directionOf r.dest } } r
  rw [State.taught, taught]

theorem State.shiftLeft_eq (raised : s.she.latchSignal = true) (r : ShiftRecord) :
    s.shiftLeft r = State.formLoadIndex { s with
      packs := (s.taught r).packs
      nts := (s.taught r).nts
      she := { s.she with
        pr := r.dest, lastDir := s.directionOf r.dest, latchSignal := false, record := none }
      htc := { s.htc with latch := none } } := by
  have drop := State.dropLatch_of_raised (s := s.taught r) (by rw [State.taught_eq]; exact raised)
  rw [State.shiftLeft, drop, State.taught_eq]
  rfl

/-- The end of a completed shift, the engine arrived: the engine's rest, and the notice of it (R106, R107). -/
theorem State.afterShift_spec {t : State} {dest : Nat} (arrived : t.she.pr = dest) :
    (t.afterShift dest).packs = t.packs ∧ (t.afterShift dest).cau = t.cau ∧ (t.afterShift dest).htc = t.htc ∧
      (t.afterShift dest).nts = t.nts.completed t.she dest ∧
      (t.afterShift dest).she = { t.she with
        nr := if t.she.halt then dest else t.she.nr
        state := if t.she.halt || decide (dest = t.she.nr) then .settled else .interval
        timer := if t.she.halt || decide (dest = t.she.nr) then none else some t.she.profile.interval
        record := none, halt := false } := by
  subst arrived
  unfold State.afterShift NoticeSet.completed
  by_cases halt : t.she.halt = true
  · rw [if_pos halt, if_pos halt]
    refine ⟨rfl, rfl, rfl, rfl, ?_⟩
    rw [halt]
    rfl
  have low : t.she.halt = false := Bool.eq_false_iff.mpr halt
  by_cases done : t.she.pr = t.she.nr
  · rw [if_neg halt, if_pos done, if_neg halt, if_pos done, ← done]
    refine ⟨rfl, rfl, rfl, rfl, ?_⟩
    rw [low, decide_eq_true rfl]
    rfl
  · rw [if_neg halt, if_neg done, if_neg halt, if_neg done]
    refine ⟨rfl, rfl, rfl, rfl, ?_⟩
    simp [low, done]

theorem State.complete_spec (raised : s.she.latchSignal = true) (r : ShiftRecord) :
    (s.complete r).packs = (s.taught r).packs ∧ (s.complete r).cau = s.cau ∧ (s.complete r).htc.latch = none ∧
      (s.complete r).nts = (s.taught r).nts.completed s.she r.dest ∧
      (s.complete r).she = s.she.completed r.dest (s.directionOf r.dest) := by
  rw [State.complete_eq, State.shiftLeft_eq raised]
  obtain ⟨packs, cau, htc, nts, she⟩ := State.afterShift_spec (dest := r.dest) (t := State.formLoadIndex { s with
      packs := (s.taught r).packs
      nts := (s.taught r).nts
      she := { s.she with
        pr := r.dest, lastDir := s.directionOf r.dest, latchSignal := false, record := none }
      htc := { s.htc with latch := none } }) rfl
  exact ⟨packs, cau, by rw [htc]; rfl, nts, she⟩

/-! The notices of a completed shift (R106, R117). -/

theorem NoticeSet.completed_halted {n : NoticeSet} {e : Engine} (halt : e.halt = true) {dest : Nat}
    (enabled : n.enabled (.shift .halted) = true) :
    (n.completed e dest).shows (.shift .halted) [byte dest, byte dest, byte dest, 0, 0, 0] := by
  rw [NoticeSet.completed, if_pos halt]
  exact NoticeSet.offer_shows enabled _

theorem NoticeSet.completed_done {n : NoticeSet} {e : Engine} (on : e.halt = false) {dest : Nat} (there : dest = e.nr)
    (enabled : n.enabled (.shift .done) = true) :
    (n.completed e dest).shows (.shift .done) [byte dest, byte dest, byte dest, 0, 0, 0] := by
  rw [NoticeSet.completed, if_neg (by simp [on]), if_pos there]
  exact NoticeSet.offer_shows enabled _

theorem NoticeSet.shows.completed {n : NoticeSet} {x : Report} {d : List Byte} (h : n.shows x d)
    (other : x.source ≠ .shift) (e : Engine) (dest : Nat) : (n.completed e dest).shows x d := by
  unfold NoticeSet.completed
  split_ifs
  · exact h.offer (r' := .shift .halted) other _
  · exact h.offer (r' := .shift .done) other _
  · exact h

theorem State.taught_enabled (s : State) (r : ShiftRecord) (x : Report) :
    (s.taught r).nts.enabled x = s.nts.enabled x :=
  (State.MeasureFrame.adapt { s with she := { s.she with pr := r.dest, lastDir := s.directionOf r.dest } } r).enabled x

/-! ### The pair at the engine -/

/-- No pair at the engine moves the Calibration Unit. -/
theorem State.confirmPair_cau (raised : s.she.state = .confirm → s.she.latchSignal = true) :
    s.confirmPair.cau = s.cau := by
  unfold State.confirmPair
  split
  next r confirm _ =>
    split_ifs
    · obtain ⟨-, cau, -⟩ := State.complete_spec (raised confirm) { r with confirmRun := 3 }
      exact cau
    · rfl
    · rfl
  · rfl

end

section
variable {s : State} {r : ShiftRecord} {ne no : Sample}

/-- The engine at a pair past the wait: the onset examined, the confirmation not yet. -/
def State.pairSeen (s : State) (r : ShiftRecord) (ne no : Sample) : State :=
  (s.pairTaken ne no).withRecord { r with onset := (s.pairTaken ne no).onsetSeen r ne.valid }

/-- A speed pair with a shift in flight past its wait is the confirmation's, once the onset is examined. -/
theorem State.speedPair_past (h : s.driven) (hr : s.she.record = some r) (past : s.she.state ≠ .supplyWait) :
    s.speedPair ne no = (s.pairSeen r ne no).confirmPair := by
  have laws := (s.driven_iff.mp h).1
  have flying := h.flying hr
  have frame := State.pairTaken_frontFrame (laws.frontAlone hr past) ne no
  have she : (s.pairTaken ne no).she = s.she := frame.she
  have job : (s.pairSeen r ne no).cau.job = none := by
    change (s.pairTaken ne no).cau.job = none
    rw [frame.others]
    exact h.no_job_of_flying flying
  have raised : (s.pairSeen r ne no).she.state = .confirm → (s.pairSeen r ne no).she.latchSignal = true := by
    change (s.pairTaken ne no).she.state = .confirm → (s.pairTaken ne no).she.latchSignal = true
    rw [she]
    exact fun confirm => h.engine.1.mpr (.inr (.inr confirm))
  rw [State.speedPair_eq, State.shiftPair, State.examineOnset_eq (by rw [she, hr]) (by rw [she, flying]) (by rwa [she])]
  refine State.calPair_of_none ?_ _
  exact (congrArg CalUnit.job (State.confirmPair_cau raised)).trans job

/-- Past the wait, a pair before its confirmation finds the engine, the gearbox packs, the map and the enables as
they were. -/
structure State.seenFrom (s : State) (r : ShiftRecord) (v : State) : Prop where
  she : v.she = { s.she with record := some r }
  packs : ∀ p ∈ gearboxPacks, v.packs.get p = s.packs.get p
  rmp : v.rmp = s.rmp
  enabled : ∀ x, v.nts.enabled x = s.nts.enabled x

theorem State.pairSeen_seenFrom (h : s.driven) (hr : s.she.record = some r) (past : s.she.state ≠ .supplyWait) :
    s.seenFrom { r with onset := (s.pairTaken ne no).onsetSeen r ne.valid } (s.pairSeen r ne no) := by
  have frame := State.pairTaken_frontFrame ((s.driven_iff.mp h).1.frontAlone hr past) ne no
  refine ⟨?_, fun p hp => frame.gearbox hp, ?_, (s.formPair ne no).withdrawSlip_frame.enabled⟩
  · rw [State.pairSeen, State.withRecord, frame.she]
    rfl
  · change (s.pairTaken ne no).rmp = s.rmp
    rw [frame.others]
    rfl

theorem State.seenFrom.directionOf {v : State} (h : s.seenFrom r v) (i : Nat) : v.directionOf i = s.directionOf i := by
  rw [State.directionOf, State.directionOf, h.rmp, h.she]

theorem State.seenFrom.nominal {v : State} (h : s.seenFrom r v) (i : Nat) : v.nominal i = s.nominal i := by
  rw [State.nominal, State.nominal, h.rmp]

end

/-! ### The third pair -/

section
variable {s v : State} {r r' : ShiftRecord} {p : PackId}

theorem State.seenFrom.complete_spec (h : s.seenFrom r v) (raised : s.she.latchSignal = true) (r' : ShiftRecord) :
    (v.complete r').packs = (v.taught r').packs ∧ (v.complete r').htc.latch = none ∧
      (v.complete r').nts = (v.taught r').nts.completed s.she r'.dest ∧
      (v.complete r').she = s.she.completed r'.dest (s.directionOf r'.dest) := by
  obtain ⟨packs, -, latch, nts, she⟩ := State.complete_spec (s := v) (by rw [h.she, raised]) r'
  rw [h.she] at nts she
  rw [h.directionOf] at she
  exact ⟨packs, latch, nts, she⟩

theorem State.seenFrom.taught_enabled (h : s.seenFrom r v) {x : Report} (on : s.nts.enabled x = true) :
    (v.taught r').nts.enabled x = true := by
  rw [State.taught_enabled, h.enabled, on]

/-- What a completed shift leaves of a pack: the one it teaches is adjusted (R115, R116). -/
theorem State.seenFrom.complete_get (h : s.seenFrom r v) (raised : s.she.latchSignal = true) (hp : p ∈ gearboxPacks)
    (range : (s.packs.get p).active.inRange) :
    let f := (s.packs.get p).active
    let c := r'.onset.getD .late
    (¬ r'.learns p → (v.complete r').packs.get p = s.packs.get p) ∧
      (r'.learns p → (v.complete r').packs.get p = { s.packs.get p with
        active := { f with tf := f.adapted c }
        atLimit := if f.stuck c then min 8 ((s.packs.get p).atLimit + 1) else 0 }) := by
  obtain ⟨learns, stands⟩ := State.adapt_get (r := r')
    { v with she := { v.she with pr := r'.dest, lastDir := v.directionOf r'.dest } } p
  obtain ⟨packs, -⟩ := h.complete_spec raised r'
  rw [h.packs p hp] at learns stands
  rw [packs]
  exact ⟨stands, fun teach => (learns teach).trans (PackRecord.adjust_eq range _)⟩

/-- The LIMIT notice of a completed shift (R117). -/
theorem State.seenFrom.complete_limit (h : s.seenFrom r v) (raised : s.she.latchSignal = true) (hp : p ∈ gearboxPacks)
    (range : (s.packs.get p).active.inRange) (teach : r'.learns p) :
    let f := (s.packs.get p).active
    let c := r'.onset.getD .late
    f.stuck c = true → (s.packs.get p).atLimit = 7 → s.nts.enabled .adaptLimit = true →
      (v.complete r').nts.shows .adaptLimit
        [byte p.code, if c = .early then 1 else 2, byte (f.adapted c / 256), byte (f.adapted c),
          byte ((if c = .early then f.tfMax else f.tfMin) / 256), byte (if c = .early then f.tfMax else f.tfMin)] := by
  intro f c stuck seven on
  have same : v.packs.get p = s.packs.get p := h.packs p hp
  have shows := State.adapt_shows (s := { v with she := { v.she with pr := r'.dest, lastDir := v.directionOf r'.dest } })
    teach (by rw [same]; exact range)
  simp only [same] at shows
  obtain ⟨-, -, nts, -⟩ := h.complete_spec raised r'
  rw [nts]
  exact (shows stuck seven ((h.enabled _).trans on)).completed nofun _ _

/-- A shift whose engine was halted ends with HALTED (R106). -/
theorem State.seenFrom.complete_halted (h : s.seenFrom r v) (raised : s.she.latchSignal = true)
    (halt : s.she.halt = true) (on : s.nts.enabled (.shift .halted) = true) :
    (v.complete r').nts.shows (.shift .halted) [byte r'.dest, byte r'.dest, byte r'.dest, 0, 0, 0] := by
  obtain ⟨-, -, nts, -⟩ := h.complete_spec raised r'
  rw [nts]
  exact NoticeSet.completed_halted halt (h.taught_enabled on)

/-- A shift that reaches the target ends with DONE (R107). -/
theorem State.seenFrom.complete_done (h : s.seenFrom r v) (raised : s.she.latchSignal = true)
    (running : s.she.halt = false) (there : r'.dest = s.she.nr) (on : s.nts.enabled (.shift .done) = true) :
    (v.complete r').nts.shows (.shift .done) [byte r'.dest, byte r'.dest, byte r'.dest, 0, 0, 0] := by
  obtain ⟨-, -, nts, -⟩ := h.complete_spec raised r'
  rw [nts]
  exact NoticeSet.completed_done running there (h.taught_enabled on)

end

section
variable {s : State} {r : ShiftRecord} {ne no : Sample}

/-- A speed pair under the wait of a shift (R73, R99, R114). -/
theorem State.speedPair_wait (h : s.driven) (hr : s.she.record = some r) (wait : s.she.state = .supplyWait) :
    s.speedPair ne no = s.pairTaken ne no ∧ (s.formPair ne no).standsOrFills r (s.pairTaken ne no) := by
  have formed : (s.formPair ne no).driven := h.flag_of_driveline rfl
  have stands : (s.formPair ne no).standsOrFills r (s.pairTaken ne no) :=
    (State.driven.shiftReady formed hr wait).withdrawSlip
  have taken : (s.pairTaken ne no).driven := State.driven_withdrawSlip formed
  have held : (s.pairTaken ne no).mfe.ne.held = (s.formPair ne no).mfe.ne.held := by rw [State.pairTaken_mfe]
  have flying : (s.pairTaken ne no).she.state.inFlight = true := by
    rcases stands with she | ⟨fill, -⟩
    · rw [she]
      exact h.flying hr
    · rw [fill]
      rfl
  refine ⟨?_, stands⟩
  rw [State.speedPair_eq, stands.shiftPair wait held, State.calPair_of_none (taken.no_job_of_flying flying)]

end

/-- Settles O43: the wait, the phases before CONFIRM, and the confirmation run broken, advanced and complete. -/
theorem pairsConfirmAndAdapt : Obligations.PairsConfirmAndAdapt := by
  intro ne no r s held laws ranges hr
  have h : s.driven := s.driven_iff.mpr ⟨laws, ranges⟩
  obtain ⟨t, done, same⟩ := event_sameButOrder (State.speedPair ne no) held
  obtain ⟨mfe, rm⟩ := same.pairTaken
  have left := State.FrontFrame.of_order same
  refine ⟨t, done, ?_⟩
  intro sort seen rn close
  by_cases wait : s.she.state = .supplyWait
  · have other : s.she.state ≠ .confirm := by simp [wait]
    refine ⟨fun _ => ?_, fun _ past => absurd wait past, fun confirm => absurd confirm other,
      fun confirm => absurd confirm other, fun confirm => absurd confirm other⟩
    obtain ⟨pair, stands⟩ := State.speedPair_wait (ne := ne) (no := no) h hr wait
    rw [pair] at left same
    rw [left.she, same.mfe, same.fsa, State.pairTaken_mfe]
    exact stands
  have view := State.pairSeen_seenFrom (ne := ne) (no := no) h hr wait
  have onset : (s.pairTaken ne no).onsetSeen r ne.valid = seen := by
    have frame := State.pairTaken_frontFrame (laws.frontAlone hr wait) ne no
    rw [State.onsetSeen, frame.she, ← mfe]
    rfl
  have closeness : closeTo (s.pairSeen r ne no).tre.rm ((s.pairSeen r ne no).nominal r.dest) ↔ close := by
    rw [view.nominal, show (s.pairSeen r ne no).tre.rm = t.tre.rm from rm.symm]
    exact Iff.rfl
  rw [onset] at view
  rw [State.speedPair_past h hr wait] at left same
  generalize s.pairSeen r ne no = v at view closeness left same
  have record : v.she.record = some { r with onset := seen } := by rw [view.she]
  have state : v.she.state = s.she.state := by rw [view.she]
  have stays (k : v.confirmPair.packs = v.packs) (p : PackId) (hp : p ∈ gearboxPacks) :
      t.packs.get p = s.packs.get p := by
    rw [left.gearbox hp, k, view.packs p hp]
  rw [left.she]
  refine ⟨fun waits => absurd waits wait, fun other _ => ?_, fun confirm far => ?_, fun confirm near short => ?_,
    fun confirm near third => ?_⟩
  · have stands := State.confirmPair_of_other (s := v) (by rwa [state])
    exact ⟨by rw [stands, view.she], stays (by rw [stands])⟩
  · have breaks := State.confirmPair_breaks (state.trans confirm) record (mt closeness.mp far)
    exact ⟨by rw [breaks, State.withRecord, view.she], stays (by rw [breaks]; rfl)⟩
  · have advances := State.confirmPair_advances (state.trans confirm) record (closeness.mpr near) short
    exact ⟨by rw [advances, State.withRecord, view.she], stays (by rw [advances]; rfl)⟩
  · have completes := State.confirmPair_completes (state.trans confirm) record (closeness.mpr near) third
    have raised : s.she.latchSignal = true := h.engine.1.mpr (.inr (.inr confirm))
    let ended : ShiftRecord := { r with onset := seen, confirmRun := 3 }
    obtain ⟨-, latch, -, she⟩ := view.complete_spec raised ended
    rw [completes] at same left ⊢
    refine ⟨she, by rw [left.others]; exact latch, fun halt on => same.shows (view.complete_halted raised halt on),
      fun running there on => same.shows (view.complete_done raised running there on), fun p hp => ?_⟩
    obtain ⟨range, -⟩ := ranges.1 p
    obtain ⟨stands, learnt⟩ := view.complete_get (r' := ended) raised hp range
    rw [left.gearbox hp]
    exact ⟨stands, fun learns => ⟨learnt learns, fun stuck seven on =>
      same.shows (view.complete_limit (r' := ended) raised hp range learns stuck seven on)⟩⟩

end Sys2Proof.Machine

namespace Sys2Proof.Machine

/-! ## HALT and SET_SHIFT_PROFILE -/

/-- A SHIFT notice with nothing of its own after the destination (R112). -/
theorem State.offerShift_bare (s : State) (o : ShiftOutcome) (dest : Nat) :
    s.offerShift o dest [] = s.offer (.shift o) [byte s.she.pr, byte s.she.nr, byte dest, 0, 0, 0] := rfl

/-- A state with the engine settled at PR, its target given up (R87, R95). -/
def State.settledAtPr (s : State) : State :=
  { s with she := { s.she with nr := s.she.pr, state := .settled, timer := none } }

theorem actHalt_calHold {s : State} (hold : s.she.state = .calHold) : actHalt s = .refused .busy := if_pos hold

theorem actHalt_atRest {s : State} (rest : s.she.state.atRest) :
    actHalt s =
      .ok (s.settledAtPr.offer (.shift .halted) [byte s.she.pr, byte s.she.pr, 0, 0, 0, 0])
        [byte s.she.pr, byte s.she.pr, 0] := by
  obtain ⟨-, -, -, -, hold⟩ := rest.ne
  rw [actHalt, if_neg hold, if_neg (by rw [rest.not_inFlight]; nofun), State.offerShift_bare]
  rfl

theorem actHalt_inFlight {s : State} (flying : s.she.state.inFlight = true) :
    actHalt s =
      .ok { s with she := { s.she with halt := true } } [byte s.she.pr, byte s.she.nr, byte s.she.state.code] := by
  have hold : s.she.state ≠ .calHold := fun hold => by rw [hold] at flying; cases flying
  rw [actHalt, if_neg hold, if_pos flying]
  rfl

/-- Each parameter of the profile is the nearer end of its range, Tmin's upper end the clamped Tbase (R83). -/
theorem clampProfile_eq (p : ProfileWire) :
    clampProfile p =
      { span := max 1 (min 4 p.span.toNat), interval := max 100 (min 2000 p.interval.toNat)
        tbase := max 200 (min 1500 p.tbase.toNat)
        tmin := max 100 (min (max 200 (min 1500 p.tbase.toNat)) p.tmin.toNat)
        tstart := max 300 (min 3000 p.tstart.toNat), tc := max 100 (min 1000 p.tc.toNat)
        tcStart := max 500 (min 5000 p.tcStart.toNat), shuttle := max 100 (min 2000 p.shuttle.toNat)
        rstart := max 1 (min 1500 p.rstart.toNat), window := max 20 (min 200 p.window.toNat) } := by
  have tbase : clamp 200 1500 p.tbase.toNat = max 200 (min 1500 p.tbase.toNat) := clamp_eq (by decide) _
  have tmin := clamp_eq (lo := 100) (hi := max 200 (min 1500 p.tbase.toNat)) (by omega) p.tmin.toNat
  rw [clampProfile, tbase, tmin]
  simp only [clamp_eq (show 1 ≤ 4 by decide), clamp_eq (show 100 ≤ 2000 by decide), clamp_eq (show 300 ≤ 3000 by decide),
    clamp_eq (show 100 ≤ 1000 by decide), clamp_eq (show 500 ≤ 5000 by decide), clamp_eq (show 1 ≤ 1500 by decide),
    clamp_eq (show 20 ≤ 200 by decide)]

/-- Settles O39. -/
theorem haltAndSetShiftProfile : Obligations.HaltAndSetShiftProfile := by
  intro extra s hs
  refine ⟨fun hold => ?_, fun rest => ?_, fun hold settled interval => ?_, fun p => ?_⟩
  · exact request_refused hs (actHalt_calHold hold)
  · rw [exec_halt, request_ok hs (actHalt_atRest rest) (NoticeSet.offer_length _ _ _), Nat.zero_add]
    exact congrArg Host.Outcome.next (State.settle_answer (State.offer s.settledAtPr _ _) _ _)
  · have flying : s.she.state.inFlight = true := by
      by_contra still
      exact (EngineState.atRest_of hold (Bool.eq_false_iff.mpr still)).elim settled interval
    exact request_writes hs (u := { s with she := { s.she with halt := true } }) (actHalt_inFlight flying) rfl
  · intro tbase f
    have clamped : clampProfile p = f := clampProfile_eq p
    rw [exec_setShiftProfile]
    refine request_writes hs (u := { s with she := { s.she with profile := f } }) ?_ rfl
    rw [actSetShiftProfile, clamped]
    rfl

end Sys2Proof.Machine

namespace Sys2Proof.Machine

/-! ## The notices of a step decision -/

theorem State.requestSupply_nts (s : State) (r : Requester) : (s.requestSupply r).nts = s.nts := by
  unfold State.requestSupply
  split
  · rfl
  · exact State.grantRounds_nts 3 _

/-- A step decision releases PR toward neutral, finds no destination, or begins a shift (R89, R94, R95, R97). -/
theorem State.stepDecision_cases (s : State) :
    s.stepDecision = s.neutralShift ∨ s.stepDecision = s.blocked ∨
      ∃ dest kind, s.stepDecision = s.beginShift dest kind := by
  have choice (dest : Option RatioEntry) (kind : RatioEntry → ShiftKind) :
      s.shiftTo dest kind = s.blocked ∨ ∃ dest' kind', s.shiftTo dest kind = s.beginShift dest' kind' := by
    cases dest with
    | none => exact .inl rfl
    | some b => exact .inr ⟨b, kind b, rfl⟩
  unfold State.stepDecision
  split
  · exact .inl rfl
  refine .inr ?_
  split
  · exact .inl rfl
  split
  · split <;> exact choice _ _
  split
  · exact .inl rfl
  · split <;> exact choice _ _

/-- A step decision offers one notice at most. -/
theorem State.stepDecision_notices (s : State) :
    s.stepDecision.nts.notices.length ≤ s.nts.notices.length + 1 := by
  rcases s.stepDecision_cases with neutral | blocked | ⟨dest, kind, begun⟩
  · rw [neutral]
    exact Nat.le_succ _
  · rw [blocked]
    exact NoticeSet.offer_length _ _ _
  · rw [begun, State.beginShift, State.requestSupply_nts]
    exact Nat.le_succ _

/-! ## The conditions -/

/-- ROAD set where a mask names it takes the hitch to LOCKED, unless it is set (R156). -/
theorem State.putRoad_set (s : State) (named : Bool) :
    (if named then s.putRoad true else s) =
      { s with rlk := { s.rlk with road := s.rlk.road || named }
               htc := if named && !s.rlk.road then s.htc.enter .locked else s.htc } := by
  obtain ⟨_, _, _, _, _, _, _, _, _, _, _, _, _, _, ⟨_, _, _, road, _, _, _⟩, _, _⟩ := s
  cases named <;> cases road <;> rfl

/-- ROAD cleared where a mask names it takes the hitch to HOLD, unless it is clear (R156). -/
theorem State.putRoad_clear (s : State) (named : Bool) :
    (if named then s.putRoad false else s) =
      { s with rlk := { s.rlk with road := s.rlk.road && !named }
               htc := if named && s.rlk.road then s.htc.enter .hold else s.htc } := by
  obtain ⟨_, _, _, _, _, _, _, _, _, _, _, _, _, _, ⟨_, _, _, road, _, _, _⟩, _, _⟩ := s
  cases named <;> cases road <;> rfl

/-- Setting SHIFT_HOLD is no decision of the engine's (R88). -/
theorem State.putShiftHold_set (s : State) (named : Bool) :
    (if named then s.putShiftHold true else s) =
      { s with rlk := { s.rlk with shiftHold := s.rlk.shiftHold || named } } := by
  obtain ⟨_, _, _, _, _, _, _, _, _, _, _, _, _, _, ⟨_, _, _, _, hold, _, _⟩, _, _⟩ := s
  cases named <;> cases hold <;> rfl

/-- Clearing SHIFT_HOLD has the engine decide a step where it stands SETTLED short of its target (R88). -/
theorem State.putShiftHold_clear (s : State) (named : Bool) :
    (if named then s.putShiftHold false else s) =
      let u : State := { s with rlk := { s.rlk with shiftHold := s.rlk.shiftHold && !named } }
      if named && s.rlk.shiftHold && s.she.state = .settled && s.she.pr ≠ s.she.nr then u.stepDecision else u := by
  obtain ⟨_, _, _, _, _, _, _, _, _, _, _, _, _, _, ⟨_, _, _, _, hold, _, _⟩, _, _⟩ := s
  cases named <;> cases hold <;> rfl

/-- Settles O8. -/
theorem conditionsReachTheirBlocks : Obligations.ConditionsReachTheirBlocks := by
  intro extra mask s hs
  refine ⟨fun other => ?_, fun named => ?_, fun named => ?_⟩
  · have bad : ¬ conditionMask mask = true := by simpa [conditionMask] using other
    exact ⟨request_refused hs (if_neg bad), request_refused hs (if_neg bad)⟩
  · have good : conditionMask mask = true := by simpa [conditionMask] using named
    refine request_writes hs ?_ rfl
    rw [actSetCondition, if_pos good]
    simp only [State.putConditions, State.putRoad_set, State.putShiftHold_set]
    rfl
  · have good : conditionMask mask = true := by simpa [conditionMask] using named
    intro k u decides v
    have cleared : k.putConditions mask false = v := by
      simp only [State.putConditions, State.putRoad_clear, State.putShiftHold_clear]
      rfl
    have conditions : v.rlk = u.rlk := by
      unfold v
      split
      · exact u.stepDecision_pending_rlk.2
      · rfl
    have short : v.nts.notices.length ≤ s.nts.notices.length + 1 := by
      unfold v
      split
      · exact u.stepDecision_notices
      · exact Nat.le_succ _
    refine request_ok hs ?_ short
    rw [State.settleReply_eq, actClearCondition, if_pos good, cleared]
    simp only [conditions]
    rfl

end Sys2Proof.Machine

namespace Sys2Proof.Machine

/-! ## SELECT and STEP -/

section
variable {s : State} {i : Nat} {n : Int}

theorem State.driverReady_iff : s.driverReady = true ↔ s.present .park = false ∧ s.present .seat = true := by
  simp [State.driverReady]

/-- An accepted target is set, and decided upon where the engine may decide (R85). -/
theorem State.acceptTarget_eq (s : State) (nr : Nat) :
    s.acceptTarget nr =
      let u : State := { s with she := { s.she with nr := nr, halt := false } }
      if s.she.state = .settled ∧ s.she.pr ≠ nr ∧ s.rlk.shiftHold = false then u.stepDecision else u := by
  simp [State.acceptTarget, and_assoc]

/-! ### The checks of SELECT (R84) -/

/-- The index is neutral's, or that of a defined entry. -/
def State.names (s : State) (i : Nat) : Prop := i = 0 ∨ (i ≤ 32 ∧ (s.rmp.entry i).isSome = true)

/-- The held ground speed lets the target's direction be taken. -/
def State.slowFor (s : State) (i : Nat) : Prop :=
  i = 0 ∨ ∀ e, s.rmp.entry i = some e → e.direction = s.she.lastDir ∨ s.mfe.vg.held ≤ s.she.profile.shuttle

theorem State.names_iff : s.names i ↔ ¬ (decide (i ≠ 0) && (decide (32 < i) || (s.rmp.entry i).isNone)) = true := by
  unfold State.names
  by_cases zero : i = 0 <;> simp [zero, Option.isSome_iff_ne_none]

theorem State.speedAllows_iff {d : Direction} :
    s.speedAllows d = true ↔ d = s.she.lastDir ∨ s.mfe.vg.held ≤ s.she.profile.shuttle := by
  simp [State.speedAllows]

theorem State.selectCheck_range (h : ¬ s.names i) : s.selectCheck i = some .range :=
  if_pos (not_not.mp (mt State.names_iff.mpr h))

theorem State.selectCheck_busy (h : s.names i) (hold : s.she.state = .calHold) : s.selectCheck i = some .busy := by
  rw [State.selectCheck, if_neg (State.names_iff.mp h), if_pos hold]

theorem State.selectCheck_interlock (h : s.names i) (hold : s.she.state ≠ .calHold)
    (away : ¬ (s.present .park = false ∧ s.present .seat = true)) : s.selectCheck i = some .interlock := by
  have unready : (!s.driverReady) = true := by
    rw [Bool.not_eq_true', ← Bool.not_eq_true, State.driverReady_iff]
    exact away
  rw [State.selectCheck, if_neg (State.names_iff.mp h), if_neg hold, if_pos unready]

/-- Past the checks of the index, the engine and the driver, the speed decides. -/
theorem State.selectCheck_ready (h : s.names i) (hold : s.she.state ≠ .calHold)
    (ready : s.present .park = false ∧ s.present .seat = true) :
    (¬ s.slowFor i → s.selectCheck i = some .speed) ∧ (s.slowFor i → s.selectCheck i = none) := by
  have unready : ¬ (!s.driverReady) = true := by simp [State.driverReady_iff.mpr ready]
  rw [State.selectCheck, if_neg (State.names_iff.mp h), if_neg hold, if_neg unready]
  cases he : s.rmp.entry i with
  | none => exact ⟨fun fast => absurd (.inr (by simp [he])) fast, fun _ => rfl⟩
  | some e =>
    have slow : (decide (i = 0) || s.speedAllows e.direction) = true ↔ s.slowFor i := by
      simp [State.slowFor, he, State.speedAllows_iff]
    exact ⟨fun fast => if_neg (mt slow.mp fast), fun allowed => if_pos (slow.mpr allowed)⟩

theorem actSelect_refused {x : Byte} {status : Status} (h : s.selectCheck x.toNat = some status) :
    actSelect x s = .refused status := by
  rw [actSelect, h]

theorem actSelect_accepted {x : Byte} (h : s.selectCheck x.toNat = none) :
    actSelect x s = .ok (s.acceptTarget x.toNat) (s.acceptTarget x.toNat).engineReply := by
  rw [actSelect, h]

/-! ### The checks and the count of STEP (R86) -/

/-- A count STEP takes. -/
def counted (n : Int) : Prop := (-8 ≤ n ∧ n ≤ -1) ∨ (1 ≤ n ∧ n ≤ 8)

theorem counted_iff : counted n ↔ ¬ (decide (n = 0) || decide (n < -8) || decide (8 < n)) = true := by
  simp only [counted, Bool.or_eq_true, decide_eq_true_eq]
  omega

/-- The indices of a direction's defined entries, rising (R47). -/
def State.places (s : State) : List Nat :=
  (s.rmp.entries.filter fun e => decide (e.direction = s.stepDirection)).map fun e => e.index

theorem State.stepCheck_range (h : ¬ counted n) : s.stepCheck n = some .range :=
  if_pos (not_not.mp (mt counted_iff.mpr h))

theorem State.stepCheck_busy (h : counted n) (hold : s.she.state = .calHold) : s.stepCheck n = some .busy := by
  rw [State.stepCheck, if_neg (counted_iff.mp h), if_pos hold]

theorem State.stepCheck_interlock (h : counted n) (hold : s.she.state ≠ .calHold)
    (away : ¬ (s.present .park = false ∧ s.present .seat = true)) : s.stepCheck n = some .interlock := by
  have unready : (!s.driverReady) = true := by
    rw [Bool.not_eq_true', ← Bool.not_eq_true, State.driverReady_iff]
    exact away
  rw [State.stepCheck, if_neg (counted_iff.mp h), if_neg hold, if_pos unready]

/-- Past the checks of the count, the engine and the driver, a step up from neutral wants a defined entry. -/
theorem State.stepCheck_ready (h : counted n) (hold : s.she.state ≠ .calHold)
    (ready : s.present .park = false ∧ s.present .seat = true) :
    (s.she.pr = 0 ∧ 0 < n ∧ s.places = [] → s.stepCheck n = some .notFound) ∧
      (¬ (s.she.pr = 0 ∧ 0 < n ∧ s.places = []) → s.stepCheck n = none) := by
  have unready : ¬ (!s.driverReady) = true := by simp [State.driverReady_iff.mpr ready]
  have empty : (decide (s.she.pr = 0) && decide (0 < n) && (s.rmp.ofDirection s.she.lastDir).isEmpty) = true ↔
      s.she.pr = 0 ∧ 0 < n ∧ s.places = [] := by
    simp only [Bool.and_eq_true, decide_eq_true_eq, List.isEmpty_iff, and_assoc]
    refine and_congr_right fun neutral => and_congr_right fun _ => ?_
    rw [State.places, State.stepDirection, if_pos neutral, List.map_eq_nil_iff]
    rfl
  rw [State.stepCheck, if_neg (counted_iff.mp h), if_neg hold, if_neg unready]
  exact ⟨fun none => if_pos (empty.mpr none), fun some => if_neg (mt empty.mp some)⟩

/-- A place of a list, its last where the list ends first. -/
theorem placeFrom_eq (start : Nat) (l : List Nat) (n : Nat) :
    placeFrom start l n = l.getD n (l.getLast?.getD start) := by
  induction l generalizing start n with
  | nil => simp [placeFrom]
  | cons x rest ih =>
    cases n with
    | zero => rfl
    | succ n => rw [placeFrom, ih, List.getD_cons_succ, List.getLast?_cons, Option.getD_some]

/-- The target of a STEP, counted over the direction's entries from PR, from the bottom while PR is 0 (R86). -/
theorem State.stepTarget_eq (s : State) (n : Int) :
    s.stepTarget n =
      let up := s.places.filter fun i => decide (s.she.pr < i)
      let down := s.places.filter fun i => decide (i < s.she.pr)
      if s.she.pr = 0 then
        if 0 < n then s.places.getD (n.toNat - 1) (s.places.getLast?.getD 0) else 0
      else if 0 < n then up.getD (n.toNat - 1) (up.getLast?.getD s.she.pr)
      else down.reverse.getD ((-n).toNat - 1) (down.head?.getD s.she.pr) := by
  simp only [State.stepTarget, placeFrom_eq, List.getLast?_reverse]
  rfl

theorem actStep_refused {x : Byte} {status : Status} (h : s.stepCheck x.toInt = some status) :
    actStep x s = .refused status := by
  rw [actStep, signedByte, h]

theorem actStep_accepted {x : Byte} (h : s.stepCheck x.toInt = none) :
    actStep x s = .ok (s.acceptTarget (s.stepTarget x.toInt)) (s.acceptTarget (s.stepTarget x.toInt)).engineReply := by
  rw [actStep, signedByte, h]

end

/-- Settles O38. -/
theorem selectAndStepSetTheTarget : Obligations.SelectAndStepSetTheTarget := by
  intro extra x s hs ready answers accepts named slow
  have accepted {i : Instr} {code : Byte} {act : State → Answer} {nr : Nat} (form : exec i s = request code 1 extra act s)
      (ok : act (s.settled (4 + extra)) =
        .ok ((s.settled (4 + extra)).acceptTarget nr) ((s.settled (4 + extra)).acceptTarget nr).engineReply) :
      accepts i code nr := by
    rw [State.acceptTarget_eq] at ok
    unfold accepts
    rw [form]
    exact request_done hs ok
  refine ⟨fun bad => ?_, fun good hold => ?_, fun good hold away => ?_, fun good hold here fast => ?_,
    fun good hold here slow => ?_, ?_⟩
  · exact request_refused hs (actSelect_refused (State.selectCheck_range bad))
  · exact request_refused hs (actSelect_refused (State.selectCheck_busy good hold))
  · exact request_refused hs (actSelect_refused (State.selectCheck_interlock good hold away))
  · obtain ⟨speed, -⟩ := State.selectCheck_ready good hold here
    exact request_refused hs (actSelect_refused (speed fast))
  · obtain ⟨-, passed⟩ := State.selectCheck_ready good hold here
    exact accepted (exec_select extra x s) (actSelect_accepted (passed slow))
  intro n within direction places up down nr
  refine ⟨fun bad => ?_, fun good hold => ?_, fun good hold away => ?_, fun good hold here neutral rise none => ?_,
    fun good hold here found => ?_⟩
  · exact request_refused hs (actStep_refused (State.stepCheck_range bad))
  · exact request_refused hs (actStep_refused (State.stepCheck_busy good hold))
  · exact request_refused hs (actStep_refused (State.stepCheck_interlock good hold away))
  · obtain ⟨notFound, -⟩ := State.stepCheck_ready good hold here
    exact request_refused hs (actStep_refused (notFound ⟨neutral, rise, none⟩))
  · obtain ⟨-, passed⟩ := State.stepCheck_ready good hold here
    have target : (s.settled (4 + extra)).stepTarget n = nr := State.stepTarget_eq _ _
    rw [← target]
    exact accepted (exec_step extra x s) (actStep_accepted (passed found))

end Sys2Proof.Machine

namespace Sys2Proof.Machine

/-! ## The edges and the travel timer at the hitch -/

section
variable {s : State} {d : ManualDir} {rising : Bool}

/-- HOLD entered with a HITCH notice, which tells of the travel it ended (R161, R184). -/
theorem State.holdWith_eq (s : State) (o : HitchOutcome) :
    s.holdWith o =
      State.offer { s with htc := s.htc.enter .hold } (.hitch o)
        (State.hitchDetail { s with htc := s.htc.enter .hold } s.htc.mode.endedPurpose s.htc.mode.endedTarget) :=
  State.offerHitch_eq _ _ _ _

theorem HitchMode.moving_iff (m : HitchMode) : m.moving = true ↔ m ≠ .hold ∧ m ≠ .locked := by
  cases m <;> simp [HitchMode.moving]

/-- A debounced edge answers what its block makes of the settled input, and its own notice (R34, R35). -/
theorem State.debounce_answers (held : s.heldInReset = false) {i : DInput} {c : Candidate}
    (running : (s.mfe.inputs.get i).candidate = some c) {v : State}
    (delivered : (s.settleInput i c.level).deliverEdge i c.level = v) :
    ∃ t, exec (.debounceTimerExpiry i) s = .next t ∧
      State.sameButOrder s.nts.notices.length (v.offer (.input i c.level) [byte (inputCode i)]) t := by
  subst delivered
  have edge : s.debounceExpiry i = s.debouncedEdge i c.level := by rw [State.debounceExpiry, running]
  have answers := event_sameButOrder (State.debounceExpiry i) held
  rwa [edge] at answers

/-! ### SEAT (R109, R157) -/

/-- The engine after a SEAT edge: its seat timer started or stopped (R109). -/
def Engine.seated (e : Engine) (present : Bool) : Engine :=
  { e with seatTimer := if present then none else some 2000 }

theorem State.seatEdge_moving (moving : s.htc.mode.moving = true) :
    s.seatEdge false = State.holdWith { s with she := s.she.seated false } .interlock := if_pos moving

theorem State.seatEdge_still (still : rising = true ∨ ¬ s.htc.mode.moving = true) :
    s.seatEdge rising = { s with she := s.she.seated rising } := by
  cases rising with
  | true => rfl
  | false => exact if_neg (still.resolve_left nofun)

/-! ### The fender buttons (R154, R155) -/

/-- The input of a fender button. -/
def ManualDir.button (d : ManualDir) : DInput :=
  match d with
  | .up => .extUp
  | .down => .extDown

theorem State.deliverEdge_button (s : State) (d : ManualDir) (rising : Bool) :
    s.deliverEdge d.button rising = s.buttonEdge d rising := by
  cases d <;> rfl

/-- Where a button's rising edge is honoured (R154). -/
abbrev State.mayDrive (s : State) (d : ManualDir) : Prop :=
  s.mfe.vg.held < 300 ∧ s.mfe.vg.state ≠ .failed ∧ s.mfe.p.state ≠ .failed ∧
    (d = .up → s.mfe.p.held < s.liftLimit) ∧ (d = .down → s.depthLimit < s.mfe.p.held)

theorem State.manualAllowed_iff : s.manualAllowed d = true ↔ s.mayDrive d := by
  cases d <;> simp [State.manualAllowed, State.mayDrive, Chan.failed, and_assoc]

/-- An edge that stops MANUAL: the other button's rising one, or the driving button's falling one (R155). -/
abbrev State.stopsManual (s : State) (d : ManualDir) (rising : Bool) : Prop :=
  if rising then ∃ d', s.htc.mode = .manual d' ∧ d' ≠ d else s.htc.mode = .manual d

/-- An edge that enters MANUAL (R154). -/
abbrev State.entersManual (s : State) (d : ManualDir) (rising : Bool) : Prop :=
  rising = true ∧ (∀ d', s.htc.mode ≠ .manual d') ∧ s.htc.mode ≠ .locked ∧ s.mayDrive d

theorem State.buttonEdge_stops (h : s.stopsManual d rising) :
    s.buttonEdge d rising = s.holdWith .stopped ∧ s.htc.mode.endedPurpose = 0 ∧ s.htc.mode.endedTarget = 0 := by
  cases rising with
  | true =>
    obtain ⟨d', mode, other⟩ := h
    simp [State.buttonEdge, State.buttonRising, mode, other.symm, HitchMode.endedPurpose, HitchMode.endedTarget]
  | false =>
    have mode : s.htc.mode = .manual d := h
    simp [State.buttonEdge, State.buttonFalling, mode, HitchMode.endedPurpose, HitchMode.endedTarget]

theorem State.buttonEdge_enters (h : s.entersManual d rising) : s.buttonEdge d rising = s.enterManual d := by
  obtain ⟨rfl, other, unlocked, allowed⟩ := h
  have allowed := State.manualAllowed_iff.mpr allowed
  change s.buttonRising d = _
  unfold State.buttonRising
  cases mode : s.htc.mode with
  | hold | work | travel => exact if_pos allowed
  | manual d' => exact absurd mode (other d')
  | locked => exact absurd mode unlocked

theorem State.buttonEdge_stays (h : ¬ s.stopsManual d rising) (k : ¬ s.entersManual d rising) :
    s.buttonEdge d rising = s := by
  cases rising with
  | true =>
    have refused (other : ∀ d', s.htc.mode ≠ .manual d') (unlocked : s.htc.mode ≠ .locked) :
        ¬ s.manualAllowed d = true := fun allowed =>
      k ⟨rfl, other, unlocked, State.manualAllowed_iff.mp allowed⟩
    change s.buttonRising d = s
    unfold State.buttonRising
    cases mode : s.htc.mode with
    | hold | work | travel => exact if_neg (refused (by simp [mode]) (by simp [mode]))
    | manual d' =>
      refine if_pos ?_
      by_contra other
      exact h ⟨d', mode, Ne.symm other⟩
    | locked => rfl
  | false =>
    have other : s.htc.mode ≠ .manual d := h
    change s.buttonFalling d = s
    unfold State.buttonFalling
    cases mode : s.htc.mode with
    | manual d' => exact if_neg fun same => other (by rw [mode, same])
    | hold | work | travel | locked => rfl

/-- MANUAL entered, its opening set and its notice offered (R154, R161). -/
theorem State.enterManual_eq (s : State) (d : ManualDir) :
    s.enterManual d =
      let h : Hitch := { s.htc.enter (.manual d) with
        raise := if d = .up then 30 else 0, lower := if d = .up then 0 else min 20 s.loweringCeiling }
      State.offer { s with htc := h } (.hitch .manual)
        (State.hitchDetail { s with htc := h } d.code s.htc.mode.endedTarget) := by
  cases d <;> exact State.offerHitch_eq _ _ _ _

/-! ### The travel timer (R153) -/

theorem State.travelExpiry_ends {p : Purpose} {x timer : Nat} (mode : s.htc.mode = .travel p x timer) :
    s.travelExpiry = s.holdWith .stalled := by
  rw [State.travelExpiry, mode]

theorem State.travelExpiry_stays (other : ∀ p x timer, s.htc.mode ≠ .travel p x timer) : s.travelExpiry = s := by
  unfold State.travelExpiry
  split
  next p x timer mode => exact absurd mode (other p x timer)
  all_goals rfl

end

/-- Settles O52. -/
theorem edgesAndTheTravelTimerEndAMode : Obligations.EdgesAndTheTravelTimerEndAMode := by
  intro s held shut purpose target detail after moving
  have ended : s.htc.mode.endedPurpose = purpose ∧ s.htc.mode.endedTarget = target := by
    unfold purpose target
    cases s.htc.mode <;> exact ⟨rfl, rfl⟩
  obtain ⟨endedPurpose, endedTarget⟩ := ended
  refine ⟨fun c running => ?_, fun d c => ?_, ?_, fun other => ?_⟩
  · intro she
    refine ⟨fun falling moves => State.debounce_answers held running ?_,
      fun still => State.debounce_answers held running ?_⟩
    · have settled : (s.settleInput .seat c.level).htc.mode.moving = true := (HitchMode.moving_iff _).mpr moves
      rw [← endedPurpose, ← endedTarget]
      unfold she
      rw [falling] at settled ⊢
      exact (State.seatEdge_moving settled).trans (State.holdWith_eq _ _)
    · exact State.seatEdge_still (s := s.settleInput .seat c.level) (still.imp id (mt (HitchMode.moving_iff _).mp))
  · intro i running allowed stops enters
    have delivered (k : State) : k.deliverEdge i c.level = k.buttonEdge d c.level := k.deliverEdge_button d c.level
    refine ⟨fun h => State.debounce_answers held running ?_, fun h => State.debounce_answers held running ?_,
      fun h k => State.debounce_answers held running ?_⟩
    · obtain ⟨stopped, noPurpose, noTarget⟩ := State.buttonEdge_stops (s := s.settleInput i c.level) h
      rw [delivered, stopped, State.holdWith_eq, noPurpose, noTarget]
      rfl
    · rw [delivered, State.buttonEdge_enters (s := s.settleInput i c.level) h, State.enterManual_eq, ← endedTarget]
      rfl
    · rw [delivered, State.buttonEdge_stays (s := s.settleInput i c.level) h k]
      rfl
  · rintro ⟨p, x, timer, mode⟩
    have effect := (State.travelExpiry_ends mode).trans (s.holdWith_eq .stalled)
    rw [exec_travelTimerExpiry, event_short held (by rw [effect]; exact NoticeSet.offer_length _ _ _), effect,
      endedPurpose, endedTarget]
    rfl
  · exact event_same held (State.travelExpiry_stays other)

end Sys2Proof.Machine

namespace Sys2Proof.Machine

/-! ## The timers that end a shift or a wait -/

section
variable {s : State} {r : ShiftRecord}

theorem State.phaseExpiry_stopped (h : s.she.timer = none) (e : EngineState) (act : State → ShiftRecord → State) :
    s.phaseExpiry e act = s := by
  rw [State.phaseExpiry, h]

theorem State.intervalExpiry_stopped (h : s.she.timer = none) : s.intervalExpiry = s := by
  rw [State.intervalExpiry, h]

theorem State.intervalExpiry_runs (runs : s.she.timer.isSome = true) (he : s.she.state = .interval) :
    s.intervalExpiry = s.intervalExpired := by
  obtain ⟨k, hk⟩ := Option.isSome_iff_exists.mp runs
  rw [State.intervalExpiry, hk]
  exact if_pos he

/-- An event that comes down to one offer answers it. -/
theorem event_offer {f : State → State} {u : State} {x : Report} {d : List Byte} (held : s.heldInReset = false)
    (he : f s = u.offer x d) (quiet : u.nts = s.nts) : event f s = .next (u.offer x d) := by
  rw [event_short held, he]
  rw [he, State.offer_nts, quiet]
  exact NoticeSet.offer_length _ _ _

/-! ### The packs at the end -/

theorem PackRecord.confirmFault_of_locked {p : PackRecord} (h : p.state = .locked) :
    p.confirmFault = { p with state := .fault, cause := .confirm } := by
  simp [PackRecord.confirmFault, h]

/-- The gearbox released: every pack but FDP and those in FAULT (R61). -/
theorem PackFile.get_release_gearbox (f : PackFile) (p : PackId) :
    (f.order gearboxPacks PackRecord.release).get p =
      if p = .fdp ∨ (f.get p).state = .fault then f.get p else { f.get p with state := .released } := by
  rw [PackFile.get_order PackRecord.release_isOrder.again]
  by_cases fdp : p = .fdp
  · rw [if_neg (mt mem_gearboxPacks.mp (not_not.mpr fdp)), if_pos (.inl fdp)]
  rw [if_pos (mem_gearboxPacks.mpr fdp)]
  by_cases fault : (f.get p).state = .fault
  · rw [if_pos (.inr fault), PackRecord.release_of_fault fault]
  · rw [if_neg (not_or.mpr ⟨fdp, fault⟩), PackRecord.release_of_ne_fault fault]

/-- The packs after a failed confirmation (R104). -/
def PackFile.failed (f : PackFile) (r : ShiftRecord) : PackFile :=
  (f.order r.onComing PackRecord.confirmFault).order gearboxPacks PackRecord.release

/-- A failed confirmation puts the on-coming packs, LOCKED until then, in FAULT, and releases the others (R104). -/
theorem PackFile.get_failed (f : PackFile) (locked : ∀ p ∈ r.onComing, (f.get p).state = .locked) (p : PackId) :
    (f.failed r).get p =
      if p ∈ r.onComing then { f.get p with state := .fault, cause := .confirm }
      else if p = .fdp ∨ (f.get p).state = .fault then f.get p
      else { f.get p with state := .released } := by
  rw [PackFile.failed, PackFile.get_release_gearbox, PackFile.get_order PackRecord.confirmFault_again]
  split
  next coming =>
    rw [PackRecord.confirmFault_of_locked (locked p coming)]
    exact if_pos (.inr rfl)
  · rfl

theorem RatioEntry.uses_iff (e : RatioEntry) (ps : List PackId) :
    e.uses ps = true ↔ ∃ p ∈ ps, p ∈ e.packs := by
  simp only [RatioEntry.uses, List.any_eq_true, List.contains_iff_mem]
  exact ⟨fun ⟨p, hp, hps⟩ => ⟨p, hps, hp⟩, fun ⟨p, hps, hp⟩ => ⟨p, hp, hps⟩⟩

/-- Every entry on one of the failed packs is unusable (R54, R104). -/
theorem RatioMap.reform_failed (m : RatioMap) (f : PackFile) (locked : ∀ p ∈ r.onComing, (f.get p).state = .locked) :
    (m.entries.map fun e => if e.uses r.onComing then { e with usable := formUsable m (f.failed r) e } else e) =
      m.entries.map fun e => if ∃ p ∈ r.onComing, p ∈ e.packs then { e with usable := false } else e := by
  refine List.map_congr_left fun e _ => ?_
  simp only [RatioEntry.uses_iff]
  split
  next used =>
    obtain ⟨p, coming, mem⟩ := used
    have unusable : formUsable m (f.failed r) e = false := by
      rw [Bool.eq_false_iff, Ne, formUsable_iff]
      rintro ⟨-, sound⟩
      refine sound p mem ?_
      rw [PackFile.get_failed f locked, if_pos coming]
    rw [unusable]
  · rfl

/-! ### The shift given up in neutral -/

/-- The engine in neutral, the shift over (R104, R105, R108). -/
def State.endedInNeutral (s : State) (packs : PackFile) (entries : List RatioEntry) : State :=
  { s with
    packs := packs
    rmp := { s.rmp with entries := entries }
    she := { s.she.rest 0 0 with latchSignal := false }
    htc := { s.htc with latch := none }
    tre := { s.tre with loadIndex := min 255 (s.cpt.mtow / 5 + s.htc.formed.value / 20) } }

theorem State.failConfirm_eq (raised : s.she.latchSignal = true)
    (locked : ∀ p ∈ r.onComing, (s.packs.get p).state = .locked) :
    s.failConfirm r =
      State.offer
        (s.endedInNeutral (s.packs.failed r)
          (s.rmp.entries.map fun e => if ∃ p ∈ r.onComing, p ∈ e.packs then { e with usable := false } else e))
        (.shift .fault) ([0, 0, byte r.dest] ++ ((r.onComing.map fun p : PackId => byte p.code) ++ [0, 0, 0]).take 3) := by
  have drops : s.failConfirm r =
      State.offerShift
        (s.endedInNeutral (s.packs.failed r)
          (s.rmp.entries.map fun e =>
            if e.uses r.onComing then { e with usable := formUsable s.rmp (s.packs.failed r) e } else e))
        .fault r.dest (r.onComing.map PackId.code) := by
    unfold State.failConfirm
    simp only
    rw [State.dropLatch_of_raised]
    · rfl
    · exact raised
  rw [drops, RatioMap.reform_failed _ _ locked, State.offerShift, List.map_take, List.map_append, List.map_map]
  rfl

theorem State.stall_eq (raised : s.she.latchSignal = true) :
    s.stall r =
      State.offer (s.endedInNeutral (s.packs.order gearboxPacks PackRecord.release) s.rmp.entries) (.shift .stalled)
        [0, 0, byte r.dest, 0, 0, 0] := by
  unfold State.stall
  simp only
  rw [State.dropLatch_of_raised]
  · rfl
  · exact raised

/-- In CONFIRM the latch signal is raised, and the on-coming packs are LOCKED (R102, R108). -/
theorem State.drivelineLaw.confirming (laws : s.drivelineLaw) (hr : s.she.record = some r)
    (he : s.she.state = .confirm) :
    s.she.latchSignal = true ∧ ∀ p ∈ r.onComing, (s.packs.get p).state = .locked := by
  obtain ⟨-, -, record, -, gear, -, -, ⟨latched, -⟩, -⟩ := laws
  obtain ⟨-, -, route⟩ := s.recordLaw_iff.mp record
  refine ⟨latched.mpr (.inr (.inr he)), fun p coming => ?_⟩
  have places := (State.shiftPlaces_confirm he).mp (gear.shift hr ((route r hr).onComing_gearbox coming))
  rwa [if_pos ((route r hr).mem_onComing.mp coming).1] at places

end

/-- Settles O41, timer by timer. -/
theorem timersEndTheShift : Obligations.TimersEndTheShift := by
  intro s held laws rested
  refine ⟨fun stopped => ?_, fun runs => ⟨fun interval => ⟨fun there => ?_, fun short hold => ?_, fun short go => ?_⟩,
    fun r hr => ⟨fun wait => ?_, fun confirm => ?_⟩⟩⟩
  · exact ⟨event_same held (State.phaseExpiry_stopped stopped _ _), event_same held (State.phaseExpiry_stopped stopped _ _),
      event_same held (State.phaseExpiry_stopped stopped _ _), event_same held (State.phaseExpiry_stopped stopped _ _),
      event_same held (State.intervalExpiry_stopped stopped)⟩
  · refine event_offer held ?_ rfl
    rw [State.intervalExpiry_runs runs interval, State.intervalExpired, if_pos there]
    rfl
  · have effect : s.intervalExpiry = { s with she := { s.she with state := .settled, timer := none } } := by
      rw [State.intervalExpiry_runs runs interval, State.intervalExpired, if_neg short, if_pos hold]
    rw [exec_intervalTimerExpiry, event_short held (by rw [effect]; exact Nat.le_succ _), effect]
  · have answers := event_sameButOrder State.intervalExpiry held
    rwa [State.intervalExpiry_runs runs interval, State.intervalExpired, if_neg short,
      if_neg (Bool.eq_false_iff.mp go)] at answers
  · exact event_offer held (State.phaseExpiry_eq runs hr wait State.noSupply) rfl
  · intro freed loaded
    obtain ⟨raised, locked⟩ := laws.confirming hr confirm
    have expires := State.phaseExpiry_eq runs hr confirm State.confirmExpired
    refine ⟨fun notStart notRolling => ⟨_, PackFile.get_failed s.packs locked, event_offer held ?_ rfl⟩,
      fun engagement => ⟨_, PackFile.get_release_gearbox s.packs, event_offer held ?_ rfl⟩⟩
    · have ordinary : ¬ r.kind.fromNeutral = true := by
        rw [ShiftKind.fromNeutral_iff]
        exact not_or.mpr ⟨notStart, notRolling⟩
      exact expires.trans ((if_neg ordinary).trans (State.failConfirm_eq raised locked))
    · exact expires.trans ((if_pos ((ShiftKind.fromNeutral_iff _).mpr engagement)).trans (State.stall_eq raised))

end Sys2Proof.Machine

namespace Sys2Proof.Machine

/-! ## The choice of a destination

Each row of R89 chooses by the greatest or the least of some figure over a list that rises in it: the entry it
chooses is the one entry that is so placed. -/

/-! ### The last of a rising list, and places in it -/

section
variable {α : Type} {f : α → Nat} {l : List α} {b : α}

theorem rising_injective (rising : l.Pairwise fun x y => f x < f y) {x y : α} (hx : x ∈ l) (hy : y ∈ l)
    (same : f x = f y) : x = y := by
  have distinct : (l.map f).Nodup := (List.pairwise_map.mpr rising).imp Nat.ne_of_lt
  exact List.inj_on_of_nodup_map distinct hx hy same

/-- The last of a rising list is its greatest. -/
theorem getLast?_rising (rising : l.Pairwise fun x y => f x < f y) :
    l.getLast? = some b ↔ b ∈ l ∧ ∀ x ∈ l, f x ≤ f b := by
  have greatest {c : α} (hc : l.getLast? = some c) : c ∈ l ∧ ∀ x ∈ l, f x ≤ f c := by
    obtain ⟨front, rfl⟩ := List.getLast?_eq_some_iff.mp hc
    obtain ⟨-, -, below⟩ := List.pairwise_append.mp rising
    refine ⟨by simp, fun x hx => ?_⟩
    rcases List.mem_append.mp hx with hx | hx
    · exact Nat.le_of_lt (below x hx c List.mem_cons_self)
    · rw [List.mem_singleton.mp hx]
  refine ⟨greatest, fun ⟨hb, above⟩ => ?_⟩
  cases hc : l.getLast? with
  | none => rw [List.getLast?_eq_none_iff.mp hc] at hb; cases hb
  | some c =>
    obtain ⟨mem, top⟩ := greatest hc
    rw [rising_injective rising mem hb (Nat.le_antisymm (above c mem) (top b hb))]

/-- The place of an entry in a rising list, from 1: how many do not lie beyond it. -/
def rank (f : α → Nat) (l : List α) (b : α) : Nat := (l.filter fun x => decide (f x ≤ f b)).length

theorem rank_le_iff {x : α} (hx : x ∈ l) : rank f l x ≤ rank f l b ↔ f x ≤ f b := by
  have inside {y z : α} (h : f y ≤ f z) :
      (l.filter fun x => decide (f x ≤ f y)) =
        (l.filter fun x => decide (f x ≤ f z)).filter fun x => decide (f x ≤ f y) := by
    rw [List.filter_filter]
    refine List.filter_congr fun x _ => ?_
    rw [Bool.eq_iff_iff]
    simp only [Bool.and_eq_true, decide_eq_true_eq]
    omega
  refine ⟨fun le => ?_, fun le => ?_⟩
  · by_contra beyond
    refine absurd le (Nat.not_le.mpr ?_)
    rw [rank, inside (Nat.le_of_lt (Nat.not_le.mp beyond))]
    refine List.length_filter_lt_length_iff_exists.mpr ⟨x, List.mem_filter.mpr ⟨hx, by simp⟩, by simpa using beyond⟩
  · rw [rank, inside le]
    exact List.length_filter_le _ _

/-- The first `n` of a rising list are those whose place is at most `n`. -/
theorem mem_take_rising (rising : l.Pairwise fun x y => f x < f y) (hb : b ∈ l) (n : Nat) :
    b ∈ l.take n ↔ rank f l b ≤ n := by
  induction l generalizing n with
  | nil => cases hb
  | cons x rest ih =>
    obtain ⟨beyond, rising⟩ := List.pairwise_cons.mp rising
    have first : f x ≤ f b := by
      rcases List.mem_cons.mp hb with rfl | hb
      · exact Nat.le_refl _
      · exact Nat.le_of_lt (beyond b hb)
    have place : rank f (x :: rest) b = rank f rest b + 1 := by simp [rank, first]
    rw [place]
    cases n with
    | zero => simp
    | succ n =>
      rw [List.take_succ_cons, List.mem_cons, Nat.add_le_add_iff_right]
      by_cases here : b = x
      · subst here
        have none : rank f rest b = 0 := by
          rw [rank, List.length_eq_zero_iff, List.filter_eq_nil_iff]
          exact fun y hy => by simpa using beyond y hy
        simp [none]
      · simp only [here, false_or]
        exact ih rising ((List.mem_cons.mp hb).resolve_left here) n

end


/-! ### Start-off and rolling engagement (R92, R93) -/

/-- A figure that an option holds exactly where a property singles it out. -/
theorem chosen_iff {α : Type} {choice : Option α} {P : α → Prop} (sound : ∀ b, choice = some b → P b)
    (some : ∀ b, P b → choice ≠ none) (one : ∀ b c, P b → P c → b = c) (b : α) : choice = .some b ↔ P b := by
  refine ⟨sound b, fun hb => ?_⟩
  obtain ⟨c, hc⟩ := Option.ne_none_iff_exists'.mp (some b hb)
  rw [hc, one b c hb (sound c hc)]

section
variable {m : RatioMap} {d : Direction} {pr nr span rstart ne kw vg : Nat} {b x : RatioEntry}

/-- The defined entries stand in index order (R47). -/
theorem State.ratioLaw.rising {s : State} (h : s.ratioLaw) :
    s.rmp.entries.Pairwise fun x y => x.index < y.index :=
  List.pairwise_map.mp h.1

theorem RatioMap.mem_candidates_iff :
    b ∈ m.candidates d nr ↔ (b ∈ m.entries ∧ b.direction = d ∧ b.usable = true) ∧ b.index ≤ nr := by
  simp [RatioMap.candidates, RatioMap.mem_ofDirection, and_assoc]

/-- A start-off goes to the highest candidate whose Rn is low enough (R92). -/
theorem RatioMap.startOff_iff (rising : m.entries.Pairwise fun x y => x.index < y.index) :
    m.startOff d nr rstart = some b ↔
      (b ∈ m.candidates d nr ∧ b.rn ≤ rstart) ∧ ∀ x, x ∈ m.candidates d nr ∧ x.rn ≤ rstart → x.index ≤ b.index := by
  have low (x : RatioEntry) :
      x ∈ ((m.candidates d nr).filter fun e => decide (e.rn ≤ rstart)) ↔ x ∈ m.candidates d nr ∧ x.rn ≤ rstart := by
    simp [List.mem_filter]
  have ordered : ((m.candidates d nr).filter fun e => decide (e.rn ≤ rstart)).Pairwise fun x y => x.index < y.index :=
    ((rising.filter _).filter _).filter _
  rw [RatioMap.startOff, getLast?_rising ordered, low]
  simp only [low]

/-- An entry's expected speed comes before another's: nearer to the ground speed, or as near and of lower
index (R93). -/
def precedes (ne kw vg : Nat) (b x : RatioEntry) : Prop :=
  distance (expectedSpeed b.rn ne kw) vg < distance (expectedSpeed x.rn ne kw) vg ∨
    (distance (expectedSpeed b.rn ne kw) vg = distance (expectedSpeed x.rn ne kw) vg ∧ b.index ≤ x.index)

theorem precedes_trans {c : RatioEntry} (h : precedes ne kw vg b c) (k : precedes ne kw vg c x) :
    precedes ne kw vg b x := by
  unfold precedes at *
  omega

/-- The fold keeps an entry that precedes all it has met. -/
theorem nearerEntry_fold {a : RatioEntry} {l : List RatioEntry}
    (rising : (a :: l).Pairwise fun x y => x.index < y.index)
    (h : l.foldl (nearerEntry ne kw vg) (some a) = some b) :
    b ∈ a :: l ∧ ∀ x ∈ a :: l, precedes ne kw vg b x := by
  induction l generalizing a with
  | nil =>
    obtain rfl : a = b := Option.some.inj h
    exact ⟨List.mem_cons_self, fun x hx => by rw [List.mem_singleton.mp hx]; exact .inr ⟨rfl, Nat.le_refl _⟩⟩
  | cons y rest ih =>
    obtain ⟨above, tail⟩ := List.pairwise_cons.mp rising
    obtain ⟨-, later⟩ := List.pairwise_cons.mp tail
    have skip : (a :: rest).Pairwise fun x y => x.index < y.index :=
      List.pairwise_cons.mpr ⟨fun z hz => above z (List.mem_cons_of_mem _ hz), later⟩
    rw [List.foldl_cons, nearerEntry] at h
    split at h
    next nearer =>
      obtain ⟨mem, first⟩ := ih tail h
      refine ⟨List.mem_cons_of_mem _ mem, fun x hx => ?_⟩
      rcases List.mem_cons.mp hx with rfl | hx
      · exact precedes_trans (first y List.mem_cons_self) (.inl nearer)
      · exact first x hx
    next stays =>
      obtain ⟨mem, first⟩ := ih skip h
      have low := above y List.mem_cons_self
      refine ⟨(List.mem_cons.mp mem).elim (fun e => e ▸ List.mem_cons_self)
        fun hb => List.mem_cons_of_mem _ (List.mem_cons_of_mem _ hb), fun x hx => ?_⟩
      rcases List.mem_cons.mp hx with rfl | hx
      · exact first x List.mem_cons_self
      rcases List.mem_cons.mp hx with rfl | hx
      · refine precedes_trans (first a List.mem_cons_self) ?_
        unfold precedes
        omega
      · exact first x (List.mem_cons_of_mem _ hx)

theorem nearerEntry_fold_some (l : List RatioEntry) (a : RatioEntry) :
    l.foldl (nearerEntry ne kw vg) (some a) ≠ none := by
  induction l generalizing a with
  | nil => nofun
  | cons y rest ih =>
    rw [List.foldl_cons, nearerEntry]
    split
    · exact ih y
    · exact ih a

/-- A rolling engagement goes to the candidate nearest to the ground speed, the lowest of equals (R93). -/
theorem RatioMap.rolling_iff (rising : m.entries.Pairwise fun x y => x.index < y.index) :
    m.rolling d nr ne kw vg = some b ↔
      b ∈ m.candidates d nr ∧ ∀ x ∈ m.candidates d nr, precedes ne kw vg b x := by
  have ordered : (m.candidates d nr).Pairwise fun x y => x.index < y.index := (rising.filter _).filter _
  unfold RatioMap.rolling
  refine chosen_iff (P := fun b => b ∈ m.candidates d nr ∧ ∀ x ∈ m.candidates d nr, precedes ne kw vg b x)
    (fun b hb => ?_) (fun b hb => ?_) (fun b c hb hc => ?_) b
  · cases hl : m.candidates d nr with
    | nil => rw [hl] at hb; cases hb
    | cons a rest =>
      rw [hl] at hb ordered
      exact nearerEntry_fold ordered hb
  · obtain ⟨mem, -⟩ := hb
    cases hl : m.candidates d nr with
    | nil => rw [hl] at mem; cases mem
    | cons a rest => exact nearerEntry_fold_some rest a
  · refine rising_injective ordered hb.1 hc.1 ?_
    have one := hb.2 c hc.1
    have other := hc.2 b hb.1
    unfold precedes at one other
    omega

/-! ### Span step (R90) -/

/-- The entries of a direction from PR toward NR, the nearest to PR first. -/
def RatioMap.path (m : RatioMap) (d : Direction) (pr nr : Nat) : List RatioEntry :=
  if pr < nr then (m.ofDirection d).filter fun e => pr < e.index && e.index ≤ nr
  else ((m.ofDirection d).filter fun e => nr ≤ e.index && e.index < pr).reverse

theorem RatioMap.window_eq (m : RatioMap) (d : Direction) (pr nr span : Nat) :
    m.window d pr nr span = (m.path d pr nr).take span := by
  unfold RatioMap.window RatioMap.path
  split <;> rfl

theorem RatioMap.mem_path :
    b ∈ m.path d pr nr ↔
      b ∈ m.entries ∧ b.direction = d ∧ ((pr < b.index ∧ b.index ≤ nr) ∨ (nr ≤ b.index ∧ b.index < pr)) := by
  unfold RatioMap.path
  split
  · simp only [List.mem_filter, RatioMap.mem_ofDirection, Bool.and_eq_true, decide_eq_true_eq, and_assoc]
    refine and_congr_right fun _ => and_congr_right fun _ => ?_
    omega
  · simp only [List.mem_reverse, List.mem_filter, RatioMap.mem_ofDirection, Bool.and_eq_true, decide_eq_true_eq,
      and_assoc]
    refine and_congr_right fun _ => and_congr_right fun _ => ?_
    omega

/-- Along the path the distance from PR rises. -/
theorem RatioMap.path_rising (rising : m.entries.Pairwise fun x y => x.index < y.index) :
    (m.path d pr nr).Pairwise fun x y => distance x.index pr < distance y.index pr := by
  have ordered : (m.ofDirection d).Pairwise fun x y => x.index < y.index := rising.filter _
  unfold RatioMap.path
  split
  · refine (List.pairwise_filter.mpr (ordered.imp fun {x y} lt hx hy => ?_))
    simp only [Bool.and_eq_true, decide_eq_true_eq] at hx hy
    unfold distance
    split_ifs <;> omega
  · refine List.pairwise_reverse.mpr (List.pairwise_filter.mpr (ordered.imp fun {x y} lt hx hy => ?_))
    simp only [Bool.and_eq_true, decide_eq_true_eq] at hx hy
    unfold distance
    split_ifs <;> omega

/-- How many entries of the direction lie from PR up or down to an entry. -/
def RatioMap.placeOf (m : RatioMap) (d : Direction) (pr : Nat) (b : RatioEntry) : Nat :=
  (m.entries.filter fun x => decide (x.direction = d) &&
    (decide (pr < x.index ∧ x.index ≤ b.index) || decide (b.index ≤ x.index ∧ x.index < pr))).length

/-- Along the path that is the place of an entry. -/
theorem RatioMap.rank_path (hb : b ∈ m.path d pr nr) :
    rank (fun x => distance x.index pr) (m.path d pr nr) b = m.placeOf d pr b := by
  obtain ⟨-, -, between⟩ := RatioMap.mem_path.mp hb
  unfold rank RatioMap.placeOf RatioMap.path RatioMap.ofDirection
  split
  · rw [List.filter_filter, List.filter_filter]
    refine congrArg List.length (List.filter_congr fun x _ => ?_)
    rw [Bool.eq_iff_iff]
    by_cases same : x.direction = d
    · simp only [same, Bool.and_eq_true, Bool.or_eq_true, decide_eq_true_eq, and_true, true_and]
      unfold distance
      split_ifs <;> omega
    · simp [same]
  · rw [List.filter_reverse, List.length_reverse, List.filter_filter, List.filter_filter]
    refine congrArg List.length (List.filter_congr fun x _ => ?_)
    rw [Bool.eq_iff_iff]
    by_cases same : x.direction = d
    · simp only [same, Bool.and_eq_true, Bool.or_eq_true, decide_eq_true_eq, and_true, true_and]
      unfold distance
      split_ifs <;> omega
    · simp [same]

/-- An entry a span step may reach: usable, on the path, and at most `span` places from PR (R90). -/
def RatioMap.reaches (m : RatioMap) (d : Direction) (pr nr span : Nat) (b : RatioEntry) : Prop :=
  b ∈ m.path d pr nr ∧ b.usable = true ∧ m.placeOf d pr b ≤ span

/-- A span step goes to the entry it reaches that lies farthest from PR (R90). -/
theorem RatioMap.spanStep_iff (rising : m.entries.Pairwise fun x y => x.index < y.index) :
    m.spanStep d pr nr span = some b ↔
      m.reaches d pr nr span b ∧ ∀ x, m.reaches d pr nr span x → m.placeOf d pr x ≤ m.placeOf d pr b := by
  have path := RatioMap.path_rising (d := d) (pr := pr) (nr := nr) rising
  have reached (x : RatioEntry) :
      x ∈ ((m.window d pr nr span).filter fun e => e.usable) ↔ m.reaches d pr nr span x := by
    rw [List.mem_filter, RatioMap.window_eq]
    constructor
    · rintro ⟨taken, usable⟩
      have mem := List.mem_of_mem_take taken
      rw [mem_take_rising path mem, RatioMap.rank_path mem] at taken
      exact ⟨mem, usable, taken⟩
    · rintro ⟨mem, usable, near⟩
      rw [← RatioMap.rank_path mem, ← mem_take_rising path mem] at near
      exact ⟨near, usable⟩
  have taken : ((m.window d pr nr span).filter fun e => e.usable).Pairwise
      fun x y => distance x.index pr < distance y.index pr := by
    rw [RatioMap.window_eq]
    exact (path.sublist (List.take_sublist _ _)).filter _
  rw [RatioMap.spanStep, getLast?_rising taken, reached]
  refine and_congr_right fun ⟨hb, _⟩ => forall_congr' fun x => ?_
  rw [reached]
  refine forall_congr' fun ⟨hx, _⟩ => ?_
  rw [← RatioMap.rank_path hx, ← RatioMap.rank_path hb]
  exact (rank_le_iff (f := fun x => distance x.index pr) hx).symm

end

/-! ### The step decision (R89) -/

theorem distance_eq (a b : Nat) : distance a b = max a b - min a b := by
  unfold distance
  split <;> omega

section
variable {s : State} {target : RatioEntry}

theorem State.stepDecision_toNeutral (h : s.she.nr = 0) : s.stepDecision = s.neutralShift := if_pos h

/-- From neutral, below 3 km/h, a start-off (R92). -/
theorem State.stepDecision_startOff (ht : s.rmp.entry s.she.nr = some target) (on : s.she.nr ≠ 0)
    (neutral : s.she.pr = 0) (slow : s.mfe.vg.held < 300) :
    s.stepDecision =
      s.shiftTo (s.rmp.startOff target.direction s.she.nr s.she.profile.rstart) fun _ => .startOff := by
  rw [State.stepDecision, if_neg on, ht]
  exact (if_pos neutral).trans (if_pos slow)

/-- From neutral, at speed, a rolling engagement (R93). -/
theorem State.stepDecision_rolling (ht : s.rmp.entry s.she.nr = some target) (on : s.she.nr ≠ 0)
    (neutral : s.she.pr = 0) (fast : ¬ s.mfe.vg.held < 300) :
    s.stepDecision =
      s.shiftTo (s.rmp.rolling target.direction s.she.nr s.mfe.ne.held s.tre.kw s.mfe.vg.held) fun _ => .rolling := by
  rw [State.stepDecision, if_neg on, ht]
  exact (if_pos neutral).trans (if_neg fast)

/-- Within a direction, a span step (R90). -/
theorem State.stepDecision_span {a : RatioEntry} (ht : s.rmp.entry s.she.nr = some target) (on : s.she.nr ≠ 0)
    (gear : s.she.pr ≠ 0) (ha : s.rmp.entry s.she.pr = some a) (same : a.direction = target.direction) :
    s.stepDecision =
      s.shiftTo (s.rmp.spanStep target.direction s.she.pr s.she.nr s.she.profile.span) (stepKind a) := by
  rw [State.stepDecision, if_neg on, ht, ← same]
  refine (if_neg gear).trans ?_
  rw [ha]
  exact if_pos same

/-- Between directions, a direction change into the target itself (R91). -/
theorem State.stepDecision_turn {a : RatioEntry} (ht : s.rmp.entry s.she.nr = some target) (on : s.she.nr ≠ 0)
    (gear : s.she.pr ≠ 0) (ha : s.rmp.entry s.she.pr = some a) (other : a.direction ≠ target.direction) :
    s.stepDecision = s.shiftTo (if target.usable then some target else none) fun _ => .directionChange := by
  rw [State.stepDecision, if_neg on, ht]
  refine (if_neg gear).trans ?_
  rw [ha]
  exact if_neg other

/-- A decision whose row chooses exactly what `chosen` says begins that shift, or is blocked where there is none. -/
theorem State.shiftTo_decides {choice : Option RatioEntry} {kind : RatioEntry → ShiftKind}
    {chosen : RatioEntry → ShiftKind → Prop} (row : s.stepDecision = s.shiftTo choice kind)
    (chooses : ∀ b k, chosen b k ↔ choice = some b ∧ k = kind b) :
    (∀ b k, chosen b k → s.stepDecision = s.beginShift b k) ∧
      ((∀ b k, ¬ chosen b k) → s.stepDecision = s.blocked) := by
  refine ⟨fun b k h => ?_, fun none => ?_⟩
  · obtain ⟨rfl, rfl⟩ := (chooses b k).mp h
    exact row
  · cases choice with
    | none => exact row
    | some b => exact absurd ((chooses b (kind b)).mpr ⟨rfl, rfl⟩) (none _ _)

end

/-- Settles O37, row by row of R89. -/
theorem stepDecisionChoosesTheDestination : Obligations.StepDecisionChoosesTheDestination := by
  intro s ratio present _
  have rising := ratio.rising
  refine ⟨fun toNeutral => ⟨s.packs.order (s.packsOf s.she.pr) PackRecord.release, fun p => ?_, ?_⟩, ?_⟩
  · rw [PackFile.get_order PackRecord.release_isOrder.again]
    by_cases used : p ∈ s.packsOf s.she.pr
    · by_cases fault : (s.packs.get p).state = .fault
      · rw [if_pos used, if_neg (fun h => h.2 fault), PackRecord.release_of_fault fault]
      · rw [if_pos used, if_pos ⟨used, fault⟩, PackRecord.release_of_ne_fault fault]
    · rw [if_neg used, if_neg (fun h => used h.1)]
  · exact State.stepDecision_toNeutral toNeutral
  · intro target on ht toward below starts off between place reached entry chosen
    have candidate (b : RatioEntry) : b ∈ s.rmp.candidates target.direction s.she.nr ↔ below b :=
      RatioMap.mem_candidates_iff
    have decides : (∀ b k, chosen b k → s.stepDecision = s.beginShift b k) ∧
        ((∀ b k, ¬ chosen b k) → s.stepDecision = s.blocked) := by
      by_cases neutral : s.she.pr = 0
      · by_cases slow : s.mfe.vg.held < 300
        · refine State.shiftTo_decides (State.stepDecision_startOff ht on neutral slow) fun b k => ?_
          unfold chosen
          rw [if_pos neutral, if_pos slow, RatioMap.startOff_iff rising, and_comm (b := k = _)]
          simp only [candidate]
          exact Iff.rfl
        · refine State.shiftTo_decides (State.stepDecision_rolling ht on neutral slow) fun b k => ?_
          unfold chosen
          rw [if_pos neutral, if_neg slow, RatioMap.rolling_iff rising, and_comm (b := k = _)]
          simp only [candidate, precedes, distance_eq]
          exact Iff.rfl
      · obtain ⟨a, ha, -⟩ := present neutral
        have gear (b : RatioEntry) (k : ShiftKind) : chosen b k ↔
            if a.direction = target.direction then
              reached b ∧ (∀ x, reached x → place x ≤ place b) ∧ k = stepKind a b
            else k = .directionChange ∧ b = target ∧ target.usable = true := by
          unfold chosen entry
          rw [if_neg neutral, ha]
          exact ⟨fun ⟨_, here, h⟩ => by rwa [← Option.some.inj here] at h, fun h => ⟨a, rfl, h⟩⟩
        by_cases same : a.direction = target.direction
        · have reaches (x : RatioEntry) :
              s.rmp.reaches target.direction s.she.pr s.she.nr s.she.profile.span x ↔ reached x :=
            and_congr_left' RatioMap.mem_path
          refine State.shiftTo_decides (State.stepDecision_span ht on neutral ha same) fun b k => ?_
          rw [gear, if_pos same, RatioMap.spanStep_iff rising, ← and_assoc]
          simp only [reaches]
          exact Iff.rfl
        · refine State.shiftTo_decides (State.stepDecision_turn ht on neutral ha same) fun b k => ?_
          rw [gear, if_neg same]
          by_cases usable : target.usable = true
          · simp [usable, eq_comm, and_comm]
          · simp [usable]
    obtain ⟨begins, blocks⟩ := decides
    exact ⟨begins, blocks⟩

end Sys2Proof.Machine

namespace Sys2Proof.Machine

/-! ## A shift given up (R109, R110)

What a forced neutral needs of the engine, the arbiter and the draft latch stays true where the trailer
demand is computed first, even where FRONT then frees the supply for the waiting shift, so that the two
orders at a PARK edge come to the same neutral. -/

theorem Waiting.put_same {w : Waiting} {r : Requester} {b : Bool} (h : w.has r = b) : w.put r b = w := by
  subst h
  cases r <;> rfl

/-- A property that FRONT's acting on FDP keeps, and the grants of the supply which that leads to (R72, R73,
R136). -/
structure frontClosed (P : State → Prop) : Prop where
  own : ∀ {s : State} (frd : FrontDrive) (tbc : TrailerBrake) (nts : NoticeSet), P s →
    P { s with frd := frd, tbc := tbc, nts := nts }
  front : ∀ {s : State} (b : Bool), P s → P { s with fsa := { s.fsa with waiting := s.fsa.waiting.put .front b } }
  fdp : ∀ {s : State} (frd : FrontDrive) (nts : NoticeSet), P s →
    P { s with packs := s.packs.update PackRecord.release .fdp, frd := frd, nts := nts }
  kept : ∀ {s : State}, P s →
    P { s with fsa := { s.fsa with fillList := s.fsa.fillList.filter fun p => !(List.contains [.fdp] p) } }
  freed : ∀ {s : State}, P s → P { s with fsa := { s.fsa with holder := none, fillList := [] } }
  granted : ∀ {s : State} {r : Requester}, P s → s.fsa.grantee = some r → (s.grantTo r).fsa.fillList ≠ [] →
    P (s.grantTo r)
  unfilled : ∀ {s : State} {r : Requester}, P s → s.fsa.grantee = some r → (s.grantTo r).fsa.fillList = [] →
    P { s.grantTo r with fsa := { (s.grantTo r).fsa with holder := none } }

namespace frontClosed

variable {P : State → Prop} {s : State}

theorem grantRounds (h : frontClosed P) (n : Nat) (hs : P s) : P (s.grantRounds n) := by
  induction n generalizing s with
  | zero => exact hs
  | succ n ih =>
    unfold State.grantRounds
    split
    · exact hs
    next r hr =>
      simp only
      split
      next empty => exact ih (h.unfilled hs hr (List.isEmpty_iff.mp empty))
      next some => exact h.granted hs hr (mt List.isEmpty_iff.mpr some)

theorem grantDecision (h : frontClosed P) (hs : P s) : P s.grantDecision := h.grantRounds 3 hs

theorem actOnFdp (h : frontClosed P) (hs : P s) : P s.actOnFdp := by
  unfold State.actOnFdp
  split
  · have waits := h.own { s.frd with phase := .waiting } s.tbc s.nts hs
    unfold State.requestSupply
    split
    · exact waits
    · exact h.grantDecision (h.front true waits)
  · exact h.front false (h.own { s.frd with phase := .rest } s.tbc s.nts hs)
  · have released := h.fdp { s.frd with phase := .rest, fillTimer := none } s.nts hs
    unfold State.leaveFill
    simp only
    split
    · exact h.grantDecision (h.freed released)
    · exact h.kept released
  · exact h.fdp _ _ hs
  all_goals exact hs

theorem computeDemand (h : frontClosed P) (hs : P s) : P s.computeDemand :=
  State.computeDemand_rule (P := P) (h.own s.frd _ s.nts hs) fun formed => h.actOnFdp (h.own _ _ _ formed)

end frontClosed

/-! ### What FRONT leaves alone -/

theorem State.grantCal_stands (s : State) :
    s.grantCal.she = s.she ∧ s.grantCal.fsa.waiting = s.fsa.waiting := by
  unfold State.grantCal
  split <;> exact ⟨rfl, rfl⟩

theorem State.grantCal_idle {s : State} (h : s.cau.job = none) : s.grantCal = s := by
  rw [State.grantCal, h]

theorem State.grantShift_job (s : State) : s.grantShift.cau = s.cau := by
  unfold State.grantShift
  split <;> rfl

theorem State.grantTo_engine {s : State} {r : Requester} (h : s.fsa.waiting.shift = false)
    (hr : s.fsa.grantee = some r) :
    (s.grantTo r).she = s.she ∧ (s.grantTo r).fsa.waiting.shift = false := by
  cases r with
  | shift => exact absurd ((Supply.grantee_eq_some hr).2.symm.trans h) nofun
  | front => exact ⟨rfl, h⟩
  | cal =>
    obtain ⟨she, waiting⟩ := State.grantCal_stands
      { s with fsa := { s.fsa with holder := some .cal, fillList := [], waiting := s.fsa.waiting.put .cal false } }
    exact ⟨she, (congrArg Waiting.shift waiting).trans h⟩

/-- With no shift waiting the engine stands, whoever is granted the supply. -/
theorem frontClosed_engine (e : Engine) : frontClosed fun t => t.she = e ∧ t.fsa.waiting.shift = false where
  own _ _ _ h := h
  front _ h := h
  fdp _ _ h := h
  kept h := h
  freed h := h
  granted := by
    rintro s r ⟨rfl, waits⟩ hr -
    exact State.grantTo_engine waits hr
  unfilled := by
    rintro s r ⟨rfl, waits⟩ hr -
    exact State.grantTo_engine waits hr

theorem State.grantTo_job {s : State} (h : s.cau.job = none) (r : Requester) : (s.grantTo r).cau.job = none := by
  cases r with
  | shift => exact (congrArg CalUnit.job (State.grantShift_job _)).trans h
  | front => exact h
  | cal =>
    refine (congrArg (fun t : State => t.cau.job) (State.grantCal_idle ?_)).trans h
    exact h

/-- FRONT starts no calibration. -/
theorem frontClosed_job : frontClosed fun t => t.cau.job = none where
  own _ _ _ h := h
  front _ h := h
  fdp _ _ h := h
  kept h := h
  freed h := h
  granted h _ _ := State.grantTo_job h _
  unfilled h _ _ := State.grantTo_job h _

theorem State.computeDemand_engine {s : State} (h : s.fsa.waiting.shift = false) : s.computeDemand.she = s.she :=
  ((frontClosed_engine s.she).computeDemand ⟨rfl, h⟩).1

/-! ### What the shift in flight keeps to be given up -/

/-- The engine whose waiting shift is granted its FILL (R99). -/
def Engine.filled (e : Engine) (r : ShiftRecord) (time ne : Nat) : Engine :=
  { e with state := .fill, timer := some time, record := some { r with neRef := ne }, latchSignal := true }

/-- What a state `v` still has of a state `s` after FRONT acted with no calibration waiting: the engine
stands or fills, and a forced neutral finds at the arbiter and the latch what it gives up. -/
structure State.shiftStands (s v : State) : Prop where
  engine : v.she = s.she ∨
    s.she.state = .supplyWait ∧ ∃ r time ne, s.she.record = some r ∧ v.she = s.she.filled r time ne
  fault : ∀ p, (v.packs.get p).state = .fault ↔ (s.packs.get p).state = .fault
  packs : s.she.state ≠ .supplyWait → ∀ p ∈ gearboxPacks, v.packs.get p = s.packs.get p
  cal : v.fsa.waiting.cal = false
  shift : v.fsa.waiting.shift = true → v.she.state = .supplyWait
  latch : v.htc.latch.isSome = true → v.she.latchSignal = true
  coming : ∀ r, v.she.record = some r → ∀ p ∈ r.onComing, p ∈ gearboxPacks

/-- The shift holds the supply in FILL alone, with gearbox packs in the list (R70, R99). -/
def State.shiftFills (v : State) : Prop :=
  v.fsa.holder = some .shift → v.she.state = .fill ∧ v.freedBy gearboxPacks = true

theorem State.freedBy_iff {s : State} {ps : List PackId} :
    s.freedBy ps = true ↔ s.fsa.fillList ≠ [] ∧ ∀ p ∈ s.fsa.fillList, p ∈ ps := by
  simp [State.freedBy]

section
variable {s v : State}

theorem State.shiftStands.of_supply (h : s.shiftStands v) {t : State} (she : t.she = v.she) (packs : t.packs = v.packs)
    (waiting : t.fsa.waiting.shift = v.fsa.waiting.shift ∧ t.fsa.waiting.cal = v.fsa.waiting.cal)
    (htc : t.htc = v.htc) : s.shiftStands t where
  engine := she ▸ h.engine
  fault := packs ▸ h.fault
  packs := packs ▸ h.packs
  cal := waiting.2.trans h.cal
  shift hw := she ▸ h.shift (waiting.1 ▸ hw)
  latch := by rw [she, htc]; exact h.latch
  coming := she ▸ h.coming

/-- FDP moved. -/
theorem State.shiftStands.of_fdp (h : s.shiftStands v) {f : PackFile}
    (fault : ∀ p, (f.get p).state = .fault ↔ (v.packs.get p).state = .fault)
    (others : ∀ p, p ≠ .fdp → f.get p = v.packs.get p) : s.shiftStands { v with packs := f } where
  engine := h.engine
  fault p := (fault p).trans (h.fault p)
  packs wait p hp := (others p (mem_gearboxPacks.mp hp)).trans (h.packs wait p hp)
  cal := h.cal
  shift := h.shift
  latch := h.latch
  coming := h.coming

/-- The engine and the packs after a grant to the shift (R99). -/
theorem State.grantTo_shift_parts {r : ShiftRecord} (hr : v.she.record = some r) :
    ∃ time, (v.grantTo .shift).she = v.she.filled r time v.mfe.ne.held ∧
      (v.grantTo .shift).packs = v.packs.order r.onComing PackRecord.toFill ∧
      (v.grantTo .shift).fsa.waiting = v.fsa.waiting.put .shift false ∧
      ∀ p ∈ (v.grantTo .shift).fsa.fillList, p ∈ r.onComing := by
  simp only [State.grantTo, State.grantShift, hr]
  exact ⟨_, rfl, rfl, rfl, fun p hp => (List.mem_filter.mp hp).1⟩

theorem State.grantTo_shift_none (hr : v.she.record = none) :
    v.grantTo .shift =
      { v with
        fsa := { v.fsa with holder := some .shift, fillList := [], waiting := v.fsa.waiting.put .shift false } } := by
  simp only [State.grantTo, State.grantShift, hr]

theorem State.shiftStands.grantTo_shift (h : s.shiftStands v) (hg : v.fsa.grantee = some .shift) :
    s.shiftStands (v.grantTo .shift) ∧
      ((v.grantTo .shift).fsa.fillList ≠ [] → (v.grantTo .shift).shiftFills) := by
  have wait := h.shift ((Supply.grantee_eq_some hg).2)
  cases hr : v.she.record with
  | none =>
    rw [State.grantTo_shift_none hr]
    refine ⟨⟨h.engine, h.fault, h.packs, h.cal, nofun, h.latch, h.coming⟩, fun listed => absurd rfl listed⟩
  | some r =>
    obtain ⟨time, she, packs, waiting, listed⟩ := State.grantTo_shift_parts hr
    have same : v.she = s.she := h.engine.resolve_right fun ⟨_, _, _, _, _, filled⟩ => by
      rw [filled] at wait
      cases wait
    have gearbox := h.coming r hr
    refine ⟨⟨.inr ⟨same ▸ wait, r, time, v.mfe.ne.held, same ▸ hr, same ▸ she⟩, fun p => ?_,
      fun past => absurd (same ▸ wait) past, ?_, ?_, fun _ => by rw [she]; rfl, ?_⟩,
      fun some _ => ⟨by rw [she]; rfl, ?_⟩⟩
    · rw [packs]
      exact (PackFile.fault_order PackRecord.toFill_isOrder _ _ p).trans (h.fault p)
    · rw [waiting]
      exact h.cal
    · rw [waiting]
      nofun
    · rw [she]
      rintro _ ⟨rfl⟩
      exact gearbox
    · exact State.freedBy_iff.mpr ⟨some, fun p hp => gearbox p (listed p hp)⟩

theorem State.shiftStands.grantTo_front (h : s.shiftStands v) : s.shiftStands (v.grantTo .front) :=
  (h.of_fdp (PackFile.fault_order PackRecord.toFill_isOrder _ _) fun p hp =>
    PackFile.get_order_not_mem (ps := [.fdp]) PackRecord.toFill_isOrder.again (by simpa using hp)).of_supply
      rfl rfl ⟨rfl, rfl⟩ rfl

/-- FRONT leaves what a forced neutral gives up, or sees it granted its FILL. -/
theorem frontClosed_shift (s : State) : frontClosed fun v => s.shiftStands v ∧ v.shiftFills where
  own _ _ _ h := ⟨h.1.of_supply rfl rfl ⟨rfl, rfl⟩ rfl, h.2⟩
  front _ h := ⟨h.1.of_supply rfl rfl ⟨rfl, rfl⟩ rfl, h.2⟩
  fdp _ _ h := by
    refine ⟨(h.1.of_fdp (fun p => ?_) fun p hp => ?_).of_supply rfl rfl ⟨rfl, rfl⟩ rfl, h.2⟩
    · rw [PackFile.get_update]
      split
      · exact PackRecord.release_isOrder.fault _
      · exact Iff.rfl
    · exact (PackFile.get_update ..).trans (if_neg hp)
  kept := by
    rintro v ⟨stands, fills⟩
    refine ⟨stands.of_supply rfl rfl ⟨rfl, rfl⟩ rfl, fun holds => ?_⟩
    obtain ⟨fill, freed⟩ := fills holds
    obtain ⟨listed, gearbox⟩ := State.freedBy_iff.mp freed
    refine ⟨fill, ?_⟩
    have others : (v.fsa.fillList.filter fun p => !(List.contains [.fdp] p)) = v.fsa.fillList :=
      List.filter_eq_self.mpr fun p hp => by simpa using mem_gearboxPacks.mp (gearbox p hp)
    exact State.freedBy_iff.mpr (others.symm ▸ ⟨listed, gearbox⟩)
  freed h := ⟨h.1.of_supply rfl rfl ⟨rfl, rfl⟩ rfl, nofun⟩
  granted := by
    rintro v r ⟨stands, -⟩ hr listed
    cases r with
    | shift => exact ⟨(stands.grantTo_shift hr).1, (stands.grantTo_shift hr).2 listed⟩
    | front => exact ⟨stands.grantTo_front, nofun⟩
    | cal => exact absurd ((Supply.grantee_eq_some hr).2.symm.trans stands.cal) nofun
  unfilled := by
    rintro v r ⟨stands, -⟩ hr -
    refine ⟨?_, nofun⟩
    cases r with
    | shift => exact (stands.grantTo_shift hr).1.of_supply rfl rfl ⟨rfl, rfl⟩ rfl
    | front => exact stands.grantTo_front.of_supply rfl rfl ⟨rfl, rfl⟩ rfl
    | cal => exact absurd ((Supply.grantee_eq_some hr).2.symm.trans stands.cal) nofun

/-! ### Into neutral -/

/-- The engine a forced neutral leaves (R110). -/
def Engine.forced (e : Engine) : Engine :=
  { e with
    pr := 0, nr := 0, state := .settled, timer := none, record := none, halt := false, downshift := false
    latchSignal := false, seatTimer := none }

/-- Where a forced neutral changes nothing (R110). -/
abbrev Engine.idle (e : Engine) : Prop := e.state = .calHold ∨ (e.state = .settled ∧ e.pr = 0 ∧ e.nr = 0)

theorem Engine.atRest_iff (e : Engine) :
    (e.state = .settled && e.pr = 0 && e.nr = 0) = true ↔ e.state = .settled ∧ e.pr = 0 ∧ e.nr = 0 := by
  simp [and_assoc]

theorem State.forcedNeutral_idle (h : s.she.idle) (c : NeutralCause) : s.forcedNeutral c = s := by
  unfold State.forcedNeutral
  by_cases hold : s.she.state = .calHold
  · exact if_pos hold
  · rw [if_neg hold]
    exact if_pos (s.she.atRest_iff.mpr (h.resolve_left hold))

theorem State.forcedNeutral_awake (h : ¬ s.she.idle) (c : NeutralCause) :
    s.forcedNeutral c =
      State.offerShift (State.dropLatch (State.setDownshift { s.givenUp with she := s.givenUp.she.neutral } false))
        .forcedNeutral s.she.destination [c.code] := by
  obtain ⟨hold, moving⟩ := not_or.mp h
  unfold State.forcedNeutral
  rw [if_neg hold, if_neg (mt s.she.atRest_iff.mp moving)]
  rfl

/-- The arbiter and the packs once the shift is given up, before FRONT may be granted the supply. -/
def State.shiftCancelled (s : State) : State :=
  { s.releaseGearbox with fsa := { s.fsa with waiting := s.fsa.waiting.put .shift false } }

theorem State.shiftCancelled_of_none (h : s.fsa.waiting.shift = false) : s.shiftCancelled = s.releaseGearbox := by
  rw [State.shiftCancelled, Waiting.put_same (r := .shift) h]
  rfl

theorem State.givenUp_supplyFrame (s : State) : s.SupplyFrame s.givenUp := by
  have released : s.SupplyFrame s.releaseGearbox := .of_parts _ _ _ _ _ _ rfl
  unfold State.givenUp
  simp only
  split_ifs
  · exact (released.trans (.cancelSupply _ _)).trans (.leaveFill _ _)
  · exact released.trans (.cancelSupply _ _)
  · exact released.trans (.leaveFill _ _)
  · exact released

/-- The shift holds the supply no longer, and FRONT alone may have been granted it (R73, R110). -/
theorem State.givenUp_frontFrame (cal : s.fsa.waiting.cal = false)
    (shift : s.fsa.waiting.shift = true → s.she.state = .supplyWait) (fills : s.shiftFills) :
    s.shiftCancelled.FrontFrame s.givenUp ∧ s.givenUp.fsa.holder ≠ some .shift := by
  by_cases wait : s.she.state = .supplyWait
  · have step : s.givenUp = s.shiftCancelled := by
      simp [State.givenUp, wait]
      rfl
    rw [step]
    exact ⟨.refl _, fun holds => absurd (wait.symm.trans (fills holds).1) nofun⟩
  have alone : s.releaseGearbox.fsa.frontAlone := ⟨Bool.eq_false_iff.mpr (mt shift wait), cal⟩
  rw [State.shiftCancelled_of_none (s := s) alone.1]
  by_cases fill : s.she.state = .fill
  · have step : s.givenUp = s.releaseGearbox.leaveFill gearboxPacks := by
      simp [State.givenUp, fill]
    rw [step]
    have frame := State.FrontFrame.leaveFill alone gearboxPacks
    refine ⟨frame, fun holds => ?_⟩
    have freed : s.releaseGearbox.freedBy gearboxPacks = true := (fills (frame.holder holds)).2
    rw [State.leaveFill_of_freed freed] at holds
    exact absurd ((State.FrontFrame.grantDecision (by exact alone)).holder holds) nofun
  · have step : s.givenUp = s.releaseGearbox := by simp [State.givenUp, wait, fill]
    rw [step]
    exact ⟨.refl _, fun holds => fill (fills holds).1⟩

/-- Dropping the latch where none is held without its signal (R108, R147). -/
theorem State.dropLatch_eq (h : s.htc.latch.isSome = true → s.she.latchSignal = true) :
    s.dropLatch =
      { s with she := { s.she with latchSignal := false }, htc := { s.htc with latch := none }
               tre := s.dropLatch.tre } := by
  by_cases raised : s.she.latchSignal = true
  · rw [State.dropLatch_of_raised raised]
    rfl
  · have low : s.she.latchSignal = false := Bool.eq_false_iff.mpr raised
    have free : s.htc.latch = none := Option.not_isSome_iff_eq_none.mp (mt h raised)
    rw [State.dropLatch, if_neg raised, ← low, ← free]

/-- The frame says that the engine, the hitch and the estimator stand: they may be others. -/
theorem State.FrontFrame.withLatch {t : State} (h : s.FrontFrame t) (e : Engine) (htc : Hitch) (tre : Traction) :
    State.FrontFrame { s with she := e, htc := htc, tre := tre } { t with she := e, htc := htc, tre := tre } where
  others := by rw [h.others]
  packs := h.packs
  alone := h.alone
  holder := h.holder
  fillList := h.fillList

/-- What the demand is formed of (R164). -/
theorem State.formDemand_congr {t : State} (cpt : t.cpt = s.cpt) (mfe : t.mfe = s.mfe) (bt : t.tre.bt = s.tre.bt)
    (downshift : t.she.downshift = s.she.downshift) : t.formDemand = s.formDemand := by
  rw [State.formDemand, State.present, cpt, mfe, bt, downshift]
  rfl

theorem State.demandFormed.congr {t : State} (h : s.demandFormed) (tbc : t.tbc = s.tbc) (cpt : t.cpt = s.cpt)
    (mfe : t.mfe = s.mfe) (bt : t.tre.bt = s.tre.bt) (downshift : t.she.downshift = s.she.downshift) :
    t.demandFormed := by
  rw [State.demandFormed, tbc, State.formDemand_congr cpt mfe bt downshift]
  exact h

theorem State.demandFormed.dropLatch (h : s.demandFormed) : s.dropLatch.demandFormed := by
  unfold State.dropLatch
  split
  · exact h
  · exact h

/-- The shift given up and the flag dropped, before the latch is (R110). -/
def State.flagDropped (s : State) : State :=
  State.setDownshift { s.givenUp with she := s.givenUp.she.neutral } false

theorem State.flagDropped_demand (flag : s.she.downshift = false) : s.flagDropped.tbc = s.tbc := by
  rw [State.flagDropped, State.setDownshift_of_same]
  · exact s.givenUp_supplyFrame.tbc
  · exact s.givenUp_supplyFrame.downshift.trans flag

theorem State.demandFormed.flagDropped (h : s.demandFormed) : s.flagDropped.demandFormed := by
  have frame := s.givenUp_supplyFrame
  by_cases flag : s.she.downshift = false
  · rw [State.flagDropped, State.setDownshift_of_same]
    · exact h.congr frame.tbc frame.cpt frame.mfe frame.bt frame.downshift
    · exact frame.downshift.trans flag
  · refine State.setDownshift_demandFormed fun low => flag ?_
    exact frame.downshift.symm.trans low

theorem State.flagDropped_measures (s : State) : s.MeasureFrame s.flagDropped :=
  (State.MeasureFrame.of_supply s.givenUp_supplyFrame).trans
    ((State.MeasureFrame.withEngine _ _).trans (.setDownshift _ _))

/-- A forced neutral of a shift that holds at the arbiter and the latch what is its own: the gearbox released,
the engine in neutral, the latch free, and beyond that what FRONT does alone (R110). -/
structure State.neutralFrame (s t : State) : Prop where
  front : State.FrontFrame
    { s.shiftCancelled with she := s.she.forced, htc := { s.htc with latch := none }, tre := t.tre } t
  holder : t.fsa.holder ≠ some .shift
  alone : t.fsa.frontAlone

theorem State.shiftStands.neutralFrame (h : s.shiftStands v) (fills : v.shiftFills) :
    v.neutralFrame v.flagDropped.dropLatch := by
  obtain ⟨given, unheld⟩ := State.givenUp_frontFrame h.cal h.shift fills
  have alone : v.shiftCancelled.fsa.frontAlone := ⟨rfl, h.cal⟩
  have lowered : State.FrontFrame _ v.flagDropped :=
    .setDownshift (s := { v.givenUp with she := v.givenUp.she.neutral }) (by exact given.alone alone) false
  have front := (given.withEngine { v.givenUp.she.neutral with downshift := false }).trans lowered
  rw [given.she] at front
  have she : v.flagDropped.she = { v.she.neutral with downshift := false } := front.she
  have htc : v.flagDropped.htc = v.htc := by rw [front.others]; rfl
  have free := State.dropLatch_eq (s := v.flagDropped) (by rw [htc, she]; exact h.latch)
  have latched := front.withLatch v.she.forced { v.htc with latch := none } v.flagDropped.dropLatch.tre
  have dropped : v.flagDropped.dropLatch =
      { v.flagDropped with
        she := v.she.forced, htc := { v.htc with latch := none }, tre := v.flagDropped.dropLatch.tre } := by
    rw [she, htc] at free
    exact free
  rw [dropped]
  exact ⟨latched, fun holds => unheld (lowered.holder holds), front.alone alone⟩

/-! ### The neutral that comes about -/

/-- What a forced neutral with a cause makes of a state `s` (R110). -/
structure State.comesToNeutral (s : State) (cause : Byte) (t : State) : Prop where
  packs : ∀ p ∈ gearboxPacks,
    (t.packs.get p).state = (if (s.packs.get p).state = .fault then .fault else .released) ∧
      (s.she.state ≠ .supplyWait → t.packs.get p = { s.packs.get p with state := (t.packs.get p).state })
  engine : t.she = s.she.forced
  alone : t.fsa.frontAlone
  holder : t.fsa.holder ≠ some .shift
  latch : t.htc.latch = none
  shows : s.nts.enabled (.shift .forcedNeutral) = true →
    t.nts.shows (.shift .forcedNeutral) [0, 0, byte s.she.destination, cause, 0, 0]

theorem Engine.filled_forced (e : Engine) (r : ShiftRecord) (time ne : Nat) :
    (e.filled r time ne).forced = e.forced := rfl

theorem State.shiftStands.forced (h : s.shiftStands v) : v.she.forced = s.she.forced := by
  obtain same | ⟨-, r, time, ne, -, filled⟩ := h.engine
  · rw [same]
  · rw [filled, Engine.filled_forced]

theorem State.shiftStands.destination (h : s.shiftStands v) : v.she.destination = s.she.destination := by
  obtain same | ⟨-, r, time, ne, hr, filled⟩ := h.engine
  · rw [same]
  · rw [filled, Engine.destination, Engine.destination, hr]
    rfl

theorem State.shiftStands.awake (h : s.shiftStands v) (awake : ¬ s.she.idle) : ¬ v.she.idle := by
  obtain same | ⟨-, r, time, ne, -, filled⟩ := h.engine
  · rwa [same]
  · rw [filled]
    rintro (hold | ⟨settled, -⟩)
    · cases hold
    · cases settled

/-- The gearbox released, from the packs of either state. -/
theorem State.shiftStands.get_released (h : s.shiftStands v) {p : PackId} (hp : p ∈ gearboxPacks) :
    ((v.packs.order gearboxPacks PackRecord.release).get p).state =
        (if (s.packs.get p).state = .fault then .fault else .released) ∧
      (s.she.state ≠ .supplyWait → (v.packs.order gearboxPacks PackRecord.release).get p =
        { s.packs.get p with state := ((v.packs.order gearboxPacks PackRecord.release).get p).state }) := by
  rw [PackFile.get_release_gearbox]
  have fault := h.fault p
  have gear := mem_gearboxPacks.mp hp
  by_cases faulty : (v.packs.get p).state = .fault
  · rw [if_pos (.inr faulty), if_pos (fault.mp faulty)]
    exact ⟨faulty, fun past => by rw [h.packs past p hp]⟩
  · rw [if_neg (not_or.mpr ⟨gear, faulty⟩), if_neg (mt fault.mpr faulty)]
    exact ⟨rfl, fun past => by rw [h.packs past p hp]⟩

/-- A forced neutral, whether or not FRONT acted first. -/
theorem State.shiftStands.comesToNeutral (h : s.shiftStands v) (fills : v.shiftFills) (awake : ¬ s.she.idle)
    (enables : v.nts.enables = s.nts.enables) (c : NeutralCause) :
    s.comesToNeutral (byte c.code) (v.forcedNeutral c) := by
  obtain ⟨front, holder, alone⟩ := h.neutralFrame fills
  rw [State.forcedNeutral_awake (h.awake awake)]
  change s.comesToNeutral _ (v.flagDropped.dropLatch.offerShift _ _ _)
  have she : v.flagDropped.dropLatch.she = s.she.forced := front.she.trans h.forced
  constructor
  case packs =>
    intro p hp
    rw [State.offerShift_packs, front.gearbox hp]
    exact h.get_released hp
  case engine => exact she
  case alone => exact alone
  case holder => exact holder
  case latch =>
    rw [State.offerShift_htc, front.others]
  case shows =>
    intro enabled
    have detail : (v.flagDropped.dropLatch.offerShift .forcedNeutral v.she.destination [c.code]).nts =
        v.flagDropped.dropLatch.nts.offer (.shift .forcedNeutral)
          [0, 0, byte s.she.destination, byte c.code, 0, 0] := by
      rw [State.offerShift, she, h.destination]
      rfl
    rw [detail]
    refine NoticeSet.offer_shows ?_ _
    rw [(v.flagDropped_measures.trans (.dropLatch _)).enabled]
    simpa only [NoticeSet.enabled, enables] using enabled

/-- The demand is formed again where the flag drops, and stands otherwise (R164). -/
theorem State.demandFormed.forcedNeutral (h : s.demandFormed) (c : NeutralCause) :
    (s.forcedNeutral c).demandFormed := by
  by_cases idle : s.she.idle
  · rwa [State.forcedNeutral_idle idle]
  · rw [State.forcedNeutral_awake idle]
    exact h.flagDropped.dropLatch

/-- With the flag low a forced neutral computes no demand (R164). -/
theorem State.forcedNeutral_tbc (awake : ¬ s.she.idle) (flag : s.she.downshift = false) (c : NeutralCause) :
    (s.forcedNeutral c).tbc = s.tbc := by
  rw [State.forcedNeutral_awake awake]
  refine Eq.trans ?_ (State.flagDropped_demand flag)
  change s.flagDropped.dropLatch.tbc = _
  unfold State.dropLatch
  split <;> rfl

/-! ### The neutral afterwards -/

/-- The computation of the demand after the neutral has FRONT act alone (R164). -/
theorem State.comesToNeutral.computeDemand {cause : Byte} (h : s.comesToNeutral cause v) :
    s.comesToNeutral cause v.computeDemand := by
  have front := State.FrontFrame.computeDemand h.alone
  constructor
  case packs =>
    intro p hp
    rw [front.gearbox hp]
    exact h.packs p hp
  case engine => exact front.she.trans h.engine
  case alone => exact front.alone h.alone
  case holder => exact mt front.holder h.holder
  case latch =>
    rw [front.others]
    exact h.latch
  case shows => exact fun enabled => v.computeDemand_frame.shows nofun (h.shows enabled)

/-- A notice of another source, and the order of the event's notices, are no part of it. -/
theorem State.comesToNeutral.offer {cause : Byte} (h : s.comesToNeutral cause v) {r : Report}
    (other : (Report.shift .forcedNeutral).source ≠ r.source) (d : List Byte) :
    s.comesToNeutral cause (v.offer r d) where
  packs := h.packs
  engine := h.engine
  alone := h.alone
  holder := h.holder
  latch := h.latch
  shows enabled := (h.shows enabled).offer other d

theorem State.comesToNeutral.of_order {cause : Byte} (h : s.comesToNeutral cause v) {t : State} {n : Nat}
    (same : State.sameButOrder n v t) : s.comesToNeutral cause t := by
  have shows {r : Report} {d : List Byte} (hs : v.nts.shows r d) := same.shows hs
  obtain ⟨_, _, -, rfl⟩ := same
  exact ⟨h.packs, h.engine, h.alone, h.holder, h.latch, fun enabled => shows (h.shows enabled)⟩

/-- It says nothing of the seat timer and of the inputs, which may have been others before. -/
theorem State.comesToNeutral.congr {cause : Byte} {u : State} (h : u.comesToNeutral cause v)
    (packs : u.packs = s.packs) (nts : u.nts = s.nts) (state : u.she.state = s.she.state)
    (record : u.she.record = s.she.record) (forced : u.she.forced = s.she.forced) : s.comesToNeutral cause v where
  packs := packs ▸ state ▸ h.packs
  engine := h.engine.trans forced
  alone := h.alone
  holder := h.holder
  latch := h.latch
  shows enabled := by
    have shown := h.shows (nts ▸ enabled)
    rwa [Engine.destination, record] at shown

/-- The laws of the driveline, where no calibration runs, are what a forced neutral needs. -/
theorem State.drivelineLaw.shiftStands (laws : s.drivelineLaw) (hold : s.she.state ≠ .calHold) :
    s.shiftStands s ∧ s.shiftFills := by
  obtain ⟨-, -, record, ⟨cal, -⟩, -, supply, front, ⟨latched, latch, -⟩, -⟩ := id laws
  obtain ⟨flight, -, route⟩ := s.recordLaw_iff.mp record
  have supplied := s.supplyLaw_iff.mp supply
  have noJob : s.cau.job = none := by simpa [hold] using cal
  refine ⟨⟨.inl rfl, fun _ => Iff.rfl, fun _ _ _ => rfl, ?_, supplied.shiftWaits.mpr, fun h => latch ▸ h,
    fun r hr p hp => (route r hr).onComing_gearbox hp⟩, fun holds => ?_⟩
  · simpa [noJob] using supplied.calWaits
  · have fill := supplied.shiftHolds.mpr holds
    refine ⟨fill, State.freedBy_iff.mpr ⟨fun none => ?_, fun p hp => mem_gearboxPacks.mpr ?_⟩⟩
    · simp [supplied.holds.mpr none] at holds
    · rintro rfl
      simp [front.fdp_fill.mp ((supplied.fills .fdp).mpr hp)] at holds

theorem State.drivelineLaw.idle_waits (laws : s.drivelineLaw) (idle : s.she.idle) : s.fsa.waiting.shift = false := by
  obtain ⟨-, -, -, -, -, supply, -⟩ := laws
  refine Bool.eq_false_iff.mpr fun waits => ?_
  have wait := (s.supplyLaw_iff.mp supply).shiftWaits.mpr waits
  rcases idle with hold | ⟨settled, -⟩
  · exact absurd (wait.symm.trans hold) nofun
  · exact absurd (wait.symm.trans settled) nofun

/-! ### A PARK edge (R126, R164) -/

theorem State.abortCal_downshift (s : State) (c : AbortCause) : (s.abortCal c).she.downshift = s.she.downshift := by
  unfold State.abortCal
  split
  · rfl
  · simp only
    split_ifs
    · exact (State.SupplyFrame.leaveFill _ _).downshift
    · exact (State.SupplyFrame.leaveFill _ _).downshift
    · rfl
    · rfl

theorem State.demandFormed.abortCal (h : s.demandFormed) (c : AbortCause) : (s.abortCal c).demandFormed := by
  obtain ⟨cpt, mfe, tbc⟩ := s.abortCal_train c
  exact h.congr tbc cpt mfe (by rw [(State.MeasureFrame.abortCal s c).tre]) (s.abortCal_downshift c)

theorem State.abortCal_idle (h : s.cau.job = none) (c : AbortCause) : s.abortCal c = s := by
  rw [State.abortCal, h]

theorem State.parkEdge_rising (s : State) :
    s.parkEdge true = eitherOrder (fun s => s.forcedNeutral .park) State.computeDemand s := rfl

theorem State.parkEdge_falls (s : State) :
    s.parkEdge false = eitherOrder (fun s => s.abortCal .park) State.computeDemand s := rfl

theorem State.parkEdge_demandFormed (s : State) (rising : Bool) : (s.parkEdge rising).demandFormed := by
  cases rising with
  | true =>
    rw [State.parkEdge_rising]
    exact eitherOrder_rule (P := State.demandFormed) (State.computeDemand_demandFormed _)
      (s.computeDemand_demandFormed.forcedNeutral _) fun _ _ h => h
  | false =>
    rw [State.parkEdge_falls]
    exact eitherOrder_rule (P := State.demandFormed) (State.computeDemand_demandFormed _)
      (s.computeDemand_demandFormed.abortCal _) fun _ _ h => h

/-- With no calibration running a falling edge is a computation of the demand and nothing else. -/
theorem State.parkEdge_falling (h : s.cau.job = none) : s.parkEdge false = s.computeDemand := by
  have after := State.abortCal_idle (frontClosed_job.computeDemand h) .park
  have before := State.abortCal_idle h .park
  rw [State.parkEdge_falls]
  refine (eitherOrder_same ?_).trans ?_
  · exact (congrArg State.computeDemand before).trans after.symm
  · exact congrArg State.computeDemand before

theorem State.parkEdge_idle (waits : s.fsa.waiting.shift = false) (idle : s.she.idle) :
    (s.parkEdge true).she = s.she := by
  have demand := State.computeDemand_engine waits
  rw [State.parkEdge_rising]
  refine eitherOrder_rule (P := fun t => t.she = s.she) ?_ ?_ fun _ _ h => h
  · rw [State.forcedNeutral_idle idle]
    exact demand
  · rw [State.forcedNeutral_idle (by rwa [demand])]
    exact demand

theorem State.parkEdge_awake (h : s.shiftStands s) (fills : s.shiftFills) (awake : ¬ s.she.idle) :
    s.comesToNeutral 2 (s.parkEdge true) := by
  rw [State.parkEdge_rising]
  refine eitherOrder_rule (P := s.comesToNeutral 2) ?_ ?_ fun _ _ h =>
    ⟨h.packs, h.engine, h.alone, h.holder, h.latch, h.shows⟩
  · exact (h.comesToNeutral fills awake rfl .park).computeDemand
  · obtain ⟨stands, filled⟩ := (frontClosed_shift s).computeDemand ⟨h, fills⟩
    exact stands.comesToNeutral filled awake s.computeDemand_frame.enables .park

/-! ### The seat timer (R109) -/

/-- A state with its seat timer stopped. -/
def State.seatStopped (s : State) : State := { s with she := { s.she with seatTimer := none } }

theorem State.seatExpiry_stopped (h : s.she.seatTimer = none) : s.seatExpiry = s := by
  rw [State.seatExpiry, h]

theorem State.seatExpiry_runs (h : s.she.seatTimer.isSome = true) :
    s.seatExpiry = s.seatStopped.forcedNeutral .seat := by
  obtain ⟨k, hk⟩ := Option.isSome_iff_exists.mp h
  rw [State.seatExpiry, hk]
  rfl

/-- A forced neutral touches no ratio, no coupling, no channel and no part of the link (R110). -/
theorem State.shiftStands.forcedNeutral_others (h : s.shiftStands s) (fills : s.shiftFills) (awake : ¬ s.she.idle)
    (c : NeutralCause) :
    (s.forcedNeutral c).rmp = s.rmp ∧ (s.forcedNeutral c).cpt = s.cpt ∧ (s.forcedNeutral c).mfe = s.mfe ∧
      (s.forcedNeutral c).rlk = s.rlk := by
  rw [State.forcedNeutral_awake awake]
  change s.flagDropped.dropLatch.rmp = _ ∧ s.flagDropped.dropLatch.cpt = _ ∧ s.flagDropped.dropLatch.mfe = _ ∧
    s.flagDropped.dropLatch.rlk = _
  rw [(h.neutralFrame fills).front.others]
  exact ⟨rfl, rfl, rfl, rfl⟩

end

/-- Settles O42, the seat timer's expiry first, then the PARK edge, whose blocks come in either order. -/
theorem forcedNeutralGivesUpTheShift : Obligations.ForcedNeutralGivesUpTheShift := by
  intro s held laws idle neutral
  have concludes {t : State} {b : Byte} (h : s.comesToNeutral b t) : neutral t b :=
    ⟨h.packs, h.engine, h.alone.1, h.holder, h.latch, h.shows⟩
  refine ⟨fun stopped => event_same held (State.seatExpiry_stopped stopped), fun runs rests => ?_,
    fun runs awake => ?_, fun c running => ?_⟩
  · have effect : s.seatExpiry = s.seatStopped :=
      (State.seatExpiry_runs runs).trans (State.forcedNeutral_idle (s := s.seatStopped) rests .seat)
    rw [exec_seatTimerExpiry, event_short held (by rw [effect]; exact Nat.le_succ _), effect]
    rfl
  · obtain ⟨stands, fills⟩ : s.seatStopped.shiftStands s.seatStopped ∧ s.seatStopped.shiftFills :=
      State.drivelineLaw.shiftStands (s := s.seatStopped) laws (mt .inl awake)
    obtain ⟨t, done, same⟩ := event_sameButOrder State.seatExpiry held
    rw [State.seatExpiry_runs runs] at same
    have forced := (stands.comesToNeutral fills awake rfl .seat).of_order same
    have quiet := State.forcedNeutral_tbc (s := s.seatStopped) awake (c := .seat)
    have others := stands.forcedNeutral_others fills awake .seat
    refine ⟨t, done, concludes (forced.congr rfl rfl rfl rfl rfl), ?_⟩
    obtain ⟨_, _, -, rfl⟩ := same
    exact ⟨quiet, others⟩
  · obtain ⟨t, done, same⟩ := State.debounce_answers held running rfl
    have formed := (s.settleInput .park c.level).parkEdge_demandFormed c.level
    refine ⟨t, done, same.demandFormed formed, fun rising => ⟨fun rests => ?_, fun awake => ?_⟩,
      fun falling noJob => ?_⟩
    · have waits : s.fsa.waiting.shift = false := laws.idle_waits rests
      have stands := State.parkEdge_idle (s := s.settleInput .park true) waits rests
      rw [rising] at same
      exact (State.FrontFrame.of_order same).she.trans stands
    · obtain ⟨stands, fills⟩ : (s.settleInput .park true).shiftStands (s.settleInput .park true) ∧
          (s.settleInput .park true).shiftFills :=
        State.drivelineLaw.shiftStands (s := s.settleInput .park true) laws (mt .inl awake)
      have forced := (State.parkEdge_awake stands fills awake).offer (r := .input .park true) nofun
        [byte (inputCode .park)]
      rw [rising] at same
      exact concludes ((forced.of_order same).congr rfl rfl rfl rfl rfl)
    · have computed := State.parkEdge_falling (s := s.settleInput .park false) noJob
      rw [falling] at same
      change State.sameButOrder _ (((s.settleInput .park false).parkEdge false).offer _ _) _ at same
      rw [computed] at same
      exact same

end Sys2Proof.Machine

namespace Sys2Proof.Machine

/-! ## The end of a calibration, step by step -/

section
variable {s : State} {j : CalJob}

theorem CalPhase.formed_eq (p : CalPhase) (x : Nat) : p.formed x = if p = .stepping then x else 0 := by
  cases p <;> rfl

/-- The pack, the step pressure and Ne_ref of a CAL notice, the two formed in STEPPING alone (R128, R184). -/
def State.calFigures (s : State) (j : CalJob) : List Byte :=
  let pk := if j.phase = .stepping then 20 + s.cau.stepCount else 0
  let ref := if j.phase = .stepping then s.cau.neRef else 0
  [byte j.pack.code, byte pk, byte (ref / 256), byte ref]

theorem State.calFigures_of_not_stepping (h : j.phase ≠ .stepping) :
    s.calFigures j = [byte j.pack.code, 0, 0, 0] := by
  simp only [State.calFigures, if_neg h]
  rfl

theorem State.offerCal_eq (s : State) (j : CalJob) (o : CalOutcome) (a b : Nat) :
    s.offerCal j o a b = s.offer (.cal o) (s.calFigures j ++ [byte a, byte b]) := by
  simp only [State.offerCal, CalPhase.formed_eq]
  rfl

/-- What an abort gives up at the arbiter and of the packs, before the unit ends (R126). -/
def State.calGivenUp (s : State) (j : CalJob) : State :=
  let s := if j.phase = .waiting then s.cancelSupply .cal else s
  let s := s.orderPacks j.packs PackRecord.release
  if j.phase = .filling then s.leaveFill [j.partner1, j.partner2] else s

theorem State.calGivenUp_waiting (h : j.phase = .waiting) :
    s.calGivenUp j = (s.cancelSupply .cal).orderPacks j.packs PackRecord.release := by
  simp only [State.calGivenUp, h, if_true, reduceCtorEq, if_false]

theorem State.calGivenUp_filling (h : j.phase = .filling) :
    s.calGivenUp j = (s.orderPacks j.packs PackRecord.release).leaveFill [j.partner1, j.partner2] := by
  simp only [State.calGivenUp, h, if_true, reduceCtorEq, if_false]

theorem State.calGivenUp_other (waiting : j.phase ≠ .waiting) (filling : j.phase ≠ .filling) :
    s.calGivenUp j = s.orderPacks j.packs PackRecord.release := by
  simp only [State.calGivenUp, if_neg waiting, if_neg filling]

/-- An abort: what the calibration has is given up, the unit ends, and CAL is raised (R126). -/
theorem State.abortCal_eq (hj : s.cau.job = some j) (c : AbortCause) :
    s.abortCal c =
      State.offer (s.calGivenUp j).endCalibration (.cal .aborted)
        (s.calFigures j ++ [byte c.code, byte j.phase.code]) := by
  have figures : (s.calGivenUp j).calFigures j = s.calFigures j := by
    by_cases stepping : j.phase = .stepping
    · rw [State.calGivenUp_other (by simp [stepping]) (by simp [stepping])]
      rfl
    · rw [State.calFigures_of_not_stepping stepping, State.calFigures_of_not_stepping stepping]
  have given : s.abortCal c = ((s.calGivenUp j).offerCal j .aborted c.code j.phase.code).endCalibration := by
    rw [State.abortCal, hj]
    rfl
  rw [given, State.offerCal_eq, figures, State.endCalibration_offer]

/-! ### Packs that stand RELEASED -/

theorem PackFile.set_get (f : PackFile) (p : PackId) : f.set p (f.get p) = f := by cases p <;> rfl

/-- An order that finds nothing to change. -/
theorem PackFile.order_same {f : PackFile} {ps : List PackId} {g : PackRecord → PackRecord}
    (h : ∀ p ∈ ps, g (f.get p) = f.get p) : f.order ps g = f := by
  induction ps with
  | nil => rfl
  | cons p rest ih =>
    have first : f.update g p = f := by rw [PackFile.update, h p List.mem_cons_self, PackFile.set_get]
    rw [PackFile.order, List.foldl_cons, first]
    exact ih fun q hq => h q (List.mem_cons_of_mem _ hq)

/-- Packs that stand RELEASED are not moved by a release. -/
theorem PackFile.release_released {f : PackFile} {ps : List PackId} (h : ∀ p ∈ ps, (f.get p).state = .released) :
    f.order ps PackRecord.release = f := by
  refine PackFile.order_same fun p hp => ?_
  rw [PackRecord.release_of_ne_fault (by simp [h p hp]), ← h p hp]

/-- An abort in WAITING with the packs RELEASED takes the request back and raises CAL (R126). -/
theorem State.abortCal_waiting (hj : s.cau.job = some j) (phase : j.phase = .waiting)
    (rest : ∀ p ∈ j.packs, (s.packs.get p).state = .released) (c : AbortCause) :
    s.abortCal c =
      State.offer (s.cancelSupply .cal).endCalibration (.cal .aborted) [byte j.pack.code, 0, 0, 0, byte c.code, 1] := by
  have still : (s.cancelSupply .cal).orderPacks j.packs PackRecord.release = s.cancelSupply .cal :=
    congrArg (fun f => { s.cancelSupply .cal with packs := f }) (PackFile.release_released rest)
  rw [State.abortCal_eq hj, State.calGivenUp_waiting phase, still,
    State.calFigures_of_not_stepping (by simp [phase]), phase]
  rfl

end

/-! ## CALIBRATE -/

/-! ### The pack it names, and its partners (R120, R121) -/

/-- What CALIBRATE names no gearbox pack by: no code of one, or an absent pack's (R48, R120). -/
abbrev State.calUnnamed (s : State) (pack : Byte) : Prop := pack.toNat = 0 ∨ 11 < pack.toNat ∨ s.absent pack

theorem PackId.exists_code {c : Nat} (low : c ≠ 0) (high : c ≤ 11) : ∃ p : PackId, p.code = c := by
  have codes : ∀ c ≤ 11, c ≠ 0 → ∃ p ∈ gearboxPacks, p.code = c := by decide
  obtain ⟨p, -, hp⟩ := codes c high low
  exact ⟨p, hp⟩

theorem PackId.partners_of_code (p : PackId) (gear : p.code ≤ 11) :
    p.partners = some (if p.code ≤ 2 then .sp1 else .fwd, if p.code ≤ 8 then .rngA else .sp1) := by
  revert gear
  cases p <;> decide

theorem State.calNamed_none {s : State} {pack : Byte} (h : s.calUnnamed pack) : s.calNamed pack = none := by
  by_cases fdp : pack.toNat = 12
  · have named : s.packNamed pack = some .fdp :=
      State.packNamed_of_code fdp.symm fun ⟨_, absent⟩ => by rcases absent with rfl | rfl <;> cases fdp
    rw [State.calNamed, named]
    rfl
  · have other : pack.toNat = 0 ∨ 12 < pack.toNat ∨ s.absent pack := by
      rcases h with zero | high | absent
      · exact .inl zero
      · exact .inr (.inl (by omega))
      · exact .inr (.inr absent)
    rw [State.calNamed, State.packNamed_none other]

theorem State.calNamed_of_code {s : State} {p : PackId} {pack : Byte} (h : p.code = pack.toNat)
    (named : ¬ s.calUnnamed pack) :
    s.calNamed pack =
      some (p, if pack.toNat ≤ 2 then .sp1 else .fwd, if pack.toNat ≤ 8 then .rngA else .sp1) := by
  obtain ⟨-, low, here⟩ : pack.toNat ≠ 0 ∧ ¬ 11 < pack.toNat ∧ ¬ s.absent pack := by
    simpa only [not_or] using named
  rw [State.calNamed, State.packNamed_of_code h here, ← h]
  simp only [p.partners_of_code (by omega)]

/-- A pack that is named comes with its partners, and the three are gearbox packs (R121). -/
theorem State.calNamed_gearbox {s : State} {p a b : PackId} {pack : Byte} (h : s.calNamed pack = some (p, a, b)) :
    ∀ q ∈ [p, a, b], q ∈ gearboxPacks := by
  have partners : p.partners = some (a, b) := by
    unfold State.calNamed at h
    split at h
    · cases h
    · split at h
      · cases h
      next hp =>
        cases h
        exact hp
  obtain ⟨pack, first, second, -⟩ := PackId.partners_spec partners
  simp only [List.mem_cons, List.not_mem_nil, or_false]
  rintro q (rfl | rfl | rfl) <;> exact mem_gearboxPacks.mpr ‹_›

/-! ### The checks (R120) -/

/-- The unit is IDLE and the engine rests in neutral. -/
abbrev State.calRests (s : State) : Prop := s.cau.job = none ∧ s.she.state = .settled ∧ s.she.pr = 0

/-- The tractor stands still with PARK set, and the engine runs between 900 and 1500 (R120). -/
abbrev State.calStill (s : State) : Prop :=
  s.present .park = true ∧ s.mfe.vg.held < 10 ∧ s.mfe.no.held < 5 ∧ 900 ≤ s.mfe.ne.held ∧ s.mfe.ne.held ≤ 1500 ∧
    s.mfe.vg.state ≠ .failed ∧ s.mfe.no.state ≠ .failed ∧ s.mfe.ne.state ≠ .failed

theorem State.calInterlock_iff (s : State) : s.calInterlock = true ↔ s.calStill := by
  simp [State.calInterlock, State.calStill, Chan.failed, and_assoc]

/-- The checks after the first, in their order. -/
theorem State.calCheck_eq (s : State) (p a b : PackId) :
    s.calCheck p a b =
      if ¬ s.calRests then some .busy
      else if ¬ s.calStill then some .interlock
      else if (s.packs.get p).state = .fault ∨ (s.packs.get a).state = .fault ∨ (s.packs.get b).state = .fault then
        some .fault
      else none := by
  have busy : (s.cau.job.isSome || decide (s.she.state ≠ .settled) || decide (s.she.pr ≠ 0)) = true ↔
      ¬ s.calRests := by
    simp [State.calRests, not_and_or, or_assoc, Option.isSome_iff_ne_none, -not_and]
  have stirs : (!s.calInterlock) = true ↔ ¬ s.calStill := by
    rw [← State.calInterlock_iff, Bool.not_eq_true', Bool.not_eq_true]
  have faulty : ((s.packs.get p).faulted || (s.packs.get a).faulted || (s.packs.get b).faulted) = true ↔
      (s.packs.get p).state = .fault ∨ (s.packs.get a).state = .fault ∨ (s.packs.get b).state = .fault := by
    simp [PackRecord.faulted, or_assoc]
  simp only [State.calCheck, busy, stirs, faulty]

section
variable {s : State} (p a b : PackId)

theorem State.calCheck_moving (moves : ¬ s.calRests) : s.calCheck p a b = some .busy :=
  (s.calCheck_eq p a b).trans (if_pos moves)

theorem State.calCheck_unlocked (rests : s.calRests) (stirs : ¬ s.calStill) : s.calCheck p a b = some .interlock := by
  rw [State.calCheck_eq, if_neg (not_not.mpr rests)]
  exact if_pos stirs

theorem State.calCheck_ready (rests : s.calRests) (still : s.calStill) :
    s.calCheck p a b =
      if (s.packs.get p).state = .fault ∨ (s.packs.get a).state = .fault ∨ (s.packs.get b).state = .fault then
        some .fault
      else none := by
  rw [State.calCheck_eq, if_neg (not_not.mpr rests)]
  exact if_neg (not_not.mpr still)

end

/-- In neutral, with nothing under way, a pack that is not in FAULT stands RELEASED (R81). -/
theorem State.drivelineLaw.released_of_rests {s : State} (laws : s.drivelineLaw) (rests : s.calRests) {p : PackId}
    (hp : p ∈ gearboxPacks) (sound : (s.packs.get p).state ≠ .fault) : (s.packs.get p).state = .released := by
  obtain ⟨job, settled, pr⟩ := rests
  obtain ⟨ratio, -, record, -, gear, -⟩ := laws
  obtain ⟨flight, -, -⟩ := s.recordLaw_iff.mp record
  have noRecord : s.she.record = none := by
    rw [settled] at flight
    exact Option.not_isSome_iff_eq_none.mp (by rw [flight]; exact Bool.false_ne_true)
  have none : s.packsOf s.she.pr = [] := by rw [pr, State.packsOf, ratio.neutral]
  have places : (s.packs.get p).resting := by simpa [State.restPlaces, none] using gear.rest job noRecord hp
  exact places.resolve_right sound

theorem State.drivelineLaw.supplied {s : State} (laws : s.drivelineLaw) : s.supplied := by
  obtain ⟨-, -, -, -, -, supply, -⟩ := laws
  exact s.supplyLaw_iff.mp supply

/-- With no calibration running CAL neither waits for the supply nor holds it (R119). -/
theorem State.drivelineLaw.cal_absent {s : State} (laws : s.drivelineLaw) (job : s.cau.job = none) :
    s.fsa.waiting.cal = false ∧ s.fsa.holder ≠ some .cal := by
  exact ⟨by simpa [job] using laws.supplied.calWaits, by simpa [job] using laws.supplied.calHolds⟩

/-! ### The start (R122) -/

/-- The job an accepted CALIBRATE begins with. -/
def CalJob.begun (p a b : PackId) : CalJob :=
  { phase := .waiting, pack := p, partner1 := a, partner2 := b, fill1 := none, fill2 := none
    settle := none, step := none }

/-- A calibration begun, before it asks for the supply. -/
def State.calBegun (s : State) (p a b : PackId) (interval : Nat) : State :=
  { s with cau := { s.cau with job := some (.begun p a b), interval := interval, stepCount := 0 }
           she := { s.she with state := .calHold, nr := 0 } }

theorem State.requestSupply_charge (s : State) (r : Requester) : (s.requestSupply r).fsa.charge = s.fsa.charge := by
  unfold State.requestSupply
  split
  · rfl
  · exact State.grantRounds_charge 3 _

theorem State.startCal_ok {s : State} (charge : s.fsa.charge = .ok) (p a b : PackId) (interval : Nat) :
    s.startCal p a b interval = (s.calBegun p a b interval).requestSupply .cal := by
  have still : ((s.calBegun p a b interval).requestSupply .cal).fsa.charge ≠ .low := by
    rw [State.requestSupply_charge]
    exact charge ▸ nofun
  exact if_neg still

/-- Under a LOW charge state a request only waits (R72). -/
theorem State.requestSupply_low {s : State} (charge : s.fsa.charge = .low) {r : Requester}
    (waits : s.fsa.waiting.has r = false) (holds : s.fsa.holder ≠ some r) :
    s.requestSupply r = s.waitSupply r := by
  rw [State.requestSupply, if_neg (by simp [waits, holds])]
  refine State.grantDecision_of_none (Supply.grantee_of_not_free ?_)
  rintro ⟨-, ok⟩
  exact absurd (charge.symm.trans ok) nofun

/-- What a calibration leaves that a LOW charge state ended as it began: the interval, the step count and NR. -/
def State.calTried (s : State) (interval : Nat) : State :=
  { s with she := { s.she with nr := 0 }, cau := { s.cau with interval := interval, stepCount := 0 } }

/-- A calibration begun under a LOW charge state ends where it began (R122, R126). -/
theorem State.startCal_low {s : State} (rests : s.calRests) (charge : s.fsa.charge = .low)
    (waits : s.fsa.waiting.cal = false) (holds : s.fsa.holder ≠ some .cal) {p a b : PackId}
    (rest : ∀ q ∈ [p, a, b], (s.packs.get q).state = .released) (interval : Nat) :
    s.startCal p a b interval =
      (s.calTried interval).offer (.cal .aborted) [byte p.code, 0, 0, 0, 6, 1] := by
  obtain ⟨job, settled, pr⟩ := rests
  have requested := State.requestSupply_low (s := s.calBegun p a b interval) charge (r := .cal) waits holds
  have taken : (((s.calBegun p a b interval).waitSupply .cal).cancelSupply .cal).endCalibration =
      s.calTried interval := by
    have back : (s.fsa.waiting.put .cal true).put .cal false = s.fsa.waiting :=
      Waiting.put_same (w := s.fsa.waiting) (r := .cal) waits
    simp only [State.endCalibration, State.cancelSupply, State.waitSupply, State.calBegun, State.calTried, back, ← job, ← settled, ← pr]
  have started : s.startCal p a b interval = ((s.calBegun p a b interval).requestSupply .cal).abortCal .supply := by
    refine if_pos ?_
    exact (State.requestSupply_charge (s.calBegun p a b interval) .cal).trans charge
  rw [started, requested, State.abortCal_waiting (s := (s.calBegun p a b interval).waitSupply .cal) (j := .begun p a b)
    rfl rfl rest, taken]
  rfl

/-! ### The answer -/

/-- The reply of an accepted CALIBRATE (R183). -/
theorem actCalibrate_accepted {s t : State} {p a b : PackId} {pack : Byte} {interval : Half}
    (named : s.calNamed pack = some (p, a, b)) (passes : s.calCheck p a b = none)
    (started : s.startCal p a b (max 50 (min 500 interval.toNat)) = t) :
    actCalibrate pack interval s =
      .ok t [byte p.code, byte a.code, byte b.code, byte (max 50 (min 500 interval.toNat) / 256),
        byte (max 50 (min 500 interval.toNat)), byte t.cau.phaseCode] := by
  subst started
  rw [actCalibrate, named]
  simp only [passes, clamp_eq (show 50 ≤ 500 by decide)]
  rfl

theorem actCalibrate_unnamed {s : State} {pack : Byte} (unnamed : s.calUnnamed pack) (interval : Half) :
    actCalibrate pack interval s = .refused .range := by
  rw [actCalibrate, State.calNamed_none unnamed]

theorem actCalibrate_refused {s : State} {p a b : PackId} {pack : Byte} {interval : Half} {status : Status}
    (named : s.calNamed pack = some (p, a, b)) (fails : s.calCheck p a b = some status) :
    actCalibrate pack interval s = .refused status := by
  rw [actCalibrate, named]
  simp only [fails]

theorem CalUnit.phaseCode_of_idle {c : CalUnit} (h : c.job = none) : c.phaseCode = 0 := by
  rw [CalUnit.phaseCode, h]

theorem CalUnit.phaseCode_byte (c : CalUnit) :
    byte c.phaseCode = match c.job with | none => 0 | some j => byte j.phase.code := by
  unfold CalUnit.phaseCode
  cases c.job <;> rfl

/-- Settles O44, check by check, and the accepted request by the charge state. -/
theorem calibrateStartsACalibration : Obligations.CalibrateStartsACalibration := by
  intro extra pack interval s hs laws refuses absent unnamed rest still
  let k := s.settleReply (6 + extra)
  have refused {status : Status} (h : actCalibrate pack interval k = .refused status) : refuses status :=
    request_refused (n := 3) hs h
  have checked {p : PackId} (hp : p.code = pack.toNat) (named : ¬ unnamed) :=
    State.calNamed_of_code (s := k) hp named
  have anyPack (named : ¬ unnamed) : ∃ p : PackId, p.code = pack.toNat := by
    obtain ⟨low, high⟩ := not_or.mp named
    exact PackId.exists_code low (not_lt.mp (not_or.mp high).1)
  refine ⟨fun h => refused (actCalibrate_unnamed (s := k) h interval), fun named moves => ?_,
    fun named rests stirs => ?_, ?_⟩
  · obtain ⟨p, hp⟩ := anyPack named
    exact refused (actCalibrate_refused (checked hp named) (State.calCheck_moving _ _ _ moves))
  · obtain ⟨p, hp⟩ := anyPack named
    exact refused (actCalibrate_refused (checked hp named) (State.calCheck_unlocked _ _ _ rests stirs))
  intro p hp named rests stands a b step faulty
  have partnered : k.calNamed pack = some (p, a, b) := checked hp named
  have check : k.calCheck p a b = if faulty then some .fault else none := State.calCheck_ready p a b rests stands
  have code : byte p.code = pack := (PackId.code_eq_toNat hp).symm
  refine ⟨fun fault => ?_, fun sound low => ?_, fun sound ok => ?_⟩
  · exact refused (actCalibrate_refused partnered (check.trans (if_pos fault)))
  · obtain ⟨waits, holds⟩ := laws.cal_absent rests.1
    have healthy : ∀ q ∈ [p, a, b], (s.packs.get q).state ≠ .fault := by
      obtain ⟨tested, first, second⟩ : _ ∧ _ ∧ _ := by simpa only [faulty, not_or] using sound
      exact List.forall_mem_cons.mpr ⟨tested, List.forall_mem_cons.mpr ⟨first, List.forall_mem_singleton.mpr second⟩⟩
    have released (q : PackId) (hq : q ∈ [p, a, b]) : (k.packs.get q).state = .released :=
      laws.released_of_rests rests (State.calNamed_gearbox partnered q hq) (healthy q hq)
    have accepted := actCalibrate_accepted (interval := interval) partnered (check.trans (if_neg sound))
      (State.startCal_low (s := k) rests low waits holds released step)
    have idle : (k.calTried step).cau.phaseCode = 0 := CalUnit.phaseCode_of_idle rests.1
    rw [code, State.offer_cau, idle] at accepted
    refine (request_ok (n := 3) hs accepted (NoticeSet.offer_length _ _ _)).trans (congrArg Host.Outcome.next ?_)
    exact State.settle_answer ((s.calTried step).offer (.cal .aborted) [pack, 0, 0, 0, 6, 1]) (6 + extra) _
  · have accepted := actCalibrate_accepted (interval := interval) partnered (check.trans (if_neg sound))
      (State.startCal_ok (s := k) ok p a b step)
    rw [code, CalUnit.phaseCode_byte] at accepted
    have done := request_sameButOrder (code := 0x33) (n := 3) hs accepted
    have settled : k = s.settled (6 + extra) := State.settleReply_eq s _
    rw [settled] at done
    exact done

end Sys2Proof.Machine

namespace Sys2Proof.Machine

/-! ## The timers of a calibration -/

/-! ### A running calibration under the laws -/

section
variable {s : State} {j : CalJob}

theorem State.drivelineLaw.cal_places (laws : s.drivelineLaw) (hj : s.cau.job = some j) {p : PackId}
    (hp : p ∈ gearboxPacks) : j.places p (s.packs.get p) := by
  obtain ⟨-, -, -, -, gear, -⟩ := laws
  exact gear.cal hj hp

theorem State.drivelineLaw.calHold (laws : s.drivelineLaw) (hj : s.cau.job = some j) : s.she.state = .calHold := by
  obtain ⟨-, -, -, ⟨hold, -⟩, -⟩ := laws
  simpa [hj] using hold

/-- The pack under test and its partners are three gearbox packs (R121). -/
theorem State.drivelineLaw.cal_packs (laws : s.drivelineLaw) (hj : s.cau.job = some j) :
    j.pack ∈ gearboxPacks ∧ j.partner1 ∈ gearboxPacks ∧ j.partner2 ∈ gearboxPacks ∧ j.partner1 ≠ j.pack ∧
      j.partner2 ≠ j.pack ∧ j.partner1 ≠ j.partner2 := by
  obtain ⟨-, -, -, ⟨-, running⟩, -⟩ := laws
  obtain ⟨-, -, partners, -⟩ := running j hj
  obtain ⟨pack, first, second, distinct⟩ := PackId.partners_spec partners
  exact ⟨mem_gearboxPacks.mpr pack, mem_gearboxPacks.mpr first, mem_gearboxPacks.mpr second, distinct⟩

/-- In CAL_HOLD no shift waits for the supply (R111). -/
theorem State.drivelineLaw.cal_shift (laws : s.drivelineLaw) (hj : s.cau.job = some j) :
    s.fsa.waiting.shift = false := by
  refine Bool.eq_false_iff.mpr fun waits => ?_
  have wait := laws.supplied.shiftWaits.mpr waits
  rw [laws.calHold hj] at wait
  cases wait

/-- CAL waits for the supply in WAITING alone (R119). -/
theorem State.drivelineLaw.cal_waits (laws : s.drivelineLaw) (hj : s.cau.job = some j) :
    s.fsa.waiting.cal = true ↔ j.phase = .waiting :=
  laws.supplied.calWaits.symm.trans (CalUnit.inPhase_of_some hj _)

/-- CAL holds the supply in FILLING alone (R119). -/
theorem State.drivelineLaw.cal_holds (laws : s.drivelineLaw) (hj : s.cau.job = some j) :
    s.fsa.holder = some .cal ↔ j.phase = .filling :=
  laws.supplied.calHolds.symm.trans (CalUnit.inPhase_of_some hj _)

/-- Past its wait, a calibration leaves FRONT alone at the arbiter. -/
theorem State.drivelineLaw.cal_alone (laws : s.drivelineLaw) (hj : s.cau.job = some j) (past : j.phase ≠ .waiting) :
    s.fsa.frontAlone :=
  ⟨laws.cal_shift hj, Bool.eq_false_iff.mpr (mt (laws.cal_waits hj).mp past)⟩

theorem CalJob.seats.fill_iff {filling : Prop} {id : PackId} {p : PackRecord} (h : j.seats filling id p)
    (partner : filling → (id = j.partner1 ∨ id = j.partner2) ∧ id ≠ j.pack) : p.state = .fill ↔ filling := by
  unfold CalJob.seats at h
  refine ⟨fun fill => ?_, fun fills => ?_⟩
  · by_contra still
    split_ifs at h
    · simp [fill] at h
    · simp [fill] at h
      exact still h
    · exact h.ne_fill fill
  · obtain ⟨isPartner, tested⟩ := partner fills
    rw [if_neg tested, if_pos isPartner] at h
    exact h.1 fills

/-- What fills in FILLING are the partners whose timers run (R123). -/
theorem State.drivelineLaw.cal_fillList (laws : s.drivelineLaw) (hj : s.cau.job = some j) (phase : j.phase = .filling)
    {p : PackId} : p ∈ s.fsa.fillList ↔ j.fills p := by
  obtain ⟨pack, first, second, ne1, ne2, ne⟩ := laws.cal_packs hj
  rw [← laws.supplied.fills]
  by_cases gear : p ∈ gearboxPacks
  · refine ((CalJob.places_iff_of_filling ne phase).mp (laws.cal_places hj gear)).fill_iff ?_
    rintro (⟨rfl, -⟩ | ⟨rfl, -⟩)
    · exact ⟨.inl rfl, ne1⟩
    · exact ⟨.inr rfl, ne2⟩
  · obtain rfl : p = .fdp := not_not.mp (mt mem_gearboxPacks.mpr gear)
    obtain ⟨-, -, -, -, -, -, front, -⟩ := id laws
    refine iff_of_false (mt front.fdp_fill.mp ?_) ?_
    · rw [(laws.cal_holds hj).mpr phase]
      nofun
    · rintro (⟨fdp, -⟩ | ⟨fdp, -⟩)
      · exact gear (fdp ▸ first)
      · exact gear (fdp ▸ second)

end

/-! ### The supply given up to FRONT alone -/

section
variable {s : State}

/-- The requester granted holds the supply and waits no longer (R72). -/
theorem State.grantTo_arbiter (s : State) (r : Requester) :
    (s.grantTo r).fsa.holder = some r ∧ (s.grantTo r).fsa.waiting = s.fsa.waiting.put r false := by
  cases r with
  | shift =>
    change (State.grantShift _).fsa.holder = _ ∧ (State.grantShift _).fsa.waiting = _
    unfold State.grantShift
    split <;> exact ⟨rfl, rfl⟩
  | front => exact ⟨rfl, rfl⟩
  | cal =>
    change (State.grantCal _).fsa.holder = _ ∧ (State.grantCal _).fsa.waiting = _
    unfold State.grantCal
    split <;> exact ⟨rfl, rfl⟩

theorem State.grantTo_calFree {r : Requester} (waits : s.fsa.waiting.cal = false) (hr : s.fsa.grantee = some r) :
    (s.grantTo r).fsa.waiting.cal = false ∧ (s.grantTo r).fsa.holder ≠ some .cal := by
  obtain ⟨holder, waiting⟩ := s.grantTo_arbiter r
  rw [holder, waiting]
  cases r with
  | shift => exact ⟨waits, nofun⟩
  | front => exact ⟨waits, nofun⟩
  | cal => exact absurd ((Supply.grantee_eq_some hr).2.symm.trans waits) nofun

/-- With CAL not waiting, no grant makes it the holder. -/
theorem frontClosed_calFree : frontClosed fun t => t.fsa.waiting.cal = false ∧ t.fsa.holder ≠ some .cal where
  own _ _ _ h := h
  front _ h := h
  fdp _ _ h := h
  kept h := h
  freed h := ⟨h.1, nofun⟩
  granted h hr _ := State.grantTo_calFree h.1 hr
  unfilled h hr _ := ⟨(State.grantTo_calFree h.1 hr).1, nofun⟩

theorem State.leaveFill_nts (s : State) (ps : List PackId) : (s.leaveFill ps).nts = s.nts := by
  unfold State.leaveFill
  simp only
  split
  · exact State.grantRounds_nts 3 _
  · rfl

/-- CAL holds the supply no longer once what it fills has left FILL (R73). -/
theorem State.leaveFill_calFree (waits : s.fsa.waiting.cal = false) {ps : List PackId}
    (freed : s.fsa.holder = some .cal → s.freedBy ps = true) : (s.leaveFill ps).fsa.holder ≠ some .cal := by
  by_cases h : s.freedBy ps = true
  · rw [State.leaveFill_of_freed h]
    exact (frontClosed_calFree.grantDecision (s := { s with fsa := { s.fsa with holder := none, fillList := [] } })
      ⟨waits, nofun⟩).2
  · rw [State.leaveFill_of_kept h]
    exact mt freed h

end

/-! ### A partner locks (R123) -/

/-- The other partner's fill timer. -/
def CalJob.otherTimer (j : CalJob) (x : Partner) : Option Nat :=
  match x with
  | .first => j.fill2
  | .second => j.fill1

section
variable {s : State} {j : CalJob} {x : Partner}

theorem CalJob.otherTimer_fills (h : (j.otherTimer x).isSome = true) : ∃ q, (j.stopFill x).fills q := by
  cases x
  · exact ⟨j.partner2, .inr ⟨rfl, h⟩⟩
  · exact ⟨j.partner1, .inl ⟨rfl, h⟩⟩

theorem CalJob.otherTimer_stopped (h : j.otherTimer x = none) (q : PackId) : ¬ (j.stopFill x).fills q := by
  refine CalJob.not_fills_of_stopped ?_ q
  cases x <;> simp_all [CalJob.otherTimer, CalJob.stopFill]

theorem CalJob.partner_fills (h : (j.fillTimer x).isSome = true) : j.fills (j.partner x) := by
  cases x
  · exact .inl ⟨rfl, h⟩
  · exact .inr ⟨rfl, h⟩

theorem State.partnerExpiry_runs (hj : s.cau.job = some j) (phase : j.phase = .filling)
    (runs : (j.fillTimer x).isSome = true) : s.partnerExpiry x = s.partnerFilled j x := by
  rw [State.partnerExpiry, hj]
  exact if_pos (by simp [phase, runs])

theorem State.partnerFilled_nts (s : State) (j : CalJob) (x : Partner) : (s.partnerFilled j x).nts = s.nts := by
  rw [State.partnerFilled_eq, State.leaveFill_nts]

/-- A partner locked, before the fill list hears of it. -/
def State.partnerLocked (s : State) (j : CalJob) (x : Partner) : State :=
  { s with packs := s.packs.order [j.partner x] PackRecord.fillToLocked
           cau := { s.cau with job := some (j.locked x) } }

theorem State.partnerFilled_frame (laws : s.drivelineLaw) (hj : s.cau.job = some j) (phase : j.phase = .filling) :
    (s.partnerLocked j x).FrontFrame (s.partnerFilled j x) := by
  rw [State.partnerFilled_eq]
  exact State.FrontFrame.leaveFill (s := s.partnerLocked j x) (laws.cal_alone hj (by simp [phase])) _

theorem State.partnerFilled_packs (laws : s.drivelineLaw) (hj : s.cau.job = some j) (phase : j.phase = .filling)
    (runs : (j.fillTimer x).isSome = true) {q : PackId} (hq : q ∈ gearboxPacks) :
    (s.partnerFilled j x).packs.get q =
      if q = j.partner x then { s.packs.get q with state := .locked } else s.packs.get q := by
  rw [(State.partnerFilled_frame laws hj phase).gearbox hq]
  refine (PackFile.get_order PackRecord.fillToLocked_isOrder.again _ _ _).trans ?_
  simp only [List.mem_singleton]
  split
  next h =>
    subst h
    have fill := (laws.supplied.fills _).mpr ((laws.cal_fillList hj phase).mpr (CalJob.partner_fills runs))
    exact PackRecord.fillToLocked_of_fill fill
  · rfl

/-- With the other partner filling, FILLING goes on. -/
theorem State.partnerFilled_goesOn (laws : s.drivelineLaw) (hj : s.cau.job = some j) (phase : j.phase = .filling)
    (other : (j.otherTimer x).isSome = true) :
    (s.partnerFilled j x).cau.job = some (j.stopFill x) ∧
      (s.partnerFilled j x).fsa =
        { s.fsa with fillList := s.fsa.fillList.filter fun q => decide (q ≠ j.partner x) } := by
  obtain ⟨-, -, -, -, -, ne⟩ := laws.cal_packs hj
  obtain ⟨q, hq⟩ := CalJob.otherTimer_fills other
  obtain ⟨fills, stays⟩ := (CalJob.stopFill_fills ne x q).mp hq
  have kept : ¬ (s.partnerLocked j x).freedBy [j.partner x] = true := fun freed =>
    stays (List.mem_singleton.mp ((State.freedBy_iff.mp freed).2 q ((laws.cal_fillList hj phase).mpr fills)))
  rw [State.partnerFilled_eq]
  change (State.leaveFill (s.partnerLocked j x) _).cau.job = _ ∧ (State.leaveFill (s.partnerLocked j x) _).fsa = _
  rw [State.leaveFill_of_kept kept]
  refine ⟨congrArg some (CalJob.locked_of_fills hq), ?_⟩
  simp [State.partnerLocked]

/-- The last partner's lock sets the supply free and begins SETTLING. -/
theorem State.partnerFilled_settles (laws : s.drivelineLaw) (hj : s.cau.job = some j) (phase : j.phase = .filling)
    (runs : (j.fillTimer x).isSome = true) (other : j.otherTimer x = none) :
    (s.partnerFilled j x).cau.job = some { j.stopFill x with phase := .settling, settle := some 500 } ∧
      (s.partnerFilled j x).fsa.holder ≠ some .cal := by
  obtain ⟨-, -, -, -, -, ne⟩ := laws.cal_packs hj
  have stopped := CalJob.otherTimer_stopped other
  have freed : (s.partnerLocked j x).freedBy [j.partner x] = true := by
    refine State.freedBy_iff.mpr ⟨List.ne_nil_of_mem ((laws.cal_fillList hj phase).mpr (CalJob.partner_fills runs)), ?_⟩
    refine fun q hq => List.mem_singleton.mpr ?_
    by_contra stays
    exact stopped q ((CalJob.stopFill_fills ne x q).mpr ⟨(laws.cal_fillList hj phase).mp hq, stays⟩)
  constructor
  · rw [(State.partnerFilled_frame laws hj phase).others]
    exact congrArg some (CalJob.locked_of_not_fills stopped)
  · rw [State.partnerFilled_eq]
    exact State.leaveFill_calFree (s := s.partnerLocked j x) (laws.cal_alone hj (by simp [phase])).2 fun _ => freed

end

/-! ### The steps (R124, R125) -/

section
variable {s : State} {j : CalJob}

theorem PackFile.order_single (f : PackFile) (g : PackRecord → PackRecord) (p : PackId) :
    f.order [p] g = f.set p (g (f.get p)) := rfl

theorem State.settleExpiry_runs (hj : s.cau.job = some j) (phase : j.phase = .settling)
    (runs : j.settle.isSome = true) : s.settleExpiry = s.startStepping j := by
  rw [State.settleExpiry, hj]
  exact if_pos (by simp [phase, runs])

theorem State.stepExpiry_runs (hj : s.cau.job = some j) (phase : j.phase = .stepping)
    (runs : j.step.isSome = true) : s.stepExpiry = s.nextStep j := by
  rw [State.stepExpiry, hj]
  exact if_pos (by simp [phase, runs])

/-- The pack under test waits for STEPPING RELEASED. -/
theorem State.drivelineLaw.cal_settling (laws : s.drivelineLaw) (hj : s.cau.job = some j)
    (phase : j.phase = .settling) : (s.packs.get j.pack).state = .released := by
  have places := (CalJob.places_settling phase).mp (laws.cal_places hj (laws.cal_packs hj).1)
  rwa [if_pos rfl] at places

/-- SETTLING ends: Ne_ref taken, the step timer started, and the pack in CAL_STEP at its staged fields (R124). -/
theorem State.startStepping_eq (laws : s.drivelineLaw) (hj : s.cau.job = some j) (phase : j.phase = .settling) :
    s.startStepping j =
      { s with
        cau := { s.cau with
          job := some { j with phase := .stepping, settle := none, step := some s.cau.interval }
          neRef := s.mfe.ne.held
          stepCount := 0 }
        packs := s.packs.set j.pack { (s.packs.get j.pack).applyStaged with state := .calStep } } := by
  rw [← PackRecord.toCalStep_of_released (laws.cal_settling hj phase), ← PackFile.order_single]
  rfl

/-- NO_KISS finds the pack in CAL_STEP and its partners LOCKED (R124, R125). -/
theorem State.drivelineLaw.get_noKiss (laws : s.drivelineLaw) (hj : s.cau.job = some j) (phase : j.phase = .stepping)
    (q : PackId) :
    (s.packs.noKiss j).get q =
      if q = j.pack then { s.packs.get q with state := .fault, cause := .cal }
      else if q = j.partner1 ∨ q = j.partner2 then { s.packs.get q with state := .released }
      else s.packs.get q := by
  obtain ⟨pack, first, second, ne1, ne2, -⟩ := laws.cal_packs hj
  have places {p : PackId} (hp : p ∈ gearboxPacks) := (CalJob.places_stepping phase).mp (laws.cal_places hj hp)
  rw [PackFile.get_noKiss]
  by_cases tested : q = j.pack
  · subst tested
    have calStep := places pack
    rw [if_pos rfl] at calStep
    simp [ne1.symm, ne2.symm, PackRecord.calFault_of_calStep calStep]
  · by_cases partner : q = j.partner1 ∨ q = j.partner2
    · have gear : q ∈ gearboxPacks := by rcases partner with rfl | rfl <;> assumption
      have locked := places gear
      rw [if_neg tested, if_pos partner] at locked
      simp [tested, partner, PackRecord.release_of_ne_fault (p := s.packs.get q) (by simp [locked])]
    · simp [tested, partner]

/-- Every entry on a pack in FAULT is formed unusable (R54). -/
theorem RatioMap.reform_faulted (m : RatioMap) {f : PackFile} {p : PackId} (fault : (f.get p).state = .fault) :
    (m.entries.map fun e => if e.uses [p] then { e with usable := formUsable m f e } else e) =
      m.entries.map fun e => if p ∈ e.packs then { e with usable := false } else e := by
  refine List.map_congr_left fun e _ => ?_
  simp only [RatioEntry.uses_iff, List.mem_singleton, exists_eq_left]
  split
  next mem =>
    have unusable : formUsable m f e = false := by
      rw [Bool.eq_false_iff, Ne, formUsable_iff]
      exact fun usable => usable.2 p mem fault
    rw [unusable]
  · rfl

/-- NO_KISS: the unit ends with the pack in FAULT, its partners released and the entries on it unusable (R125). -/
theorem State.noKiss_eq (laws : s.drivelineLaw) (hj : s.cau.job = some j) (phase : j.phase = .stepping) :
    s.noKiss j =
      State.offer
        (State.endCalibration
          { s with
            packs := s.packs.noKiss j
            rmp := { s.rmp with entries := s.rmp.entries.map fun e =>
              if j.pack ∈ e.packs then { e with usable := false } else e } })
        (.cal .noKiss) (s.calFigures j ++ [2, 0]) := by
  have places := (CalJob.places_stepping phase).mp (laws.cal_places hj (laws.cal_packs hj).1)
  rw [if_pos rfl] at places
  have fault : ((s.packs.order [j.pack] PackRecord.calFault).get j.pack).state = .fault := by
    rw [PackFile.get_order PackRecord.calFault_again, if_pos List.mem_cons_self, PackRecord.calFault_of_calStep places]
  rw [← RatioMap.reform_faulted s.rmp fault, ← State.endCalibration_offer]
  simp only [State.noKiss, State.offerCal_eq]
  rfl

end

/-- Settles O45, phase by phase. -/
theorem calibrationTimersRaiseThePressure : Obligations.CalibrationTimersRaiseThePressure := by
  intro j s held laws hj
  refine ⟨fun which phase runs => ?_, fun phase runs => ?_, fun phase runs => ⟨fun more => ?_, fun last => ?_⟩,
    fun phase which => ?_, fun phase => ?_, fun phase => ?_⟩
  · have nts := State.partnerFilled_nts s j which
    have packs {q : PackId} (hq : q ∈ gearboxPacks) := State.partnerFilled_packs laws hj phase runs hq
    have she := (State.partnerFilled_frame (x := which) laws hj phase).she
    have expires := State.partnerExpiry_runs hj phase runs
    have done : exec (.partnerFillTimerExpiry which) s = .next (s.partnerFilled j which) := by
      rw [exec_partnerFillTimerExpiry, event_short held (by rw [expires, nts]; exact Nat.le_succ _), expires]
    have goesOn := State.partnerFilled_goesOn (x := which) laws hj phase
    have settles := State.partnerFilled_settles laws hj phase runs
    cases which with
    | first => exact ⟨_, done, fun q hq => packs hq, goesOn, settles, she, nts⟩
    | second => exact ⟨_, done, fun q hq => packs hq, goesOn, settles, she, nts⟩
  · have expires : s.settleExpiry = _ := (State.settleExpiry_runs hj phase runs).trans (State.startStepping_eq laws hj phase)
    rw [exec_settleTimerExpiry, event_short held (by rw [expires]; exact Nat.le_succ _), expires,
      PackRecord.applyStaged_eq]
  · have expires : s.stepExpiry = _ := (State.stepExpiry_runs hj phase runs).trans (if_pos more)
    rw [exec_stepTimerExpiry, event_short held (by rw [expires]; exact Nat.le_succ _), expires]
  · have expires : s.stepExpiry = _ :=
      ((State.stepExpiry_runs hj phase runs).trans (if_neg (not_lt.mpr last))).trans (State.noKiss_eq laws hj phase)
    refine ⟨s.packs.noKiss j, laws.get_noKiss hj phase, ?_⟩
    rw [exec_stepTimerExpiry, event_offer held expires rfl, State.calFigures, if_pos phase, if_pos phase]
    rfl
  · refine event_same held ?_
    rw [State.partnerExpiry, hj]
    exact if_neg (by simp [phase])
  · refine event_same held ?_
    rw [State.settleExpiry, hj]
    exact if_neg (by simp [phase])
  · refine event_same held ?_
    rw [State.stepExpiry, hj]
    exact if_neg (by simp [phase])

end Sys2Proof.Machine

namespace Sys2Proof.Machine

/-! ## The ends of a calibration (R125, R126)

What an abort needs of the unit, the packs and the arbiter stays true where FRONT acts first at the same
event, even where it frees the supply and the waiting calibration is granted it. -/

/-! ### What FRONT leaves of a running calibration -/

/-- A calibration that stands, or one that was WAITING and has been granted the supply (R123). -/
inductive CalJob.goesOn (j : CalJob) : CalJob → Prop where
  | stands : j.goesOn j
  | granted (time1 time2 : Nat) (waited : j.phase = .waiting) :
      j.goesOn { j with phase := .filling, fill1 := some time1, fill2 := some time2 }

section
variable {j j' : CalJob}

theorem CalJob.goesOn.packs_eq (h : j.goesOn j') : j'.packs = j.packs := by cases h <;> rfl

theorem CalJob.goesOn.partners_eq (h : j.goesOn j') :
    j'.pack = j.pack ∧ j'.partner1 = j.partner1 ∧ j'.partner2 = j.partner2 := by
  cases h <;> exact ⟨rfl, rfl, rfl⟩

theorem CalJob.goesOn.phase_eq (h : j.goesOn j') : j'.phase = j.phase ∨ (j.phase = .waiting ∧ j'.phase = .filling) := by
  cases h with
  | stands => exact .inl rfl
  | granted _ _ waited => exact .inr ⟨waited, rfl⟩

/-- Past its wait, a calibration stands. -/
theorem CalJob.goesOn.eq_of_past (h : j.goesOn j') (past : j.phase ≠ .waiting) : j' = j := by
  cases h with
  | stands => rfl
  | granted _ _ waited => exact absurd waited past

theorem CalJob.goesOn.waiting (h : j.goesOn j') (waits : j'.phase = .waiting) : j' = j := by
  cases h with
  | stands => rfl
  | granted _ _ waited => cases waits

/-- STEPPING is entered by no grant: the figures of a notice stand. -/
theorem CalJob.goesOn.stepping_iff (h : j.goesOn j') : j'.phase = .stepping ↔ j.phase = .stepping := by
  cases h with
  | stands => exact Iff.rfl
  | granted _ _ waited => exact iff_of_false nofun (by simp [waited])

end

/-- What a state `v` still has of a state `s` with calibration `j`, after FRONT acted and the engine and the
unit did not: an abort finds of the unit and the packs what it gives up. -/
structure State.calStands (s : State) (j : CalJob) (v : State) : Prop where
  engine : v.she = s.she
  unit : ∃ j', j.goesOn j' ∧ v.cau = { s.cau with job := some j' }
  shift : v.fsa.waiting.shift = false
  waits : v.fsa.waiting.cal = true → v.cau.inPhase .waiting
  sound : ∀ p ∈ j.packs, (v.packs.get p).state ≠ .fault
  packs : ∀ p ∈ gearboxPacks, (j.phase = .waiting → p ∉ j.packs) → v.packs.get p = s.packs.get p

/-- The calibration holds the supply in FILLING alone, with its partners in the list (R70, R123). -/
def State.calFills (v : State) (j : CalJob) : Prop :=
  v.fsa.holder = some .cal → v.cau.inPhase .filling ∧ v.freedBy [j.partner1, j.partner2] = true

section
variable {s v : State} {j : CalJob}

theorem State.calStands.of_supply (h : s.calStands j v) {t : State} (she : t.she = v.she) (cau : t.cau = v.cau)
    (packs : t.packs = v.packs)
    (waiting : t.fsa.waiting.shift = v.fsa.waiting.shift ∧ t.fsa.waiting.cal = v.fsa.waiting.cal) :
    s.calStands j t where
  engine := she ▸ h.engine
  unit := cau ▸ h.unit
  shift := waiting.1.trans h.shift
  waits hw := cau ▸ h.waits (waiting.2.symm.trans hw)
  sound := packs ▸ h.sound
  packs := packs ▸ h.packs

/-- FDP moved: the calibration's packs are gearbox packs. -/
theorem State.calStands.of_fdp (h : s.calStands j v) (gear : ∀ p ∈ j.packs, p ∈ gearboxPacks) {f : PackFile}
    (others : ∀ p, p ≠ .fdp → f.get p = v.packs.get p) : s.calStands j { v with packs := f } where
  engine := h.engine
  unit := h.unit
  shift := h.shift
  waits := h.waits
  sound p hp := by
    change (f.get p).state ≠ .fault
    rw [others p (mem_gearboxPacks.mp (gear p hp))]
    exact h.sound p hp
  packs p hp tested := (others p (mem_gearboxPacks.mp hp)).trans (h.packs p hp tested)

/-- A calibration granted the supply: its partners are ordered into FILL (R123). -/
theorem State.grantTo_cal_parts (hj : v.cau.job = some j) :
    (∃ time1 time2, (v.grantTo .cal).cau =
        { v.cau with job := some { j with phase := .filling, fill1 := some time1, fill2 := some time2 } }) ∧
      (v.grantTo .cal).packs = v.packs.order [j.partner1, j.partner2] PackRecord.toFill ∧
      (v.grantTo .cal).she = v.she ∧ ∀ p ∈ (v.grantTo .cal).fsa.fillList, p ∈ [j.partner1, j.partner2] := by
  simp only [State.grantTo, State.grantCal, hj]
  exact ⟨⟨_, _, rfl⟩, rfl, rfl, fun p hp => (List.mem_filter.mp hp).1⟩

theorem State.calStands.grantTo_cal (h : s.calStands j v) (hg : v.fsa.grantee = some .cal) :
    s.calStands j (v.grantTo .cal) ∧ ((v.grantTo .cal).fsa.fillList ≠ [] → (v.grantTo .cal).calFills j) := by
  obtain ⟨j', goesOn, unit⟩ := h.unit
  have hj' : v.cau.job = some j' := congrArg CalUnit.job unit
  have waited : j'.phase = .waiting :=
    (CalUnit.inPhase_of_some hj' _).mp (h.waits (Supply.grantee_eq_some hg).2)
  obtain rfl := goesOn.waiting waited
  obtain ⟨⟨time1, time2, cau⟩, packs, she, listed⟩ := State.grantTo_cal_parts hj'
  obtain ⟨-, waiting⟩ := v.grantTo_arbiter .cal
  have partners {p : PackId} (hp : p ∈ [j'.partner1, j'.partner2]) : p ∈ j'.packs := List.mem_cons_of_mem _ hp
  refine ⟨?_, fun some _ => ⟨⟨_, congrArg CalUnit.job cau, rfl⟩, State.freedBy_iff.mpr ⟨some, listed⟩⟩⟩
  constructor
  case engine => exact she.trans h.engine
  case unit => exact ⟨_, .granted time1 time2 waited, by rw [cau, unit]⟩
  case shift => rw [waiting]; exact h.shift
  case waits => rw [waiting]; nofun
  case sound =>
    intro p hp
    rw [packs]
    exact mt (PackFile.fault_order PackRecord.toFill_isOrder _ _ p).mp (h.sound p hp)
  case packs =>
    intro p hp tested
    rw [packs, PackFile.get_order_not_mem PackRecord.toFill_isOrder.again (mt partners (tested waited))]
    exact h.packs p hp tested

theorem State.calStands.grantTo_front (h : s.calStands j v) (gear : ∀ p ∈ j.packs, p ∈ gearboxPacks) :
    s.calStands j (v.grantTo .front) :=
  (h.of_fdp gear fun p hp =>
    PackFile.get_order_not_mem (ps := [.fdp]) PackRecord.toFill_isOrder.again (by simpa using hp)).of_supply
      rfl rfl rfl ⟨rfl, rfl⟩

/-- FRONT leaves what an abort gives up, or sees the waiting calibration granted the supply. -/
theorem frontClosed_cal (gear : ∀ p ∈ j.packs, p ∈ gearboxPacks) :
    frontClosed fun v => s.calStands j v ∧ v.calFills j where
  own _ _ _ h := ⟨h.1.of_supply rfl rfl rfl ⟨rfl, rfl⟩, h.2⟩
  front _ h := ⟨h.1.of_supply rfl rfl rfl ⟨rfl, rfl⟩, h.2⟩
  fdp _ _ h := by
    refine ⟨(h.1.of_fdp gear fun p hp => ?_).of_supply rfl rfl rfl ⟨rfl, rfl⟩, h.2⟩
    exact (PackFile.get_update ..).trans (if_neg hp)
  kept := by
    rintro v ⟨stands, fills⟩
    refine ⟨stands.of_supply rfl rfl rfl ⟨rfl, rfl⟩, fun holds => ?_⟩
    obtain ⟨filling, freed⟩ := fills holds
    obtain ⟨listed, partners⟩ := State.freedBy_iff.mp freed
    have others : (v.fsa.fillList.filter fun p => !(List.contains [.fdp] p)) = v.fsa.fillList :=
      List.filter_eq_self.mpr fun p hp => by
        simpa using mem_gearboxPacks.mp (gear p (List.mem_cons_of_mem _ (partners p hp)))
    exact ⟨filling, State.freedBy_iff.mpr (others.symm ▸ ⟨listed, partners⟩)⟩
  freed h := ⟨h.1.of_supply rfl rfl rfl ⟨rfl, rfl⟩, nofun⟩
  granted := by
    rintro v r ⟨stands, -⟩ hr listed
    cases r with
    | shift => exact absurd ((Supply.grantee_eq_some hr).2.symm.trans stands.shift) nofun
    | front => exact ⟨stands.grantTo_front gear, nofun⟩
    | cal => exact ⟨(stands.grantTo_cal hr).1, (stands.grantTo_cal hr).2 listed⟩
  unfilled := by
    rintro v r ⟨stands, -⟩ hr -
    refine ⟨?_, nofun⟩
    cases r with
    | shift => exact absurd ((Supply.grantee_eq_some hr).2.symm.trans stands.shift) nofun
    | front => exact (stands.grantTo_front gear).of_supply rfl rfl rfl ⟨rfl, rfl⟩
    | cal => exact (stands.grantTo_cal hr).1.of_supply rfl rfl rfl ⟨rfl, rfl⟩

theorem frontClosed.evaluateFront {P : State → Prop} (h : frontClosed P) (hs : P s) : P s.evaluateFront :=
  h.actOnFdp (h.own (s.frd.evaluate s.causes) s.tbc s.nts hs)

theorem frontClosed.slipUpdate {P : State → Prop} (h : frontClosed P) (hs : P s) : P s.slipUpdate :=
  h.evaluateFront (h.own (s.frd.slipUpdate s.tre.slip s.tre.slipValid s.mfe.vg.held s.mfe.vg.failed) s.tbc s.nts hs)

/-! ### The calibration as the laws have it -/

/-- No pack of a calibration is in FAULT (R123, R124). -/
theorem CalJob.places.no_fault {id : PackId} {p : PackRecord} (h : j.places id p) (hid : id ∈ j.packs) :
    p.state ≠ .fault := by
  simp only [CalJob.packs, List.mem_cons, List.not_mem_nil, or_false] at hid
  intro fault
  cases phase : j.phase with
  | waiting => simp [CalJob.places_waiting phase, CalJob.packs, hid, fault] at h
  | filling =>
    rw [CalJob.places_filling phase, fault] at h
    split_ifs at h
    simp_all
  | settling =>
    rw [CalJob.places_settling phase, fault] at h
    split_ifs at h
    simp_all
  | stepping =>
    rw [CalJob.places_stepping phase, fault] at h
    split_ifs at h
    simp_all

theorem State.drivelineLaw.cal_gearbox (laws : s.drivelineLaw) (hj : s.cau.job = some j) :
    ∀ p ∈ j.packs, p ∈ gearboxPacks := by
  obtain ⟨pack, first, second, -⟩ := laws.cal_packs hj
  simp only [CalJob.packs, List.mem_cons, List.not_mem_nil, or_false]
  rintro p (rfl | rfl | rfl) <;> assumption

/-- The laws of the driveline say of a running calibration what an abort needs. -/
theorem State.drivelineLaw.calStands (laws : s.drivelineLaw) (hj : s.cau.job = some j) :
    s.calStands j s ∧ s.calFills j := by
  refine ⟨⟨rfl, ⟨j, .stands, by rw [← hj]⟩, laws.cal_shift hj, laws.supplied.calWaits.mpr,
    fun p hp => (laws.cal_places hj (laws.cal_gearbox hj p hp)).no_fault hp, fun _ _ _ => rfl⟩, fun holds => ?_⟩
  have phase := (laws.cal_holds hj).mp holds
  refine ⟨⟨j, hj, phase⟩, State.freedBy_iff.mpr ⟨fun none => ?_, fun p hp => ?_⟩⟩
  · simp [laws.supplied.holds.mpr none] at holds
  · have fills := (laws.cal_fillList hj phase).mp hp
    simp only [List.mem_cons, List.not_mem_nil, or_false]
    exact fills.imp And.left And.left

/-! ### An abort -/

/-- The end of a calibration: the unit IDLE, the engine SETTLED in neutral, and CAL gone from the arbiter
(R125, R126). -/
structure State.calEnded (s t : State) : Prop where
  unit : t.cau = { s.cau with job := none }
  engine : t.she = { s.she with pr := 0, nr := 0, state := .settled }
  alone : t.fsa.frontAlone
  holder : t.fsa.holder ≠ some .cal

/-- What FRONT does after it is no part of the end. -/
theorem State.calEnded.andThen {t u : State} (h : s.calEnded t) (front : t.FrontFrame u)
    (holder : u.fsa.holder ≠ some .cal) : s.calEnded u where
  unit := by rw [front.others]; exact h.unit
  engine := front.she.trans h.engine
  alone := front.alone h.alone
  holder := holder

/-- A pack once a calibration has ended: its three are released. -/
def State.calFreed (s : State) (j : CalJob) (q : PackId) : PackRecord :=
  if q = j.pack ∨ q = j.partner1 ∨ q = j.partner2 then { s.packs.get q with state := .released } else s.packs.get q

theorem CalJob.mem_packs {q : PackId} : q ∈ j.packs ↔ q = j.pack ∨ q = j.partner1 ∨ q = j.partner2 := by
  simp [CalJob.packs]

/-- What an abort with a cause makes of a calibration `j` of a state `s` (R126, R128). -/
structure State.calAborted (s : State) (j : CalJob) (cause : Byte) (t : State) : Prop where
  ends : s.calEnded t
  packs : ∀ q ∈ gearboxPacks,
    (t.packs.get q).state = (s.calFreed j q).state ∧ (j.phase ≠ .waiting → t.packs.get q = s.calFreed j q)
  shows : s.nts.enabled (.cal .aborted) = true →
    ∃ phase : CalPhase, (j.phase ≠ .waiting → phase = j.phase) ∧
      t.nts.shows (.cal .aborted) (s.calFigures j ++ [cause, byte phase.code])

theorem State.calAborted.andThen {cause : Byte} {t u : State} (h : s.calAborted j cause t) (front : t.FrontFrame u)
    (holder : u.fsa.holder ≠ some .cal)
    (shows : ∀ {d}, t.nts.shows (.cal .aborted) d → u.nts.shows (.cal .aborted) d) : s.calAborted j cause u where
  ends := h.ends.andThen front holder
  packs q hq := by rw [front.gearbox hq]; exact h.packs q hq
  shows enabled := (h.shows enabled).imp fun _ ⟨same, shown⟩ => ⟨same, shows shown⟩

/-- The arbiter and the packs once a calibration is given up, before FRONT may be granted the supply. -/
def State.calCancelled (s : State) (j : CalJob) : State :=
  { s.orderPacks j.packs PackRecord.release with fsa := { s.fsa with waiting := s.fsa.waiting.put .cal false } }

/-- CAL holds the supply no longer, and FRONT alone may have been granted it (R73, R126). -/
theorem State.calGivenUp_frame (shift : s.fsa.waiting.shift = false)
    (waits : s.fsa.waiting.cal = true → j.phase = .waiting)
    (fills : s.fsa.holder = some .cal → j.phase = .filling ∧ s.freedBy [j.partner1, j.partner2] = true) :
    (s.calCancelled j).FrontFrame (s.calGivenUp j) ∧ (s.calGivenUp j).fsa.holder ≠ some .cal := by
  by_cases waiting : j.phase = .waiting
  · rw [State.calGivenUp_waiting waiting]
    exact ⟨.refl _, fun holds => absurd (waiting.symm.trans (fills holds).1) nofun⟩
  have absent : s.fsa.waiting.cal = false := Bool.eq_false_iff.mpr (mt waits waiting)
  have step : s.calCancelled j = s.orderPacks j.packs PackRecord.release := by
    rw [State.calCancelled, Waiting.put_same (r := .cal) absent]
    rfl
  rw [step]
  by_cases filling : j.phase = .filling
  · rw [State.calGivenUp_filling filling]
    exact ⟨State.FrontFrame.leaveFill (s := s.orderPacks j.packs PackRecord.release) ⟨shift, absent⟩ _,
      State.leaveFill_calFree (s := s.orderPacks j.packs PackRecord.release) absent fun holds => (fills holds).2⟩
  · rw [State.calGivenUp_other waiting filling]
    exact ⟨.refl _, fun holds => filling (fills holds).1⟩

theorem State.calGivenUp_nts (s : State) (j : CalJob) : (s.calGivenUp j).nts = s.nts := by
  unfold State.calGivenUp
  simp only
  split_ifs
  · exact State.leaveFill_nts _ _
  · exact State.leaveFill_nts _ _
  · rfl
  · rfl

/-- The figures of a notice are those of the calibration, granted the supply or not. -/
theorem CalJob.goesOn.figures {j' : CalJob} (h : j.goesOn j') (unit : v.cau = { s.cau with job := some j' }) :
    v.calFigures j' = s.calFigures j := by
  obtain ⟨pack, -⟩ := h.partners_eq
  simp only [State.calFigures, h.stepping_iff, pack, unit]

/-- The three packs released, from the packs of either state. -/
theorem State.calStands.get_released (h : s.calStands j v) {q : PackId} (hq : q ∈ gearboxPacks) :
    ((v.packs.order j.packs PackRecord.release).get q).state = (s.calFreed j q).state ∧
      (j.phase ≠ .waiting → (v.packs.order j.packs PackRecord.release).get q = s.calFreed j q) := by
  rw [PackFile.get_order PackRecord.release_isOrder.again, State.calFreed]
  simp only [← CalJob.mem_packs]
  by_cases used : q ∈ j.packs
  · rw [if_pos used, if_pos used, PackRecord.release_of_ne_fault (h.sound q used)]
    exact ⟨rfl, fun past => by rw [h.packs q hq fun waits => absurd waits past]⟩
  · have same := h.packs q hq fun _ => used
    rw [if_neg used, if_neg used, same]
    exact ⟨rfl, fun _ => rfl⟩

/-- An abort, whether or not FRONT acted first (R126). -/
theorem State.calStands.abort (h : s.calStands j v) (fills : v.calFills j) (enables : v.nts.enables = s.nts.enables)
    (c : AbortCause) : s.calAborted j (byte c.code) (v.abortCal c) := by
  obtain ⟨j', goesOn, unit⟩ := h.unit
  have hj' : v.cau.job = some j' := congrArg CalUnit.job unit
  obtain ⟨-, first, second⟩ := goesOn.partners_eq
  have phase (p : CalPhase) : v.cau.inPhase p ↔ j'.phase = p := CalUnit.inPhase_of_some hj' p
  obtain ⟨front, holder⟩ := State.calGivenUp_frame (s := v) (j := j') h.shift (fun waits => (phase _).mp (h.waits waits))
    fun holds => by
      obtain ⟨filling, freed⟩ := fills holds
      exact ⟨(phase _).mp filling, by rwa [first, second]⟩
  rw [State.abortCal_eq hj', goesOn.figures unit]
  constructor
  case ends =>
    refine ⟨?_, ?_, front.alone ⟨h.shift, rfl⟩, holder⟩
    · change { (v.calGivenUp j').cau with job := none } = _
      rw [front.others]
      change { v.cau with job := none } = _
      rw [unit]
    · change { (v.calGivenUp j').she with pr := 0, nr := 0, state := .settled } = _
      rw [front.she]
      exact congrArg (fun e : Engine => { e with pr := 0, nr := 0, state := .settled }) h.engine
  case packs =>
    intro q hq
    have released : (v.calGivenUp j').packs.get q = (v.packs.order j.packs PackRecord.release).get q := by
      rw [← goesOn.packs_eq]
      exact front.gearbox hq
    change ((v.calGivenUp j').packs.get q).state = _ ∧ (_ → (v.calGivenUp j').packs.get q = _)
    rw [released]
    exact h.get_released hq
  case shows =>
    intro enabled
    refine ⟨j'.phase, fun past => by rw [goesOn.eq_of_past past], NoticeSet.offer_shows ?_ _⟩
    change (v.calGivenUp j').nts.enabled _ = true
    rw [State.calGivenUp_nts]
    simpa only [NoticeSet.enabled, enables] using enabled

/-! ### A kiss -/

/-- The fill pressure a kiss writes: two below the step pressure and at least 5 (R125). -/
def State.kissPressure (s : State) : Nat := max 5 (20 + s.cau.stepCount - 2)

/-- The packs after a kiss: the three released, the pack under test with its new fill pressure (R125). -/
def State.kissPacks (s : State) (j : CalJob) : PackFile :=
  (s.packs.order j.packs PackRecord.release).update (PackRecord.withPf s.kissPressure) j.pack

/-- A kiss: the unit ends with the packs released, and CAL tells the fill pressures before and after (R125, R128). -/
theorem State.kiss_eq (s : State) (j : CalJob) :
    s.kiss j =
      State.offer (State.endCalibration { s with packs := s.kissPacks j }) (.cal .done)
        (s.calFigures j ++ [byte (s.packs.get j.pack).active.pf, byte s.kissPressure]) := by
  rw [← State.endCalibration_offer]
  simp only [State.kiss, State.offerCal_eq]
  rfl

/-- What a kiss makes of a calibration `j` of a state `s` (R125, R128). -/
structure State.calKissed (s : State) (j : CalJob) (t : State) : Prop where
  ends : s.calEnded t
  packs : ∀ q ∈ gearboxPacks, t.packs.get q =
    if q = j.pack then
      { s.packs.get q with state := .released, active := { (s.packs.get q).active with pf := s.kissPressure } }
    else s.calFreed j q
  shows : s.nts.enabled (.cal .done) = true →
    t.nts.shows (.cal .done) (s.calFigures j ++ [byte (s.packs.get j.pack).active.pf, byte s.kissPressure])

theorem State.calKissed.of_order {t u : State} {n : Nat} (h : s.calKissed j t) (same : State.sameButOrder n t u) :
    s.calKissed j u where
  ends := h.ends.andThen (.of_order same) (same.fsa ▸ h.ends.holder)
  packs q hq := by rw [(State.FrontFrame.of_order same).gearbox hq]; exact h.packs q hq
  shows enabled := same.shows (h.shows enabled)

theorem State.calAborted.of_order {cause : Byte} {t u : State} {n : Nat} (h : s.calAborted j cause t)
    (same : State.sameButOrder n t u) : s.calAborted j cause u :=
  h.andThen (.of_order same) (same.fsa ▸ h.ends.holder) fun shown => same.shows shown

/-- A calibration past its wait stands as it is. -/
theorem State.calStands.unit_of_past (h : s.calStands j v) (hj : s.cau.job = some j) (past : j.phase ≠ .waiting) :
    v.cau = s.cau := by
  obtain ⟨j', goesOn, unit⟩ := h.unit
  rw [unit, goesOn.eq_of_past past, ← hj]

/-- A kiss, whether or not FRONT acted first. -/
theorem State.calStands.kiss (h : s.calStands j v) (fills : v.calFills j) (enables : v.nts.enables = s.nts.enables)
    (hj : s.cau.job = some j) (gear : ∀ p ∈ j.packs, p ∈ gearboxPacks) (stepping : j.phase = .stepping) :
    s.calKissed j (v.kiss j) := by
  have past : j.phase ≠ .waiting := by simp [stepping]
  have unit := h.unit_of_past hj past
  have phase {p : CalPhase} (inPhase : v.cau.inPhase p) : .stepping = p := by
    rw [unit] at inPhase
    exact stepping.symm.trans ((CalUnit.inPhase_of_some hj p).mp inPhase)
  have stands {q : PackId} (hq : q ∈ gearboxPacks) := h.packs q hq fun waits => absurd waits past
  have tested := stands (gear j.pack List.mem_cons_self)
  have pressure : v.kissPressure = s.kissPressure := by rw [State.kissPressure, unit]; rfl
  rw [State.kiss_eq, CalJob.goesOn.stands.figures (v := v) (unit.trans (by rw [← hj])), tested, pressure]
  constructor
  case ends =>
    refine ⟨?_, ?_, ⟨h.shift, ?_⟩, ?_⟩
    · exact congrArg (fun c : CalUnit => { c with job := none }) unit
    · exact congrArg (fun e : Engine => { e with pr := 0, nr := 0, state := .settled }) h.engine
    · exact Bool.eq_false_iff.mpr fun waits => absurd (phase (h.waits waits)) nofun
    · exact fun holds => absurd (phase (fills holds).1) nofun
  case packs =>
    intro q hq
    have released := (h.get_released hq).2 past
    change (v.kissPacks j).get q = _
    rw [State.kissPacks, PackFile.get_update, released, pressure]
    split
    next htested =>
      rw [State.calFreed, if_pos (.inl htested)]
      rfl
    · rfl
  case shows =>
    intro enabled
    refine NoticeSet.offer_shows ?_ _
    change v.nts.enabled _ = true
    simpa only [NoticeSet.enabled, enables] using enabled

/-! ### The tests on a running calibration -/

/-- The tests of a speed pair in their order (R125). -/
theorem State.calPair_eq (hj : s.cau.job = some j) (neValid : Bool) :
    s.calPair neValid =
      if s.mfe.no.state = .failed then s.abortCal .sensor
      else if 5 ≤ s.mfe.no.held then s.abortCal .outputSpeed
      else if j.phase = .stepping ∧ neValid = true ∧ s.mfe.ne.held + 30 ≤ s.cau.neRef then s.kiss j
      else if s.mfe.ne.state = .failed then s.abortCal .sensor
      else if s.mfe.ne.held < 900 ∨ 1500 < s.mfe.ne.held then s.abortCal .engineSpeed
      else s := by
  simp only [State.calPair, hj, Chan.failed, Bool.and_eq_true, Bool.or_eq_true, decide_eq_true_eq, and_assoc]

/-- The tests of a ground-speed arrival in their order (R126). -/
theorem State.calGround_eq (hj : s.cau.job = some j) :
    s.calGround =
      if s.mfe.vg.state = .failed then s.abortCal .sensor
      else if 10 ≤ s.mfe.vg.held then s.abortCal .groundSpeed
      else s := by
  simp only [State.calGround, hj, Chan.failed, decide_eq_true_eq]

/-- The pair's dip in STEPPING is judged against the calibration's own figures, granted the supply or not. -/
theorem State.calStands.pair (h : s.calStands j v) (neValid : Bool) :
    v.calPair neValid =
      if v.mfe.no.state = .failed then v.abortCal .sensor
      else if 5 ≤ v.mfe.no.held then v.abortCal .outputSpeed
      else if j.phase = .stepping ∧ neValid = true ∧ v.mfe.ne.held + 30 ≤ s.cau.neRef then v.kiss j
      else if v.mfe.ne.state = .failed then v.abortCal .sensor
      else if v.mfe.ne.held < 900 ∨ 1500 < v.mfe.ne.held then v.abortCal .engineSpeed
      else v := by
  obtain ⟨j', goesOn, unit⟩ := h.unit
  have ref : v.cau.neRef = s.cau.neRef := by rw [unit]
  simp only [State.calPair_eq (congrArg CalUnit.job unit), goesOn.stepping_iff, ref]
  by_cases stepping : j.phase = .stepping
  · rw [goesOn.eq_of_past (by simp [stepping])]
  · simp [stepping]

/-- What becomes of a calibration at a speed pair, once the engine has taken it (R125). -/
theorem State.calStands.pair_outcome (h : s.calStands j v) (fills : v.calFills j)
    (enables : v.nts.enables = s.nts.enables) (hj : s.cau.job = some j) (gear : ∀ p ∈ j.packs, p ∈ gearboxPacks)
    {neValid : Bool} {n : Nat} {t : State} (same : State.sameButOrder n (v.calPair neValid) t) :
    let kiss := j.phase = .stepping ∧ neValid = true ∧ v.mfe.ne.held + 30 ≤ s.cau.neRef
    let outside := v.mfe.ne.held < 900 ∨ 1500 < v.mfe.ne.held
    (v.mfe.no.state = .failed → s.calAborted j 5 t) ∧
    (v.mfe.no.state ≠ .failed → 5 ≤ v.mfe.no.held → s.calAborted j 3 t) ∧
    (v.mfe.no.state ≠ .failed → v.mfe.no.held < 5 → kiss → s.calKissed j t) ∧
    (v.mfe.no.state ≠ .failed → v.mfe.no.held < 5 → ¬ kiss → v.mfe.ne.state = .failed → s.calAborted j 5 t) ∧
    (v.mfe.no.state ≠ .failed → v.mfe.no.held < 5 → ¬ kiss → v.mfe.ne.state ≠ .failed → outside →
      s.calAborted j 4 t) ∧
    (v.mfe.no.state ≠ .failed → v.mfe.no.held < 5 → ¬ kiss → v.mfe.ne.state ≠ .failed → ¬ outside →
      State.sameButOrder n v t) := by
  intro kiss outside
  have abort (cause : AbortCause) := h.abort fills enables cause
  rw [h.pair] at same
  refine ⟨fun failed => ?_, fun heard moves => ?_, fun heard still kissed => ?_, fun heard still none failed => ?_,
    fun heard still none sound out => ?_, fun heard still none sound inside => ?_⟩
  · rw [if_pos failed] at same
    exact (abort .sensor).of_order same
  · rw [if_neg heard, if_pos moves] at same
    exact (abort .outputSpeed).of_order same
  · rw [if_neg heard, if_neg (not_le.mpr still), if_pos kissed] at same
    exact (h.kiss fills enables hj gear kissed.1).of_order same
  · rw [if_neg heard, if_neg (not_le.mpr still), if_neg none, if_pos failed] at same
    exact (abort .sensor).of_order same
  · rw [if_neg heard, if_neg (not_le.mpr still), if_neg none, if_neg sound, if_pos out] at same
    exact (abort .engineSpeed).of_order same
  · rwa [if_neg heard, if_neg (not_le.mpr still), if_neg none, if_neg sound, if_neg inside] at same

/-- What becomes of a calibration at a ground-speed arrival (R126). -/
theorem State.calStands.ground_outcome (h : s.calStands j v) (fills : v.calFills j)
    (enables : v.nts.enables = s.nts.enables) {n : Nat} {t : State} (same : State.sameButOrder n v.calGround t) :
    (v.mfe.vg.state = .failed → s.calAborted j 5 t) ∧
    (v.mfe.vg.state ≠ .failed → 10 ≤ v.mfe.vg.held → s.calAborted j 2 t) ∧
    (v.mfe.vg.state ≠ .failed → v.mfe.vg.held < 10 → State.sameButOrder n v t) := by
  obtain ⟨j', -, unit⟩ := h.unit
  have abort (cause : AbortCause) := h.abort fills enables cause
  rw [State.calGround_eq (congrArg CalUnit.job unit)] at same
  refine ⟨fun failed => ?_, fun heard moves => ?_, fun heard still => ?_⟩
  · rw [if_pos failed] at same
    exact (abort .sensor).of_order same
  · rw [if_neg heard, if_pos moves] at same
    exact (abort .groundSpeed).of_order same
  · rwa [if_neg heard, if_neg (not_le.mpr still)] at same

/-- An event that ends nothing leaves the engine and the calibration, granted the supply or not. -/
theorem State.calStands.of_order (h : s.calStands j v) {n : Nat} {t : State} (same : State.sameButOrder n v t) :
    t.she = s.she ∧
      ∃ j', t.cau.job = some j' ∧ (j'.phase = j.phase ∨ (j.phase = .waiting ∧ j'.phase = .filling)) := by
  obtain ⟨j', goesOn, unit⟩ := h.unit
  obtain ⟨_, _, -, rfl⟩ := same
  exact ⟨h.engine, j', congrArg CalUnit.job unit, goesOn.phase_eq⟩

/-! ### The arrivals before the calibration takes them -/

/-- The engine takes nothing of a pair with no shift in flight. -/
theorem State.shiftPair_of_none (h : s.she.record = none) (neValid : Bool) : s.shiftPair neValid = s := by
  have examined : s.examineOnset neValid = s := by rw [State.examineOnset, h]
  rw [State.shiftPair, examined, State.confirmPair, h]
  split
  next flying => cases flying
  · rfl

theorem State.drivelineLaw.cal_record (laws : s.drivelineLaw) (hj : s.cau.job = some j) : s.she.record = none := by
  obtain ⟨-, -, record, -⟩ := id laws
  obtain ⟨flight, -, -⟩ := s.recordLaw_iff.mp record
  rw [laws.calHold hj] at flight
  exact Option.not_isSome_iff_eq_none.mp (by rw [flight]; exact Bool.false_ne_true)

/-- A running calibration at a speed pair, the slip withdrawn where it is lost (R29, R40). -/
theorem State.drivelineLaw.cal_pairTaken (laws : s.drivelineLaw) (hj : s.cau.job = some j) (ne no : Sample) :
    s.calStands j (s.pairTaken ne no) ∧ (s.pairTaken ne no).calFills j := by
  obtain ⟨stands, fills⟩ := laws.calStands hj
  have closed := frontClosed_cal (s := s) (laws.cal_gearbox hj)
  rw [State.pairTaken, State.withdrawSlip_eq]
  split
  · exact closed.slipUpdate ⟨stands.of_supply rfl rfl rfl ⟨rfl, rfl⟩, fills⟩
  · exact ⟨stands.of_supply rfl rfl rfl ⟨rfl, rfl⟩, fills⟩

/-- A running calibration takes a speed pair as the estimator leaves it. -/
theorem State.drivelineLaw.cal_speedPair (laws : s.drivelineLaw) (hj : s.cau.job = some j) (ne no : Sample) :
    s.speedPair ne no = (s.pairTaken ne no).calPair ne.valid := by
  rw [State.speedPair_eq, State.shiftPair_of_none]
  rw [(laws.cal_pairTaken hj ne no).1.engine]
  exact laws.cal_record hj

/-- A running calibration at a ground-speed arrival, the slip formed (R29, R39). -/
theorem State.drivelineLaw.cal_groundTaken (laws : s.drivelineLaw) (hj : s.cau.job = some j) (vg : Sample) :
    s.calStands j (s.formGround vg).slipUpdate ∧ (s.formGround vg).slipUpdate.calFills j := by
  obtain ⟨stands, fills⟩ := laws.calStands hj
  exact (frontClosed_cal (s := s) (laws.cal_gearbox hj)).slipUpdate (s := s.formGround vg)
    ⟨stands.of_supply rfl rfl rfl ⟨rfl, rfl⟩, fills⟩

theorem State.groundSpeed_eq (s : State) (vg : Sample) : s.groundSpeed vg = (s.formGround vg).slipUpdate.calGround := rfl

theorem ChargeState.eq_ok {c : ChargeState} (h : c ≠ .low) : c = .ok := by
  cases c with
  | ok => rfl
  | low => exact absurd rfl h

/-- A FAILED channel and a pressure below the threshold are judged LOW (R66). -/
theorem chargeAfter_low {pc : Chan} {pcMin : Nat} (h : pc.state = .failed ∨ pc.held < pcMin) (present : ChargeState) :
    chargeAfter pc pcMin present = .low := by
  rw [chargeAfter_eq]
  rcases h with failed | below
  · exact if_pos failed
  · rw [if_pos below, ite_self]

/-- A charge state that goes to LOW takes a waiting calibration's request back and ends it (R67, R126). -/
theorem State.drivelineLaw.cal_lowCharge (laws : s.drivelineLaw) (hj : s.cau.job = some j) (waiting : j.phase = .waiting)
    {pc : Sample} (low : (s.judgeCharge pc).fsa.charge = .low) :
    (s.judgeCharge pc).chargeChanged =
      State.offer ((s.judgeCharge pc).offerCharge.cancelSupply .cal).endCalibration (.cal .aborted)
        [byte j.pack.code, 0, 0, 0, 6, 1] := by
  have waits : (s.judgeCharge pc).fsa.waiting.cal = true := (laws.cal_waits hj).mpr waiting
  have engine : (s.judgeCharge pc).offerCharge.chargeAtShift = (s.judgeCharge pc).offerCharge := by
    refine (State.chargeAtShift_eq _).trans (if_neg fun ⟨_, wait⟩ => ?_)
    exact absurd ((laws.calHold hj).symm.trans wait) nofun
  have rest (p : PackId) (hp : p ∈ j.packs) : (s.packs.get p).state = .released := by
    have places := (CalJob.places_waiting waiting).mp (laws.cal_places hj (laws.cal_gearbox hj p hp))
    rwa [if_pos hp] at places
  rw [State.chargeChanged_eq, if_neg (by simp [low]), if_pos waits, engine]
  exact State.abortCal_waiting (s := (s.judgeCharge pc).offerCharge) hj waiting rest .supply

/-- A charge arrival that fails or falls below the threshold ends a waiting calibration (R126). -/
theorem State.drivelineLaw.cal_chargeArrival (laws : s.drivelineLaw) (held : s.heldInReset = false)
    (hj : s.cau.job = some j) (waiting : j.phase = .waiting) (ok : s.fsa.charge = .ok) (pc : Sample) :
    ∃ t, exec (.chargeArrival pc) s = .next t ∧
      (t.mfe.pc.state = .failed ∨ t.mfe.pc.held < s.fsa.pcMin →
        s.calEnded t ∧ t.packs = s.packs ∧
          t.fsa = { s.fsa with charge := .low, waiting := { s.fsa.waiting with cal := false } } ∧
          (s.nts.enabled (.cal .aborted) = true → t.nts.shows (.cal .aborted) [byte j.pack.code, 0, 0, 0, 6, 1])) := by
  obtain ⟨t, done, stays, moves⟩ := exec_chargeArrival_judged held pc
  refine ⟨t, done, fun fails => ?_⟩
  have low : (s.judgeCharge pc).fsa.charge = .low := by
    by_contra high
    have same : (s.judgeCharge pc).fsa.charge = s.fsa.charge := (ChargeState.eq_ok high).trans ok.symm
    rw [stays same] at fails
    exact high (chargeAfter_low fails s.fsa.charge)
  have same := moves (by rw [low, ok]; nofun)
  rw [laws.cal_lowCharge hj waiting low] at same
  have shown (enabled : s.nts.enabled (.cal .aborted) = true) : t.nts.shows _ _ :=
    same.shows (NoticeSet.offer_shows ((NoticeSet.enabled_offer ..).trans enabled) _)
  have unheld : s.fsa.holder ≠ some .cal := mt (laws.cal_holds hj).mp (by simp [waiting])
  obtain ⟨_, _, -, rfl⟩ := same
  refine ⟨⟨rfl, rfl, ⟨laws.cal_shift hj, rfl⟩, unheld⟩, rfl, ?_, shown⟩
  exact congrArg (fun c => { s.fsa with charge := c, waiting := { s.fsa.waiting with cal := false } }) low

/-! ### A PARK falling edge -/

/-- The abort and the computation of the demand come in either order to the same end (R35, R126, R164). -/
theorem State.calStands.parkEdge (h : s.calStands j v) (fills : v.calFills j) (enables : v.nts.enables = s.nts.enables)
    (gear : ∀ p ∈ j.packs, p ∈ gearboxPacks) : s.calAborted j 1 (v.parkEdge false) := by
  have abortFirst := h.abort fills enables .park
  obtain ⟨stands, filled⟩ := (frontClosed_cal gear).computeDemand ⟨h, fills⟩
  rw [State.parkEdge_falls]
  refine eitherOrder_rule (P := s.calAborted j 1) ?_ ?_ fun t k aborted => ?_
  · obtain ⟨-, -, alone, holder⟩ := abortFirst.ends
    exact abortFirst.andThen (.computeDemand alone) (frontClosed_calFree.computeDemand ⟨alone.2, holder⟩).2
      fun shown => (State.computeDemand_frame _).shows nofun shown
  · exact stands.abort filled (v.computeDemand_frame.enables.trans enables) .park
  · exact aborted.andThen ⟨rfl, fun _ _ => rfl, id, id, fun _ listed _ => listed⟩ aborted.ends.holder id

end

/-- Settles O46: what the other blocks make of each event first, then the tests in their order. -/
theorem calibrationEndsAtAKissOrAnAbort : Obligations.CalibrationEndsAtAKissOrAnAbort := by
  intro j s held laws hj pk ref freed ended aborted
  have gear := laws.cal_gearbox hj
  have ends {t : State} (h : s.calEnded t) : ended t := ⟨h.unit, h.engine, h.alone.2, h.holder⟩
  have aborts {t : State} {cause : Byte} (h : s.calAborted j cause t) : aborted t cause := by
    refine ⟨ends h.ends, h.packs, fun enabled => ?_⟩
    obtain ⟨phase, same, x, hx, report, detail⟩ := h.shows enabled
    exact ⟨x, hx, report, by rw [detail]; rfl, fun past => by rw [detail, same past]; rfl⟩
  refine ⟨fun ne no => ?_, fun vg => ?_, fun pc waiting ok => ?_, fun c running falling => ?_⟩
  · obtain ⟨stands, fills⟩ := laws.cal_pairTaken hj ne no
    obtain ⟨t, done, same⟩ := event_sameButOrder (State.speedPair ne no) held
    rw [laws.cal_speedPair hj] at same
    have mfe : t.mfe = (s.pairTaken ne no).mfe := same.mfe.trans (State.MeasureFrame.calPair _ _).mfe
    obtain ⟨deaf, moves, kissed, lost, outOfRange, goesOn⟩ :=
      stands.pair_outcome fills (s.formPair ne no).withdrawSlip_frame.enables hj gear same
    refine ⟨t, done, ?_⟩
    rw [mfe]
    refine ⟨fun a => aborts (deaf a), fun a b => aborts (moves a b), fun a b kiss => ?_,
      fun a b c d => aborts (lost a b c d), fun a b c d e => aborts (outOfRange a b c d e),
      fun a b c d e => stands.of_order (goesOn a b c d e)⟩
    obtain ⟨closes, packs, shows⟩ := kissed a b kiss
    have pressure : max 5 (pk - 2) = s.kissPressure := by
      rw [show pk = 20 + s.cau.stepCount from if_pos kiss.1, State.kissPressure]
    rw [pressure]
    exact ⟨ends closes, packs, shows⟩
  · obtain ⟨stands, fills⟩ := laws.cal_groundTaken hj vg
    obtain ⟨t, done, same⟩ := event_sameButOrder (State.groundSpeed vg) held
    rw [State.groundSpeed_eq] at same
    have mfe : t.mfe = (s.formGround vg).slipUpdate.mfe := same.mfe.trans (State.MeasureFrame.calGround _).mfe
    obtain ⟨deaf, moves, goesOn⟩ :=
      stands.ground_outcome fills (State.MeasureFrame.slipUpdate (s.formGround vg)).enables same
    refine ⟨t, done, ?_⟩
    rw [mfe]
    refine ⟨fun a => aborts (deaf a), fun a b => aborts (moves a b), fun a b => ?_⟩
    obtain ⟨she, j', runs, -⟩ := stands.of_order (goesOn a b)
    exact ⟨she, Option.isSome_iff_exists.mpr ⟨j', runs⟩⟩
  · obtain ⟨t, done, lowers⟩ := laws.cal_chargeArrival held hj waiting ok pc
    exact ⟨t, done, fun fails => (lowers fails).imp_left ends⟩
  · obtain ⟨stands, fills⟩ := laws.calStands hj
    obtain ⟨t, done, same⟩ := State.debounce_answers held running rfl
    refine ⟨t, done, aborts (State.calAborted.of_order ?_ same)⟩
    rw [falling]
    have edge := State.calStands.parkEdge (v := s.settleInput .park false)
      (stands.of_supply rfl rfl rfl ⟨rfl, rfl⟩) fills rfl gear
    exact edge.andThen (.of_own _ _ _ _) edge.ends.holder fun shown =>
      shown.offer (r' := .input .park false) nofun _

end Sys2Proof.Machine
